-- ==== Sys2Proof/Word.lean ====
section
/-! DEFINITION. The word types of the DT12: bytes, block data and the small numberings of the manual
("Numbering of items", spec/00_scope.md). -/

namespace Sys2Proof

/-- One byte of a client link, a text or staging memory. -/
abbrev Byte := BitVec 8

/-- The 2,048 data bytes of one block; byte i stands in bits 8i+7 to 8i. -/
abbrev BlockData := BitVec 16384

/-- A client link, port 0 to port 3. -/
abbrev PortId := Fin 4

/-- A bay, BAY 0 to BAY 11. -/
abbrev BayId := Fin 12

/-- A disc number: a slot of the disc table (R1). -/
abbrev DiscId := Fin 16

end Sys2Proof
end

