-- ==== Sys2Proof/Syntax.lean ====
section
/-! DEFINITION. The commands of the DT12: one constructor of Instr for each row of spec/opcode_table.json, with
the operands its rule gives it. A request carries its port, its tag and the raw parameter values of 11.1; a message
carries its link and what the message says; an expiry names the timer that expired. -/

namespace Sys2Proof

/-- The two media classes (spec/00_scope.md, "Media classes"). -/
inductive MediaClass where
  | L | M
  deriving DecidableEq, Repr

/-- The part of PROBE-REPORT that follows "media present", which is also the media report of a record (R3, R106). -/
structure MediaReport where
  cls : MediaClass
  blank : Bool
  capacity : Nat
  maxWrite : Nat
  maxRead : Nat
  deriving DecidableEq, Repr

/-- What the check code finds at worst in one 8-byte word of a block that is read (R70). -/
inductive WordDamage where
  /-- Every word checks correct. -/
  | clean
  /-- Some word has one wrong bit, which the code corrects. -/
  | oneBit
  /-- Some word has two wrong bits, which the code detects and cannot correct. -/
  | twoBits
  deriving DecidableEq, Repr

/-- The status of a READ-BLOCK (R106). -/
inductive ReadStatus where
  | ok | unreadable
  deriving DecidableEq, Repr

/-- The parameters of SUBMIT-JOB in the order of 11.1, as the frame carries them: an absent field is all ones. -/
structure SubmitParams where
  discImage : Nat
  labelImage : Nat
  mediaClass : Nat
  spindle : Nat
  order : Nat
  verify : Nat
  sampleK : Nat
  marginalLimit : Nat
  rejectBudget : Nat
  copies : Nat
  priority : Nat
  writeLimit : Nat
  minWrite : Nat
  readLimit : Nat
  earlyStart : Nat
  nextLot : Nat
  nextUnit : Nat
  unitMax : Nat
  text : List Byte
  deriving DecidableEq, Repr

/-- The commands. -/
inductive Instr where
  /-- R201. `written`: the copy a save was writing passes its check as a whole (R204). -/
  | powerOnReset (written : Bool)
  /-- R201. -/
  | lineReset (written : Bool)
  /-- R167. -/
  | doorLineOpen
  /-- R168. -/
  | doorLineClosed
  /-- R190: the PUT strobe with the byte on the data lines. -/
  | put (port : PortId) (byte : Byte)
  /-- R191: the TAKE strobe. -/
  | take (port : PortId)
  /-- R192. -/
  | byteGapTimerExpiry (port : PortId)
  /-- R56. -/
  | openImage (port : PortId) (tag kind length flags : Nat)
  /-- R57. -/
  | sealImage (port : PortId) (tag image : Nat)
  /-- R58. -/
  | abandonImage (port : PortId) (tag image : Nat)
  /-- R59. -/
  | deleteImage (port : PortId) (tag image : Nat)
  /-- R65. -/
  | imageFromDisc (port : PortId) (tag length spindle flags : Nat)
  /-- R60. -/
  | queryImage (port : PortId) (tag image : Nat)
  /-- R22 to R24. -/
  | submitJob (port : PortId) (tag : Nat) (params : SubmitParams)
  /-- R29. -/
  | holdJob (port : PortId) (tag job : Nat)
  /-- R30. -/
  | releaseJob (port : PortId) (tag job : Nat)
  /-- R34. -/
  | cancelJob (port : PortId) (tag job kind : Nat)
  /-- R37. -/
  | retireJob (port : PortId) (tag job : Nat)
  /-- R38. -/
  | queryJob (port : PortId) (tag job : Nat)
  /-- R39. -/
  | readRejects (port : PortId) (tag job first : Nat)
  /-- R132. -/
  | queryBay (port : PortId) (tag bay : Nat)
  /-- R128. -/
  | bayOffline (port : PortId) (tag bay : Nat)
  /-- R129. -/
  | bayOnline (port : PortId) (tag bay : Nat)
  /-- R164. -/
  | setSpindle (port : PortId) (tag spindle mediaClass count : Nat)
  /-- R166. -/
  | spindleEmptied (port : PortId) (tag place : Nat)
  /-- R170. -/
  | armResume (port : PortId) (tag : Nat)
  /-- R171. -/
  | clearTower (port : PortId) (tag : Nat)
  /-- R173. -/
  | queryTower (port : PortId) (tag : Nat)
  /-- R186. -/
  | printerServiced (port : PortId) (tag : Nat)
  /-- R195. -/
  | bookNotice (port : PortId) (tag event scope bookingTag action : Nat)
  /-- R196. -/
  | dropBooking (port : PortId) (tag slot : Nat)
  /-- R199. -/
  | fetchNotice (port : PortId) (tag : Nat)
  /-- R200. -/
  | setAttention (port : PortId) (tag setting : Nat)
  /-- R202. -/
  | readSettings (port : PortId) (tag : Nat)
  /-- R203. -/
  | writeSettings (port : PortId) (tag item value : Nat)
  /-- R204. -/
  | saveSettings (port : PortId) (tag : Nat)
  /-- R204: the read-back of the written copy ends. -/
  | saveReadbackDone (passes : Bool)
  /-- R204. -/
  | saveTimerExpiry
  /-- R61: a frame of `words` words reached the port; a whole frame has 1,027. -/
  | blockFrame (words image index : Nat) (data : BlockData)
  /-- R63. -/
  | intakeWriteDone
  /-- R68. -/
  | masterWriteDone
  /-- R92. -/
  | feedPeriodTimerExpiry
  /-- R98: one damage for each block of the read, in index order. -/
  | feedReadDone (damage : List WordDamage)
  /-- R100. -/
  | rereadDone (damage : WordDamage)
  /-- R103. -/
  | artworkReadDone (damage : List WordDamage)
  /-- R107, R108. -/
  | trayDone (bay : BayId)
  /-- R110: no media, or the media found. -/
  | probeReport (bay : BayId) (report : Option MediaReport)
  /-- R112. -/
  | speedReport (bay : BayId) (step : Nat)
  /-- R114. -/
  | want (bay : BayId) (n : Nat)
  /-- R115. -/
  | paused (bay : BayId)
  /-- R115. -/
  | resumed (bay : BayId)
  /-- R116. -/
  | burnDone (bay : BayId)
  /-- R120. -/
  | burnError (bay : BayId) (code : Nat)
  /-- R137, R125. -/
  | readBlock (bay : BayId) (index : Nat) (status : ReadStatus) (data : BlockData)
  /-- R139, R125. -/
  | readEnd (bay : BayId)
  /-- R121. -/
  | fault (bay : BayId) (code : Nat)
  /-- R109. -/
  | trayMotionTimerExpiry (bay : BayId)
  /-- R110. -/
  | probeTimerExpiry (bay : BayId)
  /-- R112. -/
  | speedReportTimerExpiry (bay : BayId)
  /-- R116. -/
  | burnCloseTimerExpiry (bay : BayId)
  /-- R115. -/
  | starveTimerExpiry (bay : BayId)
  /-- R140, R125. -/
  | readInactivityTimerExpiry (bay : BayId)
  /-- R44. -/
  | spareHoldTimerExpiry (bay : BayId)
  /-- R154, R158. -/
  | arrived
  /-- R155, R157. -/
  | gripped
  /-- R155, R157. -/
  | gripEmpty
  /-- R156, R157. -/
  | gripDouble
  /-- R160, R156. -/
  | released
  /-- R168, R172: the arm is home, holding a disc or empty. -/
  | homed (holding : Bool)
  /-- R169. -/
  | motionFault
  /-- R169. -/
  | armMotionTimerExpiry
  /-- R178. -/
  | artworkOk
  /-- R181: with the ink level left, in per cent. -/
  | printDone (ink : Nat)
  /-- R182. -/
  | inkOut
  /-- R183. -/
  | jam
  /-- R186, R188: a disc is on the printer tray, or none is. -/
  | trayReport (present : Bool)
  /-- R183, R186, R188. -/
  | printTimerExpiry
  deriving DecidableEq, Repr

end Sys2Proof
end

