-- ==== Sys2Proof/Decode.lean ====
section
/-! DEFINITION. The table of this block gives no row any bits (spec/opcode_table.json has no "fixed" and no bits in
"fields"), so no word spells a command. What the spec does lay out in words is an intake block frame (11.2), whose
reader stands here. -/

namespace Sys2Proof

/-- The command a word spells by the table's bits: the table gives none, so every word spells none. -/
def decodeTableWord (_nbits _w : Nat) : Option Instr := none

/-- The data words of a block frame as block data: two bytes to a word, the lower-numbered byte in the high half
(11.2). -/
def blockOfWords : List (BitVec 16) → Nat
  | [] => 0
  | w :: ws => w.toNat / 256 + 256 * (w.toNat % 256) + 65536 * blockOfWords ws

/-- The BLOCK-FRAME command of the words between one frame-start and the next (11.2): word 0 the image number, words 1
and 2 the block index, high word first, and then the data. Words that did not arrive count as 0; R61 drops such a
frame whatever they hold. Words that arrive after word 1,026 and before the next frame-start are ignored and the frame
is whole, which is the model's (notes/assumptions/61.md). -/
def blockFrameOfWords (ws : List (BitVec 16)) : Instr :=
  .blockFrame ws.length (ws.getD 0 0).toNat ((ws.getD 1 0).toNat * 65536 + (ws.getD 2 0).toNat)
    (BitVec.ofNat 16384 (blockOfWords ((ws.drop 3).take 1024)))

end Sys2Proof
end

