-- ==== Sys2Proof/Config.lean ====
section
/-! DEFINITION. The fixed quantities of the part: capacities, limits and times of the manual's tables.
Times are in milliseconds. The part has no free value: see INVENTORY.md, "What the manual leaves open". -/

namespace Sys2Proof.Config

/-- Bytes of a block (spec/00_scope.md, "Block"). -/
def blockBytes : Nat := 2048
/-- Blocks of an extent (R47, R50). -/
def extentBlocks : Nat := 4096
/-- Extents of one GiB of staging memory (R50). -/
def extentsPerGiB : Nat := 128
/-- Greatest declared length of a DISC image (R56). -/
def maxDiscLength : Nat := 4194304
/-- Greatest declared length of a LABEL image (R56). -/
def maxLabelLength : Nat := 512
/-- Catalogue entries (R47). -/
def catalogueEntries : Nat := 16
/-- Job table entries (R19). -/
def jobEntries : Nat := 32
/-- Master-read requests the queue holds (R45). -/
def masterRequests : Nat := 4
/-- Transport queue entries (R150). -/
def queueEntries : Nat := 24
/-- Entries of a reject log (R33). -/
def rejectLogEntries : Nat := 16
/-- Intake FIFO blocks (R61). -/
def intakeBlocks : Nat := 32
/-- Intake occupancy above which the ready line is low (R64). -/
def intakeReadyLimit : Nat := 16
/-- Bay feed FIFO blocks (R90, R105). -/
def feedFifoBlocks : Nat := 64
/-- Prefill threshold (R113). -/
def prefillBlocks : Nat := 48
/-- Resume threshold (R115). -/
def resumeBlocks : Nat := 32
/-- Ingested blocks an early-start copy needs (R25). -/
def earlyStartBlocks : Nat := 48
/-- Holding buffer entries (R105). -/
def holdingBlocks : Nat := 2
/-- Blocks of a full burst (R94). -/
def burstBlocks : Nat := 8
/-- Credit cap in milli-blocks (R92). -/
def creditCap : Nat := 16000
/-- Credit of a stream when it opens (R90). -/
def creditAtOpen : Nat := 8000
/-- Blocks of a sample group (R95, R134). -/
def groupBlocks : Nat := 256
/-- Pass count at which a wait-queue entry blocks (R79). -/
def passLimit : Nat := 4
/-- Notices a port's queue holds (R197). -/
def noticeEntries : Nat := 16
/-- Bytes after the length that the frame assembler keeps (R192). -/
def frameBytes : Nat := 1024
/-- Words of a whole intake block frame (11.2). -/
def intakeFrameWords : Nat := 1027
/-- Retries of a double pick (R156). -/
def doublePickRetries : Nat := 2
/-- Re-reads of a block in RETRY verify (R145). -/
def retryReads : Nat := 3
/-- Consecutive wrong-media probes that make a spindle SUSPECT (R163). -/
def suspectCount : Nat := 2
/-- Reject budget and marginal limit that mean "no limit" (R21). -/
def unlimited : Nat := 255
/-- Greatest lot of a serial (R179). -/
def maxLot : Nat := 9999
/-- Ink level below which INK-LOW is raised (R181). -/
def inkLowLevel : Nat := 10
/-- Saturation of the 16-bit counts (R61, R62, R189). -/
def count16 : Nat := 65535

/-- Tray motion timer (R107). -/
def trayMotionMs : Nat := 4000
/-- Probe timer (R110). -/
def probeMs : Nat := 20000
/-- Speed report timer (R112). -/
def speedReportMs : Nat := 2000
/-- Burn close timer (R114). -/
def burnCloseMs : Nat := 240000
/-- Read inactivity timer (R125, R135). -/
def readInactivityMs : Nat := 10000
/-- Spare hold timer (R44). -/
def spareHoldMs : Nat := 60000
/-- Arm motion timer (R149). -/
def armMotionMs : Nat := 6000
/-- Print timer (R174). -/
def printMs : Nat := 60000
/-- Byte gap timer (R192). -/
def byteGapMs : Nat := 50
/-- Save timer (R204). -/
def saveMs : Nat := 1000

end Sys2Proof.Config
end

