-- ==== Sys2Proof/Machine/State.lean ====
section
/-! DEFINITION. The state of the DT12: one structure for each block of the manual, plain data throughout, and the state
right after a power-on reset. A timer that runs is held with the milliseconds it was started for; one that stands still
is none (notes/assumptions/6.md). -/

namespace Sys2Proof.Machine

/-- Running for that many milliseconds, or stopped. -/
abbrev Timer := Option Nat

/-! ### Disc Table (R1 to R18) -/

/-- R3, R8. -/
inductive Purpose where
  | copy | master | spare | found
  deriving DecidableEq, Repr

/-- The input spindles. -/
inductive Spindle where
  | inA | inB
  deriving DecidableEq, Repr

/-- The steps of a copy (R11). -/
inductive DiscStep where
  | write | verify | print
  deriving DecidableEq, Repr

/-- The set "steps done" (R3). -/
structure StepSet where
  write : Bool := false
  verify : Bool := false
  print : Bool := false
  deriving DecidableEq, Repr

/-- R3, R9. -/
inductive Location where
  | arm
  | bay (n : BayId)
  | printer
  deriving DecidableEq, Repr

/-- The destination of a record on the arm and of a transport entry (R3, R150). -/
inductive Dest where
  | bay (n : BayId)
  | printer | out | rej
  deriving DecidableEq, Repr

/-- R13. -/
inductive Verdict where
  | pending | good | reject
  deriving DecidableEq, Repr

/-- The reject causes in the order of the table of R15. -/
inductive RejectCause where
  | notBlank | wrongMedia | tooSmall | writeFailed | starved | verifyFailed | marginal | printFailed | bayFault
  | imageLost | cancelled | doublePick | found | cleared | lost
  deriving DecidableEq, Repr

/-- A serial (R180). -/
structure Serial where
  lot : Nat
  unit : Nat
  deriving DecidableEq, Repr

/-- A disc record (R3). Its disc number is its slot. -/
structure Disc where
  purpose : Purpose
  job : Option Nat := none
  attempt : Option Nat := none
  image : Option Nat := none
  source : Option Spindle := none
  location : Location
  dest : Option Dest := none
  workBay : Option BayId := none
  steps : StepSet := {}
  media : Option MediaReport := none
  pauses : Nat := 0
  mismatches : Nat := 0
  marginals : Nat := 0
  firstMismatch : Option Nat := none
  serial : Option Serial := none
  verdict : Verdict := .pending
  cause : Option RejectCause := none
  deriving DecidableEq, Repr

/-! ### Job Scheduler (R19 to R46) -/

/-- R21. -/
inductive OrderMode where
  | burnThenPrint | printThenBurn | burnOnly | printOnly
  deriving DecidableEq, Repr

/-- R21: the verify mode, SAMPLE with its k. -/
inductive VerifyMode where
  | off | stop | count | retry
  | sample (k : Nat)
  deriving DecidableEq, Repr

/-- R21. -/
inductive SpindlePref where
  | inA | inB | either
  deriving DecidableEq, Repr

/-- R27. -/
inductive HoldCause where
  | byClient | noBlanks | imageLost | rejectHold | cleared | serialEnd | spindleSuspect
  deriving DecidableEq, Repr

/-- The hold set of a job (R27). -/
structure HoldSet where
  byClient : Bool := false
  noBlanks : Bool := false
  imageLost : Bool := false
  rejectHold : Bool := false
  cleared : Bool := false
  serialEnd : Bool := false
  spindleSuspect : Bool := false
  deriving DecidableEq, Repr

/-- R34. -/
inductive DrainKind where
  | soft | hard | fail
  deriving DecidableEq, Repr

/-- R21, R25, R26. -/
inductive JobState where
  | waitingImage | active | held | draining | complete | cancelled | failed
  deriving DecidableEq, Repr

/-- An entry of a reject log: the fields of R33. That it holds no mismatch count, which R10 also hands to the log, is DEDUCED
(notes/assumptions/68.md). -/
structure RejectEntry where
  attempt : Nat
  workBay : Option BayId
  cause : RejectCause
  firstMismatch : Option Nat
  deriving DecidableEq, Repr

/-- The serial fields of an order that prints (R21). -/
structure SerialPlan where
  text : List Byte
  nextLot : Nat
  nextUnit : Nat
  unitMax : Nat
  deriving DecidableEq, Repr

/-- A job record (R21). -/
structure Job where
  number : Nat
  owner : PortId
  seq : Nat
  discImage : Option Nat
  labelImage : Option Nat
  cls : MediaClass
  pref : SpindlePref
  order : OrderMode
  verify : VerifyMode
  marginalLimit : Nat
  rejectBudget : Nat
  copies : Nat
  priority : Nat
  writeLimit : Option Nat
  minWrite : Option Nat
  readLimit : Option Nat
  earlyStart : Bool
  serial : Option SerialPlan
  good : Nat := 0
  rejected : Nat := 0
  budgetRejects : Nat := 0
  attempts : Nat := 0
  loads : Nat := 0
  holds : HoldSet := {}
  drain : Option DrainKind := none
  state : JobState := .waitingImage
  log : List RejectEntry := []
  deriving DecidableEq, Repr

/-- A master-read request (R45). -/
structure MasterReq where
  image : Nat
  spindle : Spindle
  seq : Nat
  assigned : Bool := false
  deriving DecidableEq, Repr

/-- What the JSC has reserved a bay for (R42, R45, R151). -/
inductive BayRes where
  | copy (job attempt : Nat)
  | master (image : Nat)
  deriving DecidableEq, Repr

/-- The Job Scheduler. -/
structure Jsc where
  jobs : List Job := []
  jobCounter : Nat := 1
  seqCounter : Nat := 0
  masters : List MasterReq := []
  bayRes : Vector (Option BayRes) 12 := Vector.replicate 12 none
  spareHold : Vector Timer 12 := Vector.replicate 12 none
  deriving DecidableEq, Repr

/-! ### Image Catalogue (R47 to R60) -/

/-- R47. -/
inductive ImageKind where
  | disc | label
  deriving DecidableEq, Repr

/-- R53. -/
inductive ImageState where
  | filling | ready | doomed | lost
  deriving DecidableEq, Repr

/-- R54. -/
inductive LossReason where
  | abandoned | memory | tooLarge | blankMaster | unreadable | aborted
  deriving DecidableEq, Repr

/-- R47: the source of an image; a master's bay is absent until assignment (R66). -/
inductive ImageSource where
  | intake
  | master (bay : Option BayId)
  deriving DecidableEq, Repr

/-- A catalogue entry (R47). -/
structure Image where
  number : Nat
  kind : ImageKind
  state : ImageState := .filling
  owner : PortId
  isProtected : Bool
  shared : Bool
  length : Nat
  accepted : Nat := 0
  ingested : Nat := 0
  gaps : Nat := 0
  isSealed : Bool := false
  source : ImageSource
  refs : Nat := 0
  extents : List Nat
  loss : Option LossReason := none
  accesses : Nat := 0
  /-- The bay has reported the master's read complete, and the CAT waits for its writes (R68). -/
  readDone : Bool := false
  deriving DecidableEq, Repr

/-- The Image Catalogue. -/
structure Cat where
  images : List Image := []
  counter : Nat := 1
  totalExtents : Nat := 128
  deriving DecidableEq, Repr

/-! ### Intake Port and Staging Memory Controller (R61 to R71) -/

/-- A block of the intake FIFO (R62). -/
structure IntakeBlock where
  image : Nat
  index : Nat
  data : BlockData
  deriving DecidableEq, Repr

/-- The Intake Port. -/
structure Ipt where
  fifo : List IntakeBlock := []
  writing : Bool := false
  strays : Nat := 0
  deriving DecidableEq, Repr

/-- Whom a feed read is for (R69). -/
inductive FeedUser where
  /-- A burst of a bay's stream. -/
  | stream (bay : BayId)
  /-- The re-read of one block of a bay's stream. -/
  | reread (bay : BayId)
  /-- A burst of the artwork transfer. -/
  | artwork
  /-- The re-read of one block of the artwork transfer. -/
  | artworkReread
  deriving DecidableEq, Repr

/-- What becomes of the blocks of a feed read as they complete (R98, R99, R101, R102). -/
inductive FeedFate where
  /-- They are delivered. -/
  | deliver
  /-- They follow a bad block: discarded, each refunding 1,000 milli-blocks. -/
  | refund
  /-- Their stream has closed, or their transfer has gone: discarded. -/
  | drain
  deriving DecidableEq, Repr

/-- A feed read of consecutive blocks (R69). -/
structure FeedRead where
  user : FeedUser
  image : Nat
  first : Nat
  count : Nat
  fate : FeedFate := .deliver
  deriving DecidableEq, Repr

/-- A single-block write of an intake or master block (R63, R68). -/
structure BlockWrite where
  image : Nat
  index : Nat
  data : BlockData
  deriving DecidableEq, Repr

/-- The three sources of memory requests in the order of R69. -/
inductive SmcSource where
  | feed | intake | master
  deriving DecidableEq, Repr

/-- The request the SMC is serving (R69). -/
inductive SmcRequest where
  | feed (r : FeedRead)
  | intake (w : BlockWrite)
  | master (w : BlockWrite)
  deriving DecidableEq, Repr

/-- Staging memory: (byte address, byte) pairs, addresses strictly rising, no byte equal to what an unlisted address
reads as (Machine/Memory.lean). -/
abbrev Memory := List Host.Cell

/-- The Staging Memory Controller. -/
structure Smc where
  feedQueue : List FeedRead := []
  intakeQueue : List BlockWrite := []
  masterQueue : List BlockWrite := []
  serving : Option SmcRequest := none
  turn : SmcSource := .master
  deriving DecidableEq, Repr

/-! ### Rate Grant Unit (R72 to R89) -/

/-- R76. -/
inductive GrantKind where
  | write | verify
  deriving DecidableEq, Repr

/-- R76. -/
inductive GrantPhase where
  | speedPending | settled
  deriving DecidableEq, Repr

/-- A ledger entry (R76). -/
structure Grant where
  kind : GrantKind
  cls : MediaClass
  step : Nat
  rate : Nat
  phase : GrantPhase
  deriving DecidableEq, Repr

/-- A wait-queue entry (R79). -/
structure WaitEntry where
  bay : BayId
  kind : GrantKind
  cls : MediaClass
  requested : Nat
  minimum : Option Nat
  passes : Nat := 0
  deriving DecidableEq, Repr

/-- The Rate Grant Unit. B and V are the working settings (R72). -/
structure Rgu where
  ledger : Vector (Option Grant) 12 := Vector.replicate 12 none
  queue : List WaitEntry := []
  deriving DecidableEq, Repr

/-! ### Feeder (R90 to R104) -/

/-- A stream (R90). -/
structure Stream where
  image : Nat
  kind : GrantKind
  next : Nat := 0
  stop : Nat
  sampleK : Option Nat
  rate : Nat
  credit : Nat := Config.creditAtOpen
  inFlight : Nat := 0
  reread : Option Nat := none
  deriving DecidableEq, Repr

/-- The artwork transfer record (R102). -/
structure Transfer where
  image : Nat
  length : Nat
  next : Nat := 0
  inFlight : Nat := 0
  reread : Option Nat := none
  deriving DecidableEq, Repr

/-- The Feeder. -/
structure Fdr where
  streams : Vector (Option Stream) 12 := Vector.replicate 12 none
  draining : Vector Nat 12 := Vector.replicate 12 0
  artwork : Option Transfer := none
  deriving DecidableEq, Repr

/-! ### Bay Controllers (R105 to R147) -/

/-- The sixteen states of 6.1. -/
inductive BayState where
  | absent | offline | empty | reserved | trayOut | probing | grantWait | prefill | writing | closing
  | verifyWait | verifying | masterRead | spare | holding | fault
  deriving DecidableEq, Repr

/-- R105. -/
inductive Tray where
  | closed | moving | opened | unknown
  deriving DecidableEq, Repr

/-- R105. -/
inductive Errand where
  | none | place | pick | sense
  deriving DecidableEq, Repr

/-- R105, R127. -/
inductive OfflineCause where
  | client | quarantine
  deriving DecidableEq, Repr

/-- R105: the last fault code. -/
inductive FaultCode where
  | bridge (code : Nat)
  | noMedia | trayTimeout | probeTimeout | speedTimeout | closeTimeout
  deriving DecidableEq, Repr

/-- A block of a feed FIFO (R105). -/
structure FeedBlock where
  index : Nat
  data : BlockData
  deriving DecidableEq, Repr

/-- An entry of a holding buffer (R105, R137). -/
structure HeldBlock where
  index : Nat
  status : ReadStatus
  data : BlockData
  deriving DecidableEq, Repr

/-- R133. -/
inductive EnginePhase where
  | idle | reading | halting | reread | tail
  deriving DecidableEq, Repr

/-- The compare engine (R133), at its idle values unless a verify runs. -/
structure Engine where
  phase : EnginePhase := .idle
  comparePos : Nat := 0
  readPos : Nat := 0
  rangeEnd : Option Nat := none
  rangesLeft : Nat := 0
  held : Bool := false
  retryAttempt : Nat := 0
  retryMatched : Bool := false
  /-- The attempt in hand has taken its first READ-BLOCK (R145). -/
  attemptRead : Bool := false
  deriving DecidableEq, Repr

/-- The timers of a bay (R105). -/
structure BayTimers where
  tray : Timer := none
  probe : Timer := none
  speed : Timer := none
  close : Timer := none
  read : Timer := none
  starve : Timer := none
  deriving DecidableEq, Repr

/-- A Bay Controller (R105). -/
structure Bay where
  state : BayState := .empty
  tray : Tray := .unknown
  /-- The motion in hand is TRAY-CLOSE; read only while the tray is MOVING. -/
  traysIn : Bool := false
  errand : Errand := .none
  offline : Option OfflineCause := none
  faults : Nat := 0
  lastFault : Option FaultCode := none
  speedPending : Bool := false
  fifo : List FeedBlock := []
  holding : List HeldBlock := []
  wantCredit : Nat := 0
  sentBlocks : Nat := 0
  refillHold : Bool := false
  masterNext : Nat := 0
  /-- READ-HOLD has been sent in the master read in hand (R125). -/
  masterHeld : Bool := false
  /-- The master read in hand has been reported to the catalogue (R125). -/
  masterReported : Bool := false
  imageLostMark : Bool := false
  timers : BayTimers := {}
  engine : Engine := {}
  deriving DecidableEq, Repr

/-! ### Transport Sequencer (R148 to R173) -/

/-- The arm states of 8.1. -/
inductive ArmState where
  | homing | parked | toSource | picking | toDest | placing | stopped | fault
  deriving DecidableEq, Repr

/-- A position of the arm (R148). -/
inductive Position where
  | inA | inB | out | rej | printer
  | bay (n : BayId)
  | home | unknown
  deriving DecidableEq, Repr

/-- A motion (R149). -/
inductive Motion where
  | goto (p : Position)
  | grip | release | home
  deriving DecidableEq, Repr

/-- R148: the last command. -/
inductive ArmCmd where
  | goto | grip | release | home
  deriving DecidableEq, Repr

/-- R148, R169. -/
inductive ArmFault where
  | motionFault | timeout | senseDisagree
  deriving DecidableEq, Repr

/-- R150. -/
inductive EntryClass where
  | clear | load
  deriving DecidableEq, Repr

/-- The source of a transport entry (R150). -/
inductive Source where
  | spindle (x : Spindle)
  | bay (n : BayId)
  | printer | arm
  deriving DecidableEq, Repr

/-- A transport entry (R150). -/
structure Entry where
  cls : EntryClass
  source : Source
  dest : Dest
  disc : Option DiscId := none
  purpose : Option Purpose := none
  job : Option Nat := none
  attempt : Option Nat := none
  image : Option Nat := none
  time : Nat
  deriving DecidableEq, Repr

/-- The reservation a move holds at its destination (R151). `took`: the TSQ had the station made RESERVED for it. -/
inductive MoveRes where
  | none | tray
  | printer (took : Bool)
  | out
  | rej (places : Nat)
  deriving DecidableEq, Repr

/-- The current move: an entry with its progress (R148). -/
structure Move where
  entry : Entry
  retries : Nat := 0
  gripped : Bool := false
  reserved : MoveRes := .none
  /-- The destination bay refused the placement, or its errand failed; the request is to be repeated (R158). -/
  refused : Bool := false
  /-- The last motion sent for the move, which a recovery reads (R168). -/
  cmd : Option ArmCmd := none
  /-- The arm brings an interrupted double pick back to its spindle (R168). -/
  returning : Bool := false
  deriving DecidableEq, Repr

/-- The arm record (R148). -/
structure Arm where
  state : ArmState := .homing
  position : Position := .unknown
  move : Option Move := none
  lastCmd : Option ArmCmd := none
  trayReady : Bool := false
  fault : Option ArmFault := none
  motion : Option Motion := none
  timer : Timer := none
  deriving DecidableEq, Repr

/-- R162. -/
inductive SpindleState where
  | normal | empty | suspect
  deriving DecidableEq, Repr

/-- The record of an input spindle (R162). -/
structure SpindleRec where
  capacity : Nat := 100
  cls : Option MediaClass := none
  count : Option Nat := none
  state : SpindleState := .normal
  wrong : Nat := 0
  deriving DecidableEq, Repr

/-- The record of OUT or REJ (R162). -/
structure BinRec where
  capacity : Nat
  count : Nat := 0
  reserved : Nat := 0
  full : Bool := false
  deriving DecidableEq, Repr

/-- R167. -/
inductive Door where
  | opened | closed
  deriving DecidableEq, Repr

/-- R172: the next place to reconcile. -/
inductive SweepAt where
  | arm
  | bay (n : BayId)
  | printer
  deriving DecidableEq, Repr

/-- The tower phase with the sweep progress (R150, R172). -/
inductive Phase where
  | sweeping (at' : SweepAt)
  | running
  deriving DecidableEq, Repr

/-- R173. -/
inductive ResetCause where
  | powerOn | line
  deriving DecidableEq, Repr

/-- The Transport Sequencer. -/
structure Tsq where
  arm : Arm := {}
  queue : List Entry := []
  inA : SpindleRec := {}
  inB : SpindleRec := {}
  out : BinRec := { capacity := 100 }
  rej : BinRec := { capacity := 25 }
  tenure : Option BayId := none
  door : Door := .closed
  phase : Phase := .sweeping .arm
  clock : Nat := 0
  resetCause : ResetCause := .powerOn
  deriving DecidableEq, Repr

/-! ### Print Station Controller (R174 to R188) -/

/-- R174. -/
inductive StationState where
  | vacant | reserved | loaded | printing | printed | inkOut | jammed
  deriving DecidableEq, Repr

/-- R174, R175. -/
inductive StationRes where
  | copy (job attempt : Nat)
  | disc (d : DiscId)
  deriving DecidableEq, Repr

/-- R174. -/
inductive PrintStep where
  | transfer | artworkWait | leaving | stalledSerial | stalledArtwork
  deriving DecidableEq, Repr

/-- R174. -/
inductive SensePending where
  | sweep | service
  deriving DecidableEq, Repr

/-- The Print Station Controller (R174). -/
structure Psc where
  state : StationState := .vacant
  reservedFor : Option StationRes := none
  step : Option PrintStep := none
  cacheTag : Option Nat := none
  ink : Option Nat := none
  inkLow : Bool := false
  sense : Option SensePending := none
  timer : Timer := none
  /-- The port whose PRINTER-SERVICED waits for the sense (R186). -/
  servicePort : Option PortId := none
  deriving DecidableEq, Repr

/-! ### Client Link Unit (R189 to R200) -/

/-- R189. -/
inductive PortPhase where
  | idle | assembling | atOwner | replying
  deriving DecidableEq, Repr

/-- The event kinds in the order of 10.5; the first six are job kinds. -/
inductive EventKind where
  | jobDone | jobHeld | copyRejected | serialEnd | inkOut | printerJam
  | inkLow | spindleEmpty | spindleSuspect | outFull | rejFull | armFault | doorOpen | bayOffline
  | imageReady | imageGap | imageLost
  deriving DecidableEq, Repr

/-- The subject of an event (10.5). -/
inductive Subject where
  | none
  | job (n : Nat)
  | image (n : Nat)
  | bay (n : BayId)
  | spindle (x : Spindle)
  | out | rej
  deriving DecidableEq, Repr

/-- R183: why the station jammed. -/
inductive JamCause where
  | jam | timeout
  deriving DecidableEq, Repr

/-- The detail of an event (10.5). -/
inductive Detail where
  | none
  | terminal (x : JobState)
  | hold (c : HoldCause)
  | reject (c : RejectCause)
  | jam (c : JamCause)
  | ink (level : Nat)
  | arm (f : ArmFault)
  | offline (c : OfflineCause)
  | loss (r : LossReason)
  | index (n : Nat)
  deriving DecidableEq, Repr

/-- An event (10.5). -/
structure Event where
  kind : EventKind
  subject : Subject
  detail : Detail
  deriving DecidableEq, Repr

/-- R195. -/
inductive BookAction where
  | notify | notifyHold
  deriving DecidableEq, Repr

/-- A booking; a scope of none is ALL (R195). -/
structure Booking where
  kind : EventKind
  scope : Option Nat
  tag : Nat
  action : BookAction
  deriving DecidableEq, Repr

/-- A notice (R197). -/
structure Notice where
  kind : EventKind
  tag : Nat
  subject : Subject
  detail : Detail
  deriving DecidableEq, Repr

/-- A port record (R189). The rights are the working settings (R194). -/
structure Port where
  phase : PortPhase := .idle
  latch : Option Byte := none
  frame : List Byte := []
  /-- Bytes of the frame taken, those not kept included (R192). -/
  taken : Nat := 0
  gap : Timer := none
  reply : List Byte := []
  /-- The owner has the request and its reply waits on a mechanism (R193). -/
  waiting : Bool := false
  bookings : Vector (Option Booking) 8 := Vector.replicate 8 none
  notices : List Notice := []
  overflow : Bool := false
  attention : Bool := true
  frameErrors : Nat := 0
  deriving DecidableEq, Repr

/-! ### Settings Store (R201 to R204) -/

/-- The sixteen items of 11.3, with their defaults. -/
structure Settings where
  budget : Nat := 48000
  reserve : Nat := 6000
  memoryGiB : Nat := 1
  fitted : Nat := 4095
  pauseLimit : Nat := 8
  starveMs : Nat := 2000
  quarantine : Nat := 3
  tenureMs : Nat := 4000
  capA : Nat := 100
  capB : Nat := 100
  capOut : Nat := 100
  capRej : Nat := 25
  rights0 : Nat := 7
  rights1 : Nat := 1
  rights2 : Nat := 1
  rights3 : Nat := 1
  deriving DecidableEq, Repr

/-- The copies of the store. -/
inductive CopyName where
  | A | B
  deriving DecidableEq, Repr

/-- A copy of the store: its check fails, it passes, or a save wrote it without a read-back, and the next load finds
which (R204). -/
inductive StoreCopy where
  | bad
  | good (number : Nat) (set : Settings)
  | unsure (number : Nat) (set : Settings)
  deriving DecidableEq, Repr

/-- A save in progress (R204). -/
structure Save where
  snapshot : Settings
  number : Nat
  port : PortId
  timer : Timer := some Config.saveMs
  /-- A WRITE-SETTINGS was accepted after the snapshot. -/
  dirty : Bool := false
  deriving DecidableEq, Repr

/-- The Settings Store. -/
structure Sst where
  working : Settings := {}
  copyA : StoreCopy := .bad
  copyB : StoreCopy := .bad
  last : CopyName := .B
  number : Nat := 65535
  unsaved : Bool := false
  defaulted : Bool := true
  save : Option Save := none
  deriving DecidableEq, Repr

/-! ### What the part sends -/

/-- Part to bridge (R106). -/
inductive BayMsg where
  | trayOpen | trayClose | probe
  | speed (step : Nat) (kind : GrantKind)
  | burnStart (length : Nat)
  | block (data : BlockData)
  | burnFinish
  | readStart (first count : Nat)
  | readHold | readGo | readHalt | abort
  deriving DecidableEq, Repr

/-- Part to motion board (R149). -/
inductive ArmMsg where
  | goto (p : Position)
  | grip | release | home | halt
  deriving DecidableEq, Repr

/-- Part to printer (R177). -/
inductive PrinterMsg where
  | artwork (image blocks : Nat)
  | artworkBlock (data : BlockData)
  | merge (text : List Byte)
  | print | traySense
  deriving DecidableEq, Repr

/-- A message on one of the part's links. -/
inductive OutMsg where
  | bay (n : BayId) (m : BayMsg)
  | arm (m : ArmMsg)
  | printer (m : PrinterMsg)
  deriving DecidableEq, Repr

/-- Occasions the step in hand has met (notes/assumptions/4.md). -/
structure Due where
  /-- An occasion of R40: an assignment pass follows. -/
  pass : Bool := false
  /-- An occasion of R152: a selection follows. -/
  select : Bool := false
  /-- A bay has entered FAULT or OFFLINE: a sweep that waits at it takes its answer (R131). -/
  sweep : Bool := false
  deriving DecidableEq, Repr

/-- The whole state. `pending`, `sent` and `due` are the model's own. -/
structure State where
  pending : List Instr := []
  sent : List OutMsg := []
  due : Due := {}
  ports : Vector Port 4 := Vector.replicate 4 {}
  sst : Sst := {}
  jsc : Jsc := {}
  discs : Vector (Option Disc) 16 := Vector.replicate 16 none
  cat : Cat := {}
  ipt : Ipt := {}
  smc : Smc := {}
  mem : Memory := []
  rgu : Rgu := {}
  fdr : Fdr := {}
  bays : Vector Bay 12 := Vector.replicate 12 {}
  tsq : Tsq := {}
  psc : Psc := {}
  deriving DecidableEq, Repr

/-- Why the machine stops. -/
inductive Fault where
  /-- Raised by the completions of memory requests (INTAKE_WRITE_DONE, MASTER_WRITE_DONE, FEED_READ_DONE, REREAD_DONE,
  ARTWORK_READ_DONE) when a block of the request has no place in staging memory: its image has no catalogue entry or no
  extent for that index (R50). No run reaches it. Safe. -/
  | blockOutsideImage
  deriving DecidableEq, Repr

/-- Why a command has no meaning. -/
inductive Refusal where
  /-- Raised only by an arm of exec whose command has no meaning yet; there is none. Safe. -/
  | notModelled (mnemonic : String)
  deriving DecidableEq, Repr

/-- Every bay, in ascending number. -/
def allBays : List BayId := [0, 1, 2, 3, 4, 5, 6, 7, 8, 9, 10, 11]

/-- The state right after the first power-on reset: the store holds no copy that passes, so the defaults are taken
(R201); the door is closed; each fitted bay has been sent ABORT (R105) and the arm HOME (R148). The store's first
contents and the door line are the model's choice (notes/assumptions/8.md). -/
def State.reset : State :=
  { sent := allBays.map (fun n => .bay n .abort) ++ [.arm .home]
    tsq := { arm := { lastCmd := some .home, motion := some .home, timer := some Config.armMotionMs } } }

end Sys2Proof.Machine
end

