-- ==== Sys2Proof/Machine/Bytes.lean ====
section
/-! DEFINITION. The byte order of 11.1, 11.2 and the text of R179: numbers most significant byte first, an absent
field all ones, a text and a list behind a one-byte count, a nested record behind a byte that says whether it
follows. -/

namespace Sys2Proof.Machine

/-- A number in one byte. -/
def u8 (n : Nat) : List Byte := [BitVec.ofNat 8 n]

/-- A number in two bytes, most significant first. -/
def u16 (n : Nat) : List Byte := u8 (n / 256) ++ u8 n

/-- A number in four bytes, most significant first. -/
def u32 (n : Nat) : List Byte := u16 (n / 65536) ++ u16 n

/-- A flag in one byte. -/
def flag (b : Bool) : List Byte := u8 b.toNat

/-- An optional number in one byte: absent is 255. -/
def opt8 (o : Option Nat) : List Byte := u8 (o.getD 255)

/-- An optional number in two bytes: absent is 65,535. -/
def opt16 (o : Option Nat) : List Byte := u16 (o.getD 65535)

/-- An optional number in four bytes: absent is 4,294,967,295. -/
def opt32 (o : Option Nat) : List Byte := u32 (o.getD 4294967295)

/-- A set in one byte: bit i is set when member i is present. -/
def setBits : List Bool → Nat
  | [] => 0
  | b :: bs => b.toNat + 2 * setBits bs

/-- A list: a one-byte count and then its members. -/
def listOf {α : Type} (f : α → List Byte) (xs : List α) : List Byte :=
  u8 xs.length ++ (xs.map f).flatten

/-- A text: a one-byte count and then its characters. -/
def textOf (t : List Byte) : List Byte := u8 t.length ++ t

/-- A nested record that may be none: 1 and the record, or 0. -/
def nested {α : Type} (f : α → List Byte) : Option α → List Byte
  | none => u8 0
  | some x => u8 1 ++ f x

/-- The number of two bytes, most significant first. -/
def be16 (a b : Byte) : Nat := a.toNat * 256 + b.toNat

/-- One decimal digit as a character. -/
def digit (n : Nat) : Byte := BitVec.ofNat 8 (48 + n % 10)

/-- A number as four digits with leading zeros (R179). -/
def digits4 (n : Nat) : List Byte := [digit (n / 1000), digit (n / 100), digit (n / 10), digit n]

/-- The merge text of a serial: the job's text, the lot, a hyphen and the unit (R179). -/
def mergeText (text : List Byte) (x : Serial) : List Byte :=
  text ++ digits4 x.lot ++ [BitVec.ofNat 8 45] ++ digits4 x.unit

end Sys2Proof.Machine
end

