-- ==== Sys2Proof/Machine/Memory.lean ====
section
/-! DEFINITION. Staging memory (R50, R69, R70): (byte address, byte) pairs in one canonical form, read and written a
block at a time, and the place of an image's block in it. -/

namespace Sys2Proof.Machine

/-- What an unlisted byte reads as. The contents of staging memory after a reset count as void (R50) and no void block is
ever read (R71), so nothing rests on the value (notes/assumptions/10.md). -/
def unlistedByte : Byte := 0

/-- The canonical form: addresses strictly rising from `lo`, no byte equal to an unlisted one. -/
def Memory.wfFrom : Nat → Memory → Bool
  | _, [] => true
  | lo, (a, b) :: m => decide (lo ≤ a) && (b != unlistedByte) && Memory.wfFrom (a + 1) m

/-- The canonical form of a memory. -/
def Memory.wf (m : Memory) : Bool := Memory.wfFrom 0 m

/-- The byte at an address. -/
def Memory.read (m : Memory) (a : Nat) : Byte :=
  match m.find? (fun c => c.1 == a) with
  | some c => c.2
  | none => unlistedByte

/-- The bytes of a number from address `a` upward, lowest first, at most `k` of them, those that read as unlisted left
out. -/
def cellsOf : (k : Nat) → (a : Nat) → (n : Nat) → Memory
  | 0, _, _ => []
  | k + 1, a, n =>
    if n = 0 then []
    else
      let b : Byte := BitVec.ofNat 8 n
      let rest := cellsOf k (a + 1) (n / 256)
      if b = unlistedByte then rest else (a, b) :: rest

/-- Write the block that begins at address `a`. -/
def Memory.writeBlock (m : Memory) (a : Nat) (d : BlockData) : Memory :=
  m.filter (fun c => decide (c.1 < a)) ++ cellsOf Config.blockBytes a d.toNat
    ++ m.filter (fun c => decide (a + Config.blockBytes ≤ c.1))

/-- Read the block that begins at address `a`. -/
def Memory.readBlock (m : Memory) (a : Nat) : BlockData :=
  (m.filter (fun c => decide (a ≤ c.1) && decide (c.1 < a + Config.blockBytes))).foldl
    (fun (acc : BlockData) c => acc ||| BitVec.shiftLeft (c.2.setWidth 16384) (8 * (c.1 - a))) 0

/-- The address of a block offset within an extent (R50). -/
def extentAddress (e off : Nat) : Nat := (e * Config.extentBlocks + off) * Config.blockBytes

/-- The address of block `i` of an image: member i / 4,096 of its extent list, offset i mod 4,096 (R50). -/
def Image.address (x : Image) (i : Nat) : Option Nat :=
  (x.extents[i / Config.extentBlocks]?).map (fun e => extentAddress e (i % Config.extentBlocks))

/-- The status of a block read (R70). -/
def blockGood : WordDamage → Bool
  | .clean | .oneBit => true
  | .twoBits => false

end Sys2Proof.Machine
end

