-- ==== Sys2Proof/Machine/Rates.lean ====
section
/-! DEFINITION. Media classes, speed steps and rates (spec/00_scope.md "Media classes", R73), and the sample groups of
a verify (R95, R134). -/

namespace Sys2Proof.Machine

/-- Nominal capacity of a class in blocks. -/
def nominalCapacity : MediaClass → Nat
  | .L => 340000
  | .M => 2290000

/-- The rate of a class at 1×. -/
def baseRate : MediaClass → Nat
  | .L => 75
  | .M => 660

/-- The listed steps of a class for a kind (R73). -/
def listedSteps : GrantKind → MediaClass → List Nat
  | .write, .L => [4, 8, 16, 24, 32, 40, 48]
  | .write, .M => [2, 4, 6, 8, 12, 16]
  | .verify, .L => [8, 16, 24, 32, 40, 48]
  | .verify, .M => [4, 6, 8, 12, 16]

/-- The rate of a step (R73). -/
def stepRate (c : MediaClass) (m : Nat) : Nat := baseRate c * m

/-- The greatest listed step at or below a value, or the lowest listed step (R73, "Round down"). -/
def roundDown (k : GrantKind) (c : MediaClass) (v : Nat) : Nat :=
  (listedSteps k c).foldl (fun best m => if m ≤ v then m else best) ((listedSteps k c).headD 0)

/-- The least listed step at or above a value, or the highest listed step (R73, "Round up"). -/
def roundUp (k : GrantKind) (c : MediaClass) (v : Nat) : Nat :=
  ((listedSteps k c).find? (fun m => decide (v ≤ m))).getD ((listedSteps k c).foldl (fun _ m => m) 0)

/-- The highest listed step. -/
def topStep (k : GrantKind) (c : MediaClass) : Nat := (listedSteps k c).foldl (fun _ m => m) 0

/-! ### Sample groups -/

/-- The group of a block. -/
def groupOf (i : Nat) : Nat := i / Config.groupBlocks

/-- The group that holds block `stop - 1` (R95). -/
def lastGroup (stop : Nat) : Nat := groupOf (stop - 1)

/-- A group is sampled when g mod k is 0, and the last group always is (R95). -/
def sampled (k stop g : Nat) : Bool := g % k == 0 || g == lastGroup stop

/-- The first block of the next sampled group after group `g`, or `stop` when none is left (R95, R138). -/
def nextGroupStart (k stop g : Nat) : Nat :=
  if lastGroup stop ≤ g then stop
  else min ((g / k + 1) * k) (lastGroup stop) * Config.groupBlocks

/-- One past the last block of a group's range (R134). -/
def groupEnd (stop g : Nat) : Nat := min ((g + 1) * Config.groupBlocks) stop

/-- The run end of a stream whose next block is `i` (R94, R95). -/
def runEnd (sampleK : Option Nat) (stop i : Nat) : Nat :=
  match sampleK with
  | none => stop
  | some _ => if groupOf i + 1 = lastGroup stop then stop else groupEnd stop (groupOf i)

/-- The next block of a stream once it has moved to `i`: at the run end it goes to the next sampled group (R95). -/
def skipUnsampled (sampleK : Option Nat) (stop i : Nat) : Nat :=
  match sampleK with
  | none => i
  | some k =>
    if i < stop && i % Config.groupBlocks == 0 && !sampled k stop (groupOf i) then nextGroupStart k stop (groupOf i)
    else i

/-- The block of the verify set that follows block `i` (R138). -/
def nextInVerifySet (sampleK : Option Nat) (stop i : Nat) : Nat := skipUnsampled sampleK stop (i + 1)

/-- The blocks of the verify set from block `i` of it onward (R141). -/
def verifySetFrom (sampleK : Option Nat) (stop i : Nat) : Nat :=
  if stop ≤ i then 0
  else
    match sampleK with
    | none => stop - i
    | some k =>
      if lastGroup stop ≤ groupOf i then stop - i
      else (groupOf i + 1) * Config.groupBlocks - i
        + ((lastGroup stop - 1) / k - groupOf i / k) * Config.groupBlocks
        + (stop - lastGroup stop * Config.groupBlocks)

/-- Sampled groups other than group 0 (R135). -/
def furtherGroups (k stop : Nat) : Nat :=
  if lastGroup stop = 0 then 0 else (lastGroup stop - 1) / k + 1

end Sys2Proof.Machine
end

