-- ==== Sys2Proof/Machine/Ops.lean ====
section
/-! DEFINITION. The shared operations on the state: one home for reading and writing each table, and for what the part
sends. -/

namespace Sys2Proof.Machine

/-- Every disc number, in ascending order (R1). -/
def allDiscs : List DiscId := [0, 1, 2, 3, 4, 5, 6, 7, 8, 9, 10, 11, 12, 13, 14, 15]

/-- Every port. -/
def allPorts : List PortId := [0, 1, 2, 3]

/-! ### Sending -/

/-- Send a message. -/
def State.emit (m : OutMsg) (s : State) : State := { s with sent := s.sent ++ [m] }

/-- Send a message to a bay's bridge. -/
def State.toBay (n : BayId) (m : BayMsg) (s : State) : State := s.emit (.bay n m)

/-- Send a message to the motion board. -/
def State.toArm (m : ArmMsg) (s : State) : State := s.emit (.arm m)

/-- Send a message to the printer. -/
def State.toPrinter (m : PrinterMsg) (s : State) : State := s.emit (.printer m)

/-! ### Occasions of a pass and of a selection -/

/-- An occasion of an assignment pass (R40). -/
def State.duePass (s : State) : State := { s with due.pass := true }

/-- An occasion of a selection (R152). -/
def State.dueSelect (s : State) : State := { s with due.select := true }

/-- An occasion of both. -/
def State.dueBoth (s : State) : State := s.duePass.dueSelect

/-- A bay has entered FAULT or OFFLINE (R131). -/
def State.dueSweep (s : State) : State := { s with due.sweep := true }

/-! ### Bays, ports, discs -/

/-- The record of a bay. -/
def State.bay (s : State) (n : BayId) : Bay := s.bays[n]

/-- Change the record of a bay. -/
def State.modBay (n : BayId) (f : Bay → Bay) (s : State) : State := { s with bays := s.bays.set n (f s.bays[n]) }

/-- The record of a port. -/
def State.port (s : State) (p : PortId) : Port := s.ports[p]

/-- Change the record of a port. -/
def State.modPort (p : PortId) (f : Port → Port) (s : State) : State := { s with ports := s.ports.set p (f s.ports[p]) }

/-- The record in a slot (R1). -/
def State.disc (s : State) (d : DiscId) : Option Disc := s.discs[d]

/-- Change the record in a slot; a write to a free slot is discarded (R4). -/
def State.modDisc (d : DiscId) (f : Disc → Disc) (s : State) : State :=
  { s with discs := s.discs.set d (s.discs[d].map f) }

/-- Free a slot (R16, R17). -/
def State.freeSlot (d : DiscId) (s : State) : State := { s with discs := s.discs.set d none }

/-- Apply an operation to each member of a list in turn. -/
def forEach {α : Type} (xs : List α) (f : α → State → State) (s : State) : State := xs.foldl (fun t x => f x t) s

/-- The disc whose record is located at a place: the occupancy view (R2). -/
def State.discAt (s : State) (l : Location) : Option DiscId :=
  allDiscs.find? (fun d => (s.disc d).any (fun r => r.location == l))

/-- The record located at a place (R2). -/
def State.recAt (s : State) (l : Location) : Option Disc := (s.discAt l).bind s.disc

/-- Enter a record in the lowest-numbered free slot (R1). -/
def State.createDisc (r : Disc) (s : State) : Option DiscId × State :=
  match allDiscs.find? (fun d => (s.disc d).isNone) with
  | none => (none, s)
  | some d => (some d, { s with discs := s.discs.set d (some r) })

/-! ### Jobs and images -/

/-- The job that holds a number (R19). -/
def State.job? (s : State) (j : Nat) : Option Job := s.jsc.jobs.find? (fun x => x.number == j)

/-- Change the job that holds a number. -/
def State.modJob (j : Nat) (f : Job → Job) (s : State) : State :=
  { s with jsc.jobs := s.jsc.jobs.map (fun x => if x.number = j then f x else x) }

/-- The job of a record. -/
def State.jobOf (s : State) (r : Disc) : Option Job := r.job.bind s.job?

/-- The image that holds a number (R47). -/
def State.image? (s : State) (i : Nat) : Option Image := s.cat.images.find? (fun x => x.number == i)

/-- Change the image that holds a number. -/
def State.modImage (i : Nat) (f : Image → Image) (s : State) : State :=
  { s with cat.images := s.cat.images.map (fun x => if x.number = i then f x else x) }

/-- The image is in a state in which no stream reads it (R53). -/
def State.imageIsLost (s : State) (i : Nat) : Bool := (s.image? i).any (fun x => x.state == .lost)

/-- The disc image of a job. -/
def State.discImageOf (s : State) (j : Job) : Option Image := j.discImage.bind s.image?

/-- The declared length of the disc image of a record's job. -/
def State.copyLength (s : State) (r : Disc) : Nat :=
  (((s.jobOf r).bind s.discImageOf).map Image.length).getD 0

/-- The sample k of a job's verify mode. -/
def Job.sampleK (j : Job) : Option Nat :=
  match j.verify with
  | .sample k => some k
  | _ => none

/-- The number after one, wrapping from 65,535 to 1 (R20, R48). -/
def nextNumber (n : Nat) : Nat := if 65535 ≤ n then 1 else n + 1

/-- The first number from `n` on that no entry holds. `k` bounds the search: with `k` entries in use, one of `k + 1`
numbers is free (R20, R48). -/
def freeNumber (taken : List Nat) : (k : Nat) → (n : Nat) → Nat
  | 0, n => n
  | k + 1, n => if taken.contains n then freeNumber taken k (nextNumber n) else n

/-- A count that stays at its upper limit. -/
def saturate (limit n : Nat) : Nat := min limit n

/-! ### Bay reservations and timers of the JSC -/

/-- What a bay is reserved for (R42, R45). -/
def State.bayRes (s : State) (n : BayId) : Option BayRes := s.jsc.bayRes[n]

/-- Change a bay's reservation. -/
def State.setBayRes (n : BayId) (r : Option BayRes) (s : State) : State :=
  { s with jsc.bayRes := s.jsc.bayRes.set n r }

/-- Start or stop a bay's spare hold timer (R44). -/
def State.setSpareHold (n : BayId) (t : Timer) (s : State) : State :=
  { s with jsc.spareHold := s.jsc.spareHold.set n t }

/-- The bay the JSC holds reserved for a copy (R42). -/
def State.bayFor (s : State) (r : BayRes) : Option BayId := allBays.find? (fun n => s.bayRes n == some r)

/-! ### Ledger, streams -/

/-- A bay's ledger entry (R76). -/
def State.grant (s : State) (n : BayId) : Option Grant := s.rgu.ledger[n]

/-- Write or remove a bay's ledger entry. -/
def State.setGrant (n : BayId) (g : Option Grant) (s : State) : State :=
  { s with rgu.ledger := s.rgu.ledger.set n g }

/-- A bay's stream (R90). -/
def State.stream (s : State) (n : BayId) : Option Stream := s.fdr.streams[n]

/-- Open, change or remove a bay's stream. -/
def State.setStream (n : BayId) (x : Option Stream) (s : State) : State :=
  { s with fdr.streams := s.fdr.streams.set n x }

/-- Change a bay's stream, if it has one. -/
def State.modStream (n : BayId) (f : Stream → Stream) (s : State) : State :=
  s.setStream n ((s.stream n).map f)

/-- A bay's draining count (R90). -/
def State.drainingCount (s : State) (n : BayId) : Nat := s.fdr.draining[n]

/-- Change a bay's draining count. -/
def State.modDraining (n : BayId) (f : Nat → Nat) (s : State) : State :=
  { s with fdr.draining := s.fdr.draining.set n (f s.fdr.draining[n]) }

/-! ### Spindles and the arm's move -/

/-- The record of an input spindle (R162). -/
def State.spindle (s : State) : Spindle → SpindleRec
  | .inA => s.tsq.inA
  | .inB => s.tsq.inB

/-- Change the record of an input spindle. -/
def State.modSpindle (x : Spindle) (f : SpindleRec → SpindleRec) (s : State) : State :=
  match x with
  | .inA => { s with tsq.inA := f s.tsq.inA }
  | .inB => { s with tsq.inB := f s.tsq.inB }

/-- The other input spindle. -/
def Spindle.other : Spindle → Spindle
  | .inA => .inB
  | .inB => .inA

/-- The input spindles a preference allows (R24). -/
def SpindlePref.allows : SpindlePref → Spindle → Bool
  | .inA, .inA | .inB, .inB | .either, _ => true
  | _, _ => false

/-- A spindle is NORMAL with a class (R41, R162). -/
def SpindleRec.usable (r : SpindleRec) (c : MediaClass) : Bool := r.state == .normal && r.cls == some c

/-- Change the current move, if there is one. -/
def State.modMove (f : Move → Move) (s : State) : State := { s with tsq.arm.move := s.tsq.arm.move.map f }

/-- Set the arm's state. -/
def State.armTo (x : ArmState) (s : State) : State := { s with tsq.arm.state := x }

/-- Set a bay's state. -/
def State.bayTo (n : BayId) (x : BayState) (s : State) : State := s.modBay n (fun b => { b with state := x })

/-- The tower phase is SWEEPING. -/
def State.sweeping (s : State) : Bool := s.tsq.phase != .running

/-- The sweep waits at a bay (R172). -/
def State.sweepAtBay (s : State) (n : BayId) : Bool := s.tsq.phase == .sweeping (.bay n)

end Sys2Proof.Machine
end

