-- ==== Sys2Proof/Machine/Operands.lean ====
section
/-! DEFINITION. The operand forms of the requests and the codes of the replies (11.1): an enumerated value is coded from 1
in the order in which the manual first lists its values; spindles and places are coded IN-A 1, IN-B 2, OUT 3, REJ 4 and
on (notes/assumptions/22.md). -/

namespace Sys2Proof.Machine

/-! ### Codes a request carries -/

/-- The value a code names in a list of values in code order. -/
def ofCode {α : Type} (values : List α) (n : Nat) : Option α := if n = 0 then none else values[n - 1]?

def imageKindOf : Nat → Option ImageKind := ofCode [.disc, .label]
def spindleOf : Nat → Option Spindle := ofCode [.inA, .inB]
def classOf : Nat → Option MediaClass := ofCode [.L, .M]
def prefOf : Nat → Option SpindlePref := ofCode [.inA, .inB, .either]
def orderOf : Nat → Option OrderMode := ofCode [.burnThenPrint, .printThenBurn, .burnOnly, .printOnly]
def drainOf : Nat → Option DrainKind := ofCode [.soft, .hard]
def actionOf : Nat → Option BookAction := ofCode [.notify, .notifyHold]

/-- The event kinds in code order (10.5). -/
def eventKinds : List EventKind :=
  [.jobDone, .jobHeld, .copyRejected, .serialEnd, .inkOut, .printerJam, .inkLow, .spindleEmpty, .spindleSuspect,
    .outFull, .rejFull, .armFault, .doorOpen, .bayOffline, .imageReady, .imageGap, .imageLost]

def eventKindOf : Nat → Option EventKind := ofCode eventKinds

/-- OFF, STOP, COUNT, RETRY, SAMPLE; a SAMPLE needs k of 2 to 16 (R22). -/
def verifyOf (code k : Nat) : Option VerifyMode :=
  match code with
  | 1 => some .off
  | 2 => some .stop
  | 3 => some .count
  | 4 => some .retry
  | 5 => if 2 ≤ k ∧ k ≤ 16 then some (.sample k) else none
  | _ => none

/-- The declared class of SET-SPINDLE: L 1, M 2, UNKNOWN 3 (11.1). -/
def declaredClassOf : Nat → Option (Option MediaClass) := ofCode [some .L, some .M, none]

/-- The count of SET-SPINDLE: 0 to 150, or 255 for UNKNOWN (R164, 11.1). -/
def spindleCountOf (n : Nat) : Option (Option Nat) :=
  if n = 255 then some none else if n ≤ 150 then some (some n) else none

/-- A bay number of a request: above 11 is out of range (R128). -/
def bayOf (n : Nat) : Option BayId := if h : n < 12 then some ⟨n, h⟩ else none

/-- A two-byte number that may be absent (11.1). -/
def absent16 (n : Nat) : Option Nat := if n = 65535 then none else some n

/-- A one-byte value that may be absent (11.1). -/
def absent8 (n : Nat) : Option Nat := if n = 255 then none else some n

/-! ### Codes a reply carries -/

def MediaClass.code : MediaClass → Nat
  | .L => 1 | .M => 2

def declaredClassCode : Option MediaClass → Nat
  | some .L => 1 | some .M => 2 | none => 3

def Spindle.code : Spindle → Nat
  | .inA => 1 | .inB => 2

def SpindlePref.code : SpindlePref → Nat
  | .inA => 1 | .inB => 2 | .either => 3

def OrderMode.code : OrderMode → Nat
  | .burnThenPrint => 1 | .printThenBurn => 2 | .burnOnly => 3 | .printOnly => 4

def VerifyMode.code : VerifyMode → Nat
  | .off => 1 | .stop => 2 | .count => 3 | .retry => 4 | .sample _ => 5

def DrainKind.code : DrainKind → Nat
  | .soft => 1 | .hard => 2 | .fail => 3

def JobState.code : JobState → Nat
  | .waitingImage => 1 | .active => 2 | .held => 3 | .draining => 4 | .complete => 5 | .cancelled => 6 | .failed => 7

def HoldCause.code : HoldCause → Nat
  | .byClient => 1 | .noBlanks => 2 | .imageLost => 3 | .rejectHold => 4 | .cleared => 5 | .serialEnd => 6
  | .spindleSuspect => 7

def RejectCause.code : RejectCause → Nat
  | .notBlank => 1 | .wrongMedia => 2 | .tooSmall => 3 | .writeFailed => 4 | .starved => 5 | .verifyFailed => 6
  | .marginal => 7 | .printFailed => 8 | .bayFault => 9 | .imageLost => 10 | .cancelled => 11 | .doublePick => 12
  | .found => 13 | .cleared => 14 | .lost => 15

def Purpose.code : Purpose → Nat
  | .copy => 1 | .master => 2 | .spare => 3 | .found => 4

def Verdict.code : Verdict → Nat
  | .pending => 1 | .good => 2 | .reject => 3

def ImageKind.code : ImageKind → Nat
  | .disc => 1 | .label => 2

def ImageState.code : ImageState → Nat
  | .filling => 1 | .ready => 2 | .doomed => 3 | .lost => 4

def LossReason.code : LossReason → Nat
  | .abandoned => 1 | .memory => 2 | .tooLarge => 3 | .blankMaster => 4 | .unreadable => 5 | .aborted => 6

def GrantKind.code : GrantKind → Nat
  | .write => 1 | .verify => 2

def GrantPhase.code : GrantPhase → Nat
  | .speedPending => 1 | .settled => 2

def BayState.code : BayState → Nat
  | .absent => 1 | .offline => 2 | .empty => 3 | .reserved => 4 | .trayOut => 5 | .probing => 6 | .grantWait => 7
  | .prefill => 8 | .writing => 9 | .closing => 10 | .verifyWait => 11 | .verifying => 12 | .masterRead => 13
  | .spare => 14 | .holding => 15 | .fault => 16

def Tray.code : Tray → Nat
  | .closed => 1 | .moving => 2 | .opened => 3 | .unknown => 4

def Errand.code : Errand → Nat
  | .none => 1 | .place => 2 | .pick => 3 | .sense => 4

def OfflineCause.code : OfflineCause → Nat
  | .client => 1 | .quarantine => 2

/-- A bridge code as it is, the part's own codes above them (notes/assumptions/23.md). -/
def FaultCode.code : FaultCode → Nat
  | .bridge c => c | .noMedia => 256 | .trayTimeout => 257 | .probeTimeout => 258 | .speedTimeout => 259
  | .closeTimeout => 260

def EnginePhase.code : EnginePhase → Nat
  | .idle => 1 | .reading => 2 | .halting => 3 | .reread => 4 | .tail => 5

def ArmState.code : ArmState → Nat
  | .homing => 1 | .parked => 2 | .toSource => 3 | .picking => 4 | .toDest => 5 | .placing => 6 | .stopped => 7
  | .fault => 8

def ArmCmd.code : ArmCmd → Nat
  | .goto => 1 | .grip => 2 | .release => 3 | .home => 4

def ArmFault.code : ArmFault → Nat
  | .motionFault => 1 | .timeout => 2 | .senseDisagree => 3

def EntryClass.code : EntryClass → Nat
  | .clear => 1 | .load => 2

/-- One code for each place: those of 11.1 first, and then PRINTER, the bays, HOME, UNKNOWN and ARM. -/
def Position.code : Position → Nat
  | .inA => 1 | .inB => 2 | .out => 3 | .rej => 4 | .printer => 5 | .bay n => 6 + n.val | .home => 18 | .unknown => 19

def Dest.code : Dest → Nat
  | .out => 3 | .rej => 4 | .printer => 5 | .bay n => 6 + n.val

def Location.code : Location → Nat
  | .printer => 5 | .bay n => 6 + n.val | .arm => 20

def Source.code : Source → Nat
  | .spindle x => x.code | .printer => 5 | .bay n => 6 + n.val | .arm => 20

def SpindleState.code : SpindleState → Nat
  | .normal => 1 | .empty => 2 | .suspect => 3

def Door.code : Door → Nat
  | .opened => 1 | .closed => 2

def ResetCause.code : ResetCause → Nat
  | .powerOn => 1 | .line => 2

def StationState.code : StationState → Nat
  | .vacant => 1 | .reserved => 2 | .loaded => 3 | .printing => 4 | .printed => 5 | .inkOut => 6 | .jammed => 7

def PrintStep.code : PrintStep → Nat
  | .transfer => 1 | .artworkWait => 2 | .leaving => 3 | .stalledSerial => 4 | .stalledArtwork => 5

def SensePending.code : SensePending → Nat
  | .sweep => 1 | .service => 2

def JamCause.code : JamCause → Nat
  | .jam => 1 | .timeout => 2

def BookAction.code : BookAction → Nat
  | .notify => 1 | .notifyHold => 2

/-- The code of an event kind: its place in the table of 10.5. -/
def EventKind.code (k : EventKind) : Nat := eventKinds.idxOf k + 1

/-- The refusal reasons in the order of the table of 10.3. -/
inductive Reason where
  | badFrame | unknownRequest | noRight | badParameter | notOwner | noSuch | tableFull | noSpace | wrongState | inUse
  | short | busy
  deriving DecidableEq, Repr

def Reason.code : Reason → Nat
  | .badFrame => 1 | .unknownRequest => 2 | .noRight => 3 | .badParameter => 4 | .notOwner => 5 | .noSuch => 6
  | .tableFull => 7 | .noSpace => 8 | .wrongState => 9 | .inUse => 10 | .short => 11 | .busy => 12

/-- The subject of a notice (11.2). -/
def Subject.code : Subject → Nat
  | .none => 65535 | .job n => n | .image n => n | .bay n => n.val | .spindle x => x.code | .out => 3 | .rej => 4

/-- The detail of a notice (11.2). -/
def Detail.code : Detail → Nat
  | .none => 4294967295 | .terminal x => x.code | .hold c => c.code | .reject c => c.code | .jam c => c.code
  | .ink n => n | .arm f => f.code | .offline c => c.code | .loss r => r.code | .index n => n

/-! ### The frames of the requests -/

/-- Whether a kind's parameter bytes have a count that 11.1 gives for it; SUBMIT-JOB's text length byte must agree. -/
def paramCountOk (kind : Nat) (params : List Byte) : Bool :=
  match kind with
  | 1 | 5 | 23 => params.length == 6
  | 2 | 3 | 4 | 6 | 8 | 9 | 11 | 12 => params.length == 2
  | 7 => decide (25 ≤ params.length) && decide (params.length ≤ 37)
      && ((params.getD 24 0).toNat + 25 == params.length)
  | 10 | 13 | 17 => params.length == 3
  | 14 | 15 | 16 | 18 | 24 | 26 => params.length == 1
  | 19 | 20 | 21 | 22 | 25 | 27 | 29 => params.length == 0
  | 28 => params.length == 5
  | _ => false

/-- The frame of a request: length, kind, tag, parameters (11.1). -/
def requestFrame (kind tag : Nat) (params : List Byte) : List Byte :=
  u16 (3 + params.length) ++ u8 kind ++ u16 tag ++ params

/-- The parameter bytes of SUBMIT-JOB (11.1). -/
def submitBytes (p : SubmitParams) : List Byte :=
  u16 p.discImage ++ u16 p.labelImage ++ u8 p.mediaClass ++ u8 p.spindle ++ u8 p.order ++ u8 p.verify ++ u8 p.sampleK
    ++ u8 p.marginalLimit ++ u8 p.rejectBudget ++ u16 p.copies ++ u8 p.priority ++ u8 p.writeLimit ++ u8 p.minWrite
    ++ u8 p.readLimit ++ u8 p.earlyStart ++ u16 p.nextLot ++ u16 p.nextUnit ++ u16 p.unitMax ++ textOf p.text

/-- The request a command carries: its port, its kind (10.3), its tag and its parameter bytes (11.1). -/
def requestOf : Instr → Option (PortId × Nat × Nat × List Byte)
  | .openImage p tag kind length flags => some (p, 1, tag, u8 kind ++ u32 length ++ u8 flags)
  | .sealImage p tag image => some (p, 2, tag, u16 image)
  | .abandonImage p tag image => some (p, 3, tag, u16 image)
  | .deleteImage p tag image => some (p, 4, tag, u16 image)
  | .imageFromDisc p tag length spindle flags => some (p, 5, tag, u32 length ++ u8 spindle ++ u8 flags)
  | .queryImage p tag image => some (p, 6, tag, u16 image)
  | .submitJob p tag params => some (p, 7, tag, submitBytes params)
  | .holdJob p tag job => some (p, 8, tag, u16 job)
  | .releaseJob p tag job => some (p, 9, tag, u16 job)
  | .cancelJob p tag job kind => some (p, 10, tag, u16 job ++ u8 kind)
  | .retireJob p tag job => some (p, 11, tag, u16 job)
  | .queryJob p tag job => some (p, 12, tag, u16 job)
  | .readRejects p tag job first => some (p, 13, tag, u16 job ++ u8 first)
  | .queryBay p tag bay => some (p, 14, tag, u8 bay)
  | .bayOffline p tag bay => some (p, 15, tag, u8 bay)
  | .bayOnline p tag bay => some (p, 16, tag, u8 bay)
  | .setSpindle p tag spindle cls count => some (p, 17, tag, u8 spindle ++ u8 cls ++ u8 count)
  | .spindleEmptied p tag place => some (p, 18, tag, u8 place)
  | .armResume p tag => some (p, 19, tag, [])
  | .clearTower p tag => some (p, 20, tag, [])
  | .queryTower p tag => some (p, 21, tag, [])
  | .printerServiced p tag => some (p, 22, tag, [])
  | .bookNotice p tag event scope btag action => some (p, 23, tag, u8 event ++ u16 scope ++ u16 btag ++ u8 action)
  | .dropBooking p tag slot => some (p, 24, tag, u8 slot)
  | .fetchNotice p tag => some (p, 25, tag, [])
  | .setAttention p tag setting => some (p, 26, tag, u8 setting)
  | .readSettings p tag => some (p, 27, tag, [])
  | .writeSettings p tag item value => some (p, 28, tag, u8 item ++ u32 value)
  | .saveSettings p tag => some (p, 29, tag, [])
  | _ => none

end Sys2Proof.Machine
end

