-- ==== Sys2Proof/Machine/Flags.lean ====
section
/-! DEFINITION. The lines, flags and marks the part derives from its state: IN-FULL, OUT-READY, ATTN, the ready line, the
rights of a port, the sets of hold causes and steps, the totals of the ledger and the free bays. -/

namespace Sys2Proof.Machine

/-! ### Client links -/

/-- IN-FULL shows that the input latch holds a byte (R189). -/
def Port.inFull (p : Port) : Bool := p.latch.isSome

/-- OUT-READY is set while the part presents a byte of the reply (R191). -/
def Port.outReady (p : Port) : Bool := !p.reply.isEmpty

/-- ATTN is asserted while notices wait and attention is enabled (R200). -/
def Port.attn (p : Port) : Bool := !p.notices.isEmpty && p.attention

/-- The three rights (R194). -/
inductive Right where
  | submit | manage | settings
  deriving DecidableEq, Repr

/-- The bit of a right in a rights item (11.3). -/
def Right.bit : Right → Nat
  | .submit => 0 | .manage => 1 | .settings => 2

/-- The rights item of a port (11.3). -/
def Settings.rights (x : Settings) (p : PortId) : Nat :=
  match p with
  | 0 => x.rights0 | 1 => x.rights1 | 2 => x.rights2 | 3 => x.rights3

/-- A port holds a right (R194). -/
def State.holds (s : State) (p : PortId) (r : Right) : Bool := (s.sst.working.rights p).testBit r.bit

/-- The rights any of which lets a port send a kind; none needs no right (10.3, "Routing"). -/
def kindRights (kind : Nat) : List Right :=
  match kind with
  | 1 | 2 | 3 | 4 | 5 | 7 => [.submit]
  | 8 | 9 | 10 | 11 => [.submit, .manage]
  | 15 | 16 | 17 | 18 | 19 | 20 | 22 => [.manage]
  | 28 | 29 => [.settings]
  | _ => []

/-- The port may send the kind (test 4 of R193). -/
def State.mayRequest (s : State) (p : PortId) (kind : Nat) : Bool :=
  (kindRights kind).isEmpty || (kindRights kind).any (s.holds p)

/-! ### Intake port -/

/-- The ready line is high while the FIFO holds 16 blocks or fewer (R64). -/
def Ipt.ready (i : Ipt) : Bool := decide (i.fifo.length ≤ Config.intakeReadyLimit)

/-! ### Sets -/

/-- A hold cause is present (R27). -/
def HoldSet.has (h : HoldSet) : HoldCause → Bool
  | .byClient => h.byClient | .noBlanks => h.noBlanks | .imageLost => h.imageLost | .rejectHold => h.rejectHold
  | .cleared => h.cleared | .serialEnd => h.serialEnd | .spindleSuspect => h.spindleSuspect

/-- Make a hold cause present or absent. -/
def HoldSet.put (h : HoldSet) (c : HoldCause) (b : Bool) : HoldSet :=
  match c with
  | .byClient => { h with byClient := b } | .noBlanks => { h with noBlanks := b }
  | .imageLost => { h with imageLost := b } | .rejectHold => { h with rejectHold := b }
  | .cleared => { h with cleared := b } | .serialEnd => { h with serialEnd := b }
  | .spindleSuspect => { h with spindleSuspect := b }

/-- The hold set has a member. -/
def HoldSet.nonempty (h : HoldSet) : Bool :=
  h.byClient || h.noBlanks || h.imageLost || h.rejectHold || h.cleared || h.serialEnd || h.spindleSuspect

/-- The hold set as the bits of a set, first-listed cause in bit 0 (11.1). -/
def HoldSet.toList (h : HoldSet) : List Bool :=
  [h.byClient, h.noBlanks, h.imageLost, h.rejectHold, h.cleared, h.serialEnd, h.spindleSuspect]

/-- A step is in the set (R11). -/
def StepSet.has (x : StepSet) : DiscStep → Bool
  | .write => x.write | .verify => x.verify | .print => x.print

/-- Enter a step in the set (R11). -/
def StepSet.enter (x : StepSet) : DiscStep → StepSet
  | .write => { x with write := true } | .verify => { x with verify := true } | .print => { x with print := true }

/-- No step is done. -/
def StepSet.isEmpty (x : StepSet) : Bool := !x.write && !x.verify && !x.print

/-- The steps as the bits of a set. -/
def StepSet.toList (x : StepSet) : List Bool := [x.write, x.verify, x.print]

/-- The running timers of a bay as the bits of a set, in the order of R105. -/
def BayTimers.toList (t : BayTimers) : List Bool :=
  [t.tray.isSome, t.probe.isSome, t.speed.isSome, t.close.isSome, t.read.isSome, t.starve.isSome]

/-! ### Jobs -/

/-- The order writes the disc. -/
def OrderMode.writes : OrderMode → Bool
  | .burnThenPrint | .printThenBurn | .burnOnly => true
  | .printOnly => false

/-- The order prints the disc. -/
def OrderMode.prints : OrderMode → Bool
  | .burnThenPrint | .printThenBurn | .printOnly => true
  | .burnOnly => false

/-- The step list of an order (R12). -/
def stepList (o : OrderMode) (v : VerifyMode) : List DiscStep :=
  let check : List DiscStep := if v = .off then [] else [.verify]
  match o with
  | .burnThenPrint => .write :: check ++ [.print]
  | .printThenBurn => .print :: .write :: check
  | .burnOnly => .write :: check
  | .printOnly => [.print]

/-- The next step of a record of a job: the first of its step list not yet done (R12). -/
def nextStep (j : Job) (r : Disc) : Option DiscStep := (stepList j.order j.verify).find? (fun x => !r.steps.has x)

/-- The next step of the record in a slot (R12). -/
def State.nextStepOf (s : State) (d : DiscId) : Option DiscStep :=
  (s.disc d).bind (fun r => (s.jobOf r).bind (fun j => nextStep j r))

/-- A job in a terminal state (R19). -/
def JobState.terminal : JobState → Bool
  | .complete | .cancelled | .failed => true
  | _ => false

/-- A job that is neither DRAINING nor terminal (R25). -/
def Job.live (j : Job) : Bool := !j.state.terminal && j.state != .draining

/-- Whether a reject cause counts against the budget (R15). -/
def RejectCause.counts : RejectCause → Bool
  | .notBlank | .wrongMedia | .tooSmall | .writeFailed | .starved | .verifyFailed | .marginal | .printFailed
  | .bayFault => true
  | .imageLost | .cancelled | .doublePick | .found | .cleared | .lost => false

/-- Whether a reject cause raises the work bay's consecutive-fault count (R14). -/
def RejectCause.raisesFaults : RejectCause → Bool
  | .writeFailed | .verifyFailed | .marginal | .bayFault => true
  | _ => false

/-- The records of a job, PENDING (R21, "active"). -/
def State.active (s : State) (j : Nat) : Nat :=
  (allDiscs.filter (fun d => (s.disc d).any (fun r => r.job == some j && r.verdict == .pending))).length

/-- The disc table holds a record of the job (R26). -/
def State.hasRecords (s : State) (j : Nat) : Bool := allDiscs.any (fun d => (s.disc d).any (fun r => r.job == some j))

/-! ### Ledger totals (R76) -/

/-- The granted rate of an entry of either kind. -/
def grantRate : Option Grant → Nat
  | some g => g.rate
  | none => 0

/-- The granted rate of an entry of kind WRITE. -/
def writeRate : Option Grant → Nat
  | some g => if g.kind = .write then g.rate else 0
  | none => 0

/-- The committed write rate (R76). -/
def Rgu.committedWrite (r : Rgu) : Nat := (r.ledger.toList.map writeRate).sum

/-- The committed total rate (R76). -/
def Rgu.committedTotal (r : Rgu) : Nat := (r.ledger.toList.map grantRate).sum

/-- The write ceiling W (R72). -/
def Settings.ceiling (x : Settings) : Nat := x.budget - x.reserve

/-- The ledger holds no entry (R72). -/
def Rgu.idle (r : Rgu) : Bool := r.ledger.toList.all Option.isNone

/-! ### Bays and the station -/

/-- A free bay: fitted, online, in EMPTY and not reserved (R40). -/
def State.freeBay (s : State) (n : BayId) : Bool := (s.bay n).state == .empty && (s.bayRes n).isNone

/-- FIFO free space of a bay: 64 less the occupancy and the blocks in flight to it (R90). -/
def State.fifoFree (s : State) (n : BayId) : Nat :=
  Config.feedFifoBlocks - (s.bay n).fifo.length - (((s.stream n).map Stream.inFlight).getD 0 + s.drainingCount n)

/-- The station cannot start a printing copy (R41). -/
def Psc.blocked (p : Psc) : Bool :=
  p.state == .inkOut || p.state == .jammed
    || (p.state == .loaded && (p.step == some .stalledSerial || p.step == some .stalledArtwork))

/-- A place with OUT or REJ's count and reservations has room for one disc (R151). -/
def BinRec.room (b : BinRec) : Bool := decide (b.count + b.reserved < b.capacity)

end Sys2Proof.Machine
end

