-- ==== Sys2Proof/Machine/Notices.lean ====
section
/-! DEFINITION. The notice unit of the CLU (R195 to R198): matching an event against the bookings of each port, queueing
the notices, and the NOTIFY-HOLD report. -/

namespace Sys2Proof.Machine

/-- A booking matches an event (R197). -/
def Booking.matchesEvent (b : Booking) (e : Event) : Bool :=
  b.kind == e.kind &&
    match b.scope with
    | none => true
    | some j => e.subject == .job j

/-- A notice joins the queue's tail, or is dropped with the overflow flag set when 16 wait (R197). -/
def Port.join (p : Port) (x : Notice) : Port :=
  if p.notices.length < Config.noticeEntries then { p with notices := p.notices ++ [x] } else { p with overflow := true }

/-- The bookings of a port in slot order (R197). -/
def Port.booked (p : Port) : List Booking := p.bookings.toList.filterMap id

/-- Deliver an event at a port: one notice for each matching booking, in slot order (R197). -/
def Port.deliver (e : Event) (p : Port) : Port :=
  (p.booked.filter (fun b => b.matchesEvent e)).foldl
    (fun q b => q.join { kind := e.kind, tag := b.tag, subject := e.subject, detail := e.detail }) p

/-- Deliver an event at every port (R197). -/
def State.deliver (e : Event) (s : State) : State := forEach allPorts (fun p => State.modPort p (Port.deliver e)) s

/-- A COPY-REJECTED event of job `j` matches a NOTIFY-HOLD booking of a port that owns the job or holds MANAGE (R198). -/
def State.notifyHold (s : State) (j : Nat) (e : Event) : Bool :=
  allPorts.any fun p =>
    ((s.job? j).any (fun x => x.owner == p) || s.holds p .manage)
      && (s.port p).booked.any (fun b => b.matchesEvent e && b.action == .notifyHold)

end Sys2Proof.Machine
end

