-- ==== Sys2Proof/Machine/Jobs.lean ====
section
/-! DEFINITION. The accounts of images and jobs that every block reaches: reference and access counts and the freeing of an
image (R55), hold causes (R27, R28), job states (R25) and terminal states (R26). -/

namespace Sys2Proof.Machine

/-! ### Reference counts and freeing -/

/-- An entry is freed once it is DOOMED or LOST with no references and no accesses; its extents return with it (R55,
R52). -/
def State.freeTest (i : Nat) (s : State) : State :=
  match s.image? i with
  | some x =>
    if (x.state = .doomed ∨ x.state = .lost) ∧ x.refs = 0 ∧ x.accesses = 0 then
      { s with cat.images := s.cat.images.filter (fun y => y.number != i) }
    else s
  | none => s

/-- One reference more (R55). -/
def State.addRef (i : Nat) (s : State) : State := s.modImage i (fun x => { x with refs := x.refs + 1 })

/-- One reference less, and the freeing test (R55). -/
def State.dropRef (i : Nat) (s : State) : State :=
  (s.modImage i (fun x => { x with refs := x.refs - 1 })).freeTest i

/-- A memory request of the image has been issued (R69). -/
def State.accessUp (i : Nat) (s : State) : State := s.modImage i (fun x => { x with accesses := x.accesses + 1 })

/-- A memory request of the image has completed, and the freeing test (R69, R55). -/
def State.accessDown (i : Nat) (s : State) : State :=
  (s.modImage i (fun x => { x with accesses := x.accesses - 1 })).freeTest i

/-! ### Job states -/

/-- The condition on a job's disc image (R25). -/
def discImageMet (j : Job) (x : Option Image) : Bool :=
  match j.discImage, x with
  | none, _ => true
  | some _, none => false
  | some _, some x =>
    match x.state with
    | .ready | .doomed => true
    | .filling => j.earlyStart && decide (min Config.earlyStartBlocks x.length ≤ x.ingested)
    | .lost => false

/-- The condition on a job's label image (R25). -/
def labelImageMet (j : Job) (x : Option Image) : Bool :=
  match j.labelImage, x with
  | none, _ => true
  | some _, none => false
  | some _, some x => x.state == .ready || x.state == .doomed

/-- The image condition of R25. -/
def State.imagesMet (s : State) (j : Job) : Bool :=
  discImageMet j (j.discImage.bind s.image?) && labelImageMet j (j.labelImage.bind s.image?)

/-- The state that R25 gives a job that is neither DRAINING nor terminal. -/
def State.liveState (s : State) (j : Job) : JobState :=
  if j.holds.nonempty then .held else if s.imagesMet j then .active else .waitingImage

/-- Apply R25 to a job; a job whose state becomes ACTIVE causes a pass. -/
def State.refreshJob (n : Nat) (s : State) : State :=
  match s.job? n with
  | some j =>
    if j.live then
      let next := s.liveState j
      let t := s.modJob n (fun x => { x with state := next })
      if next = .active ∧ j.state ≠ .active then t.duePass else t
    else s
  | none => s

/-- Apply R25 to each job that names an image (R53). -/
def State.refreshNaming (i : Nat) (s : State) : State :=
  forEach ((s.jsc.jobs.filter (fun j => j.discImage == some i || j.labelImage == some i)).map Job.number)
    State.refreshJob s

/-- Add a hold cause to a job that is neither DRAINING nor terminal; a new cause delivers JOB-HELD (R27). -/
def State.addHold (c : HoldCause) (n : Nat) (s : State) : State :=
  match s.job? n with
  | some j =>
    if j.live && !j.holds.has c then
      ((s.modJob n (fun x => { x with holds := x.holds.put c true })).refreshJob n).deliver
        { kind := .jobHeld, subject := .job n, detail := .hold c }
    else s
  | none => s

/-- Remove a hold cause from a job that is neither DRAINING nor terminal (R27). -/
def State.removeHold (c : HoldCause) (n : Nat) (s : State) : State :=
  match s.job? n with
  | some j =>
    if j.live && j.holds.has c then (s.modJob n (fun x => { x with holds := x.holds.put c false })).refreshJob n else s
  | none => s

/-! ### Terminal states -/

/-- The terminal state a job has reached, if it has (R26). -/
def State.terminalOf (s : State) (j : Job) : Option JobState :=
  if s.hasRecords j.number then none
  else
    match j.state with
    | .active | .held => if j.good = j.copies then some .complete else none
    | .draining =>
      if j.loads = 0 then
        match j.drain with
        | some .fail => some .failed
        | some .soft | some .hard => some .cancelled
        | none => none
      else none
    | _ => none

/-- Test R26 for a job: on entering a terminal state it gives back its references and delivers JOB-DONE. -/
def State.terminalTest (n : Nat) (s : State) : State :=
  match s.job? n with
  | some j =>
    match s.terminalOf j with
    | some x =>
      let s := s.modJob n (fun y => { y with state := x })
      let s := forEach j.discImage.toList State.dropRef s
      let s := forEach j.labelImage.toList State.dropRef s
      s.deliver { kind := .jobDone, subject := .job n, detail := .terminal x }
    | none => s
  | none => s

/-! ### Spindle hold causes -/

/-- Some allowed spindle of a job is NORMAL with its class (R28). -/
def State.hasBlanks (s : State) (j : Job) : Bool :=
  [Spindle.inA, .inB].any (fun x => j.pref.allows x && (s.spindle x).usable j.cls)

/-- Evaluate NO-BLANKS for a job (R28). -/
def State.evalNoBlanks (n : Nat) (s : State) : State :=
  match s.job? n with
  | some j => if s.hasBlanks j then s.removeHold .noBlanks n else s.addHold .noBlanks n
  | none => s

/-- A spindle has just turned SUSPECT: the jobs it is allowed for and whose class it declares gain SPINDLE-SUSPECT (R28). That
every job gains it before NO-BLANKS is evaluated for any is the model's order (notes/assumptions/5.md). -/
def State.suspectHolds (x : Spindle) (s : State) : State :=
  forEach (((s.jsc.jobs.filter (fun j => j.pref.allows x && (s.spindle x).cls == some j.cls)).map Job.number))
    (State.addHold .spindleSuspect) s

/-- After an accepted SET-SPINDLE a job loses SPINDLE-SUSPECT when none of its allowed spindles is SUSPECT (R28). -/
def State.clearSuspectHolds (s : State) : State :=
  forEach
    ((s.jsc.jobs.filter (fun j =>
      !([Spindle.inA, .inB].any (fun x => j.pref.allows x && (s.spindle x).state == .suspect)))).map Job.number)
    (State.removeHold .spindleSuspect) s

/-- The TSQ reports a change of a spindle's state or class: NO-BLANKS is evaluated for every job (R28). -/
def State.evalSpindles (s : State) : State := forEach (s.jsc.jobs.map Job.number) State.evalNoBlanks s

/-- The count of a job's loads pending falls by one, and R26 is tested (R31). -/
def State.loadGone (n : Nat) (s : State) : State :=
  ((s.modJob n (fun x => { x with loads := x.loads - 1 })).terminalTest n).duePass

end Sys2Proof.Machine
end

