-- ==== Sys2Proof/Machine/Grants.lean ====
section
/-! DEFINITION. The Rate Grant Unit (R72 to R89) and the closing of streams that its removals cause (R101). -/

namespace Sys2Proof.Machine

/-! ### Closing streams -/

/-- A feed read of a bay's stream or re-read. -/
def FeedRead.ofBay (r : FeedRead) (n : BayId) : Bool := r.user == .stream n || r.user == .reread n

/-- Set the fate of the feed reads a test picks, waiting or being served. -/
def Smc.setFate (m : Smc) (p : FeedRead → Bool) (x : FeedFate) : Smc :=
  let mark (r : FeedRead) : FeedRead := if p r then { r with fate := x } else r
  { m with
    feedQueue := m.feedQueue.map mark
    serving := m.serving.map (fun q =>
      match q with
      | .feed r => .feed (mark r)
      | q => q) }

/-- Close a bay's stream: it leaves the table, and its blocks in flight join the draining count (R101). -/
def State.closeStream (n : BayId) (s : State) : State :=
  match s.stream n with
  | some x =>
    let s := (s.setStream n none).modDraining n (· + x.inFlight)
    { s with smc := s.smc.setFate (fun r => r.ofBay n) .drain }
  | none => s

/-! ### The grant test -/

/-- The free rate for a kind (R77). -/
def State.freeRate (s : State) (k : GrantKind) : Nat :=
  let all := s.sst.working.budget - s.rgu.committedTotal
  match k with
  | .write => min (s.sst.working.ceiling - s.rgu.committedWrite) all
  | .verify => all

/-- The largest listed step the three conditions of R77 admit. -/
def grantStep (w : WaitEntry) (free : Nat) : Option Nat :=
  ((listedSteps w.kind w.cls).filter (fun m =>
    decide (m ≤ w.requested) && (w.minimum.all (fun lo => decide (lo ≤ m))) && decide (stepRate w.cls m ≤ free))).getLast?

/-- An entry is blocking while its pass count is 4 (R79). -/
def WaitEntry.blocking (w : WaitEntry) : Bool := decide (Config.passLimit ≤ w.passes)

/-- What a scan has made of an entry (R80). -/
inductive ScanMark where
  | granted (step : Nat) | skipped | untested
  deriving DecidableEq, Repr

/-- The ledger entry a grant writes (R78). -/
def WaitEntry.grant (w : WaitEntry) (m : Nat) : Grant :=
  { kind := w.kind, cls := w.cls, step := m, rate := stepRate w.cls m, phase := .speedPending }

/-- The walk of a scan from the head: each entry that passes is granted and raises the totals before the next is
tested; a blocking entry that fails stops the walk (R80). -/
def scanWalk : List WaitEntry → State → State × List (WaitEntry × ScanMark)
  | [], s => (s, [])
  | w :: ws, s =>
    match grantStep w (s.freeRate w.kind) with
    | some m =>
      let (t, marks) := scanWalk ws (s.setGrant w.bay (some (w.grant m)))
      (t, (w, .granted m) :: marks)
    | none =>
      if w.blocking then (s, (w, .skipped) :: ws.map (fun v => (v, .untested)))
      else
        let (t, marks) := scanWalk ws s
        (t, (w, .skipped) :: marks)

/-- The wait queue after a scan: granted entries leave, and a skipped entry with a later grant gains a pass, up to 4
(R80, R81). A blocking entry that stopped the walk has no grant behind it. -/
def afterScan : List (WaitEntry × ScanMark) → List WaitEntry
  | [] => []
  | (_, .granted _) :: rest => afterScan rest
  | (w, .untested) :: rest => w :: afterScan rest
  | (w, .skipped) :: rest =>
    (if rest.any (fun x => match x.2 with | .granted _ => true | _ => false)
     then { w with passes := saturate Config.passLimit (w.passes + 1) } else w) :: afterScan rest

/-- A grant reaches its bay: SPEED is sent, speed pending is set and the speed report timer starts (R112). -/
def State.handGrant (n : BayId) (k : GrantKind) (m : Nat) (s : State) : State :=
  (s.toBay n (.speed m k)).modBay n (fun b =>
    { b with speedPending := true, timers.speed := some Config.speedReportMs })

/-- Hand over each grant of a scan, in queue order. -/
def handGrants : List (WaitEntry × ScanMark) → State → State
  | [], s => s
  | (w, .granted m) :: rest, s => handGrants rest (s.handGrant w.bay w.kind m)
  | _ :: rest, s => handGrants rest s

/-- A scan of the wait queue (R80, R81). -/
def State.scan (s : State) : State :=
  let (t, marks) := scanWalk s.rgu.queue s
  handGrants marks { t with rgu.queue := afterScan marks }

/-! ### Requests, withdrawals, releases -/

/-- Remove a bay's ledger entry for a reason other than a release of the Feeder: a SETTLED entry closes the bay's
stream (R101). -/
def State.removeGrant (n : BayId) (s : State) : State :=
  match s.grant n with
  | some g =>
    let s := s.setGrant n none
    if g.phase = .settled then s.closeStream n else s
  | none => s

/-- A bay's wait-queue entry leaves the queue. -/
def State.removeWait (n : BayId) (s : State) : State :=
  { s with rgu.queue := s.rgu.queue.filter (fun w => w.bay != n) }

/-- A bay has an entry in the wait queue. -/
def State.waits (s : State) (n : BayId) : Bool := s.rgu.queue.any (fun w => w.bay == n)

/-- A release handed by the Feeder, which has closed the stream (R86). -/
def State.release (n : BayId) (s : State) : State :=
  match s.grant n with
  | some _ => (s.setGrant n none).scan
  | none => s

/-- A withdrawal by a bay: whatever it holds is removed, and a scan follows; a bay that holds nothing is left as it is
(R82). -/
def State.withdraw (n : BayId) (s : State) : State :=
  if (s.grant n).isSome then (s.removeGrant n).scan
  else if s.waits n then (s.removeWait n).scan
  else s

/-- A grant request joins the tail of the queue in place of whatever the bay holds, and a scan follows (R78). -/
def State.requestGrant (w : WaitEntry) (s : State) : State :=
  let s := (s.removeGrant w.bay).removeWait w.bay
  { s with rgu.queue := s.rgu.queue ++ [w] }.scan

/-- The write grant request of a bay for a copy (R74). -/
def writeRequest (n : BayId) (j : Job) (m : MediaReport) : WaitEntry :=
  let top := min m.maxWrite (topStep .write j.cls)
  let asked := roundDown .write j.cls (min (j.writeLimit.getD top) top)
  { bay := n, kind := .write, cls := j.cls, requested := asked, minimum := j.minWrite.map (fun lo => min lo asked) }

/-- The verify grant request of a bay for a copy (R75). -/
def verifyRequest (n : BayId) (j : Job) (m : MediaReport) : WaitEntry :=
  let top := min m.maxRead (topStep .verify j.cls)
  { bay := n, kind := .verify, cls := j.cls, requested := roundDown .verify j.cls (min (j.readLimit.getD top) top)
    minimum := none }

/-! ### The speed report -/

/-- What an adjustment comes to (R83). -/
inductive Adjusted where
  /-- The entry is SETTLED at a rate; `freed` says whether it shrank. -/
  | settled (rate : Nat) (freed : Bool)
  /-- The grant went back to the head of the queue (R85). -/
  | sentBack
  /-- No SPEED-PENDING entry: discarded. -/
  | discarded
  deriving DecidableEq, Repr

/-- Whether an entry can grow to a rate, its own rate counting as free (R85). -/
def State.growthFits (s : State) (g : Grant) (rate : Nat) : Bool :=
  let all := s.sst.working.budget - (s.rgu.committedTotal - g.rate)
  match g.kind with
  | .write => decide (rate ≤ min (s.sst.working.ceiling - (s.rgu.committedWrite - g.rate)) all)
  | .verify => decide (rate ≤ all)

/-- Take an adjustment: settle, shrink or grow the entry, or send it back (R83 to R85). The scan that follows a
shrinking or a send-back is the caller's. -/
def State.adjust (n : BayId) (reported : Nat) (s : State) : State × Adjusted :=
  match s.grant n with
  | some g =>
    if g.phase = .speedPending then
      let a := roundUp g.kind g.cls reported
      let rate := stepRate g.cls a
      let settled : Grant := { g with step := a, rate := rate, phase := .settled }
      if a ≤ g.step then (s.setGrant n (some settled), .settled rate (decide (a < g.step)))
      else if s.growthFits g rate then (s.setGrant n (some settled), .settled rate false)
      else
        let back : WaitEntry := { bay := n, kind := g.kind, cls := g.cls, requested := a, minimum := some a }
        let s := s.setGrant n none
        ({ s with rgu.queue := back :: s.rgu.queue }, .sentBack)
    else (s, .discarded)
  | none => (s, .discarded)

end Sys2Proof.Machine
end

