-- ==== Sys2Proof/Machine/Bays.lean ====
section
/-! DEFINITION. What the sequencers of the bays share (Section 6): where a disc must go (R12), CLEAR entries (R118, R150,
R161), reservations and going idle or OFFLINE (R107, R127), tray motions (R107, R108) and the teardown (R119). -/

namespace Sys2Proof.Machine

/-! ### Where a disc must go -/

/-- The place a record requires (R12); none when it stays where it is. -/
def State.requiredDest (s : State) (r : Disc) : Option Dest :=
  match r.purpose with
  | .master => some .out
  | .found => some .rej
  | .spare => if r.verdict = .reject then some .rej else none
  | .copy =>
    match r.verdict with
    | .reject => some .rej
    | .good => some .out
    | .pending =>
      match s.jobOf r with
      | none => none
      | some j =>
        match nextStep j r with
        | some .print => some .printer
        | some .write =>
          match r.job, r.attempt with
          | some n, some a => (s.bayFor (.copy n a)).map Dest.bay
          | _, _ => none
        | _ => none

/-! ### CLEAR entries -/

/-- An entry for the disc is queued or is the current move. -/
def State.hasEntry (s : State) (d : DiscId) : Bool :=
  s.tsq.queue.any (fun e => e.disc == some d) || s.tsq.arm.move.any (fun m => m.entry.disc == some d)

/-- Queue a CLEAR for a disc unless an entry for it is held already (R150). -/
def State.queueClear (src : Source) (d : DiscId) (dest : Dest) (s : State) : State :=
  if s.hasEntry d then s
  else
    let e : Entry := { cls := .clear, source := src, dest := dest, disc := some d, time := s.tsq.clock }
    let t : State := { s with tsq.queue := s.tsq.queue ++ [e] }
    t.dueSelect

/-- Queue the CLEAR of the disc at a bay to the place R12 gives (R118). -/
def State.clearFromBay (n : BayId) (s : State) : State :=
  match s.discAt (.bay n) with
  | some d =>
    match (s.disc d).bind s.requiredDest with
    | some dest => s.queueClear (.bay n) d dest
    | none => s
  | none => s

/-- A disc's queued CLEAR changes its destination to REJ in place (R118, R161). -/
def State.rerouteQueued (d : DiscId) (s : State) : State :=
  let t : State := { s with tsq.queue := s.tsq.queue.map (fun (e : Entry) =>
      if e.disc = some d ∧ e.cls = .clear then { e with dest := .rej } else e) }
  t.dueSelect

/-! ### Idle bays, reservations and OFFLINE -/

/-- A pending offline can take effect (R127). -/
def State.offlineReady (s : State) (n : BayId) : Bool :=
  let b := s.bay n
  (s.discAt (.bay n)).isNone && (s.bayRes n).isNone
    && (b.state == .empty || (b.state == .fault && b.errand == .none))

/-- A pending offline takes effect when it can, and delivers BAY-OFFLINE (R127). -/
def State.offlineCheck (n : BayId) (s : State) : State :=
  match (s.bay n).offline with
  | some c =>
    if s.offlineReady n then
      ((s.modBay n (fun b =>
        { b with
          state := .offline, offline := none, errand := .none, timers := {}
          tray := if b.tray = .moving then .unknown else b.tray })).deliver
        { kind := .bayOffline, subject := .bay n, detail := .offline c }).dueSweep
    else s
  | none => s

/-- A bay with no disc goes to RESERVED while the JSC holds its reservation, and otherwise to EMPTY, subject to offline
pending (R107). -/
def State.idleBay (n : BayId) (s : State) : State :=
  let s := s.bayTo n (if (s.bayRes n).isSome then .reserved else .empty)
  (s.offlineCheck n).dueBoth

/-- The JSC drops its reservation of a bay: a RESERVED bay returns to EMPTY, subject to offline pending (R107). -/
def State.dropBayRes (n : BayId) (s : State) : State :=
  if (s.bayRes n).isSome then
    let s := s.setBayRes n none
    let s := if (s.bay n).state = .reserved then s.bayTo n .empty else s
    (s.offlineCheck n).dueBoth
  else s

/-- Drop the JSC's reservation of whatever bay is held for a copy or a master. -/
def State.dropResOf (r : BayRes) (s : State) : State :=
  match s.bayFor r with
  | some n => s.dropBayRes n
  | none => s

/-- Drop a station reservation: a station in RESERVED becomes VACANT (R175). -/
def State.unreserveStation (r : StationRes) (s : State) : State :=
  if s.psc.reservedFor = some r then
    let x : StationState := if s.psc.state = .reserved then .vacant else s.psc.state
    let t : State := { s with psc.reservedFor := none, psc.state := x }
    t.dueBoth
  else s

/-- The JSC drops its bay and station reservations for a copy (R36, R42). -/
def State.dropCopyRes (job attempt : Nat) (s : State) : State :=
  (s.dropResOf (.copy job attempt)).unreserveStation (.copy job attempt)

/-! ### Trays -/

/-- Start a tray motion (R107, R108). -/
def State.moveTray (n : BayId) (shut : Bool) (s : State) : State :=
  (s.toBay n (if shut then .trayClose else .trayOpen)).modBay n (fun b =>
    { b with tray := .moving, traysIn := shut, timers.tray := some Config.trayMotionMs })

/-- Whether a bay takes a request to open its tray for a placement: RESERVED, or EMPTY while the JSC holds it reserved
(R107, R158). -/
def State.placeable (s : State) (n : BayId) : Bool :=
  (s.bay n).state == .reserved || ((s.bay n).state == .empty && (s.bayRes n).isSome)

/-- The TSQ asks a bay to open its tray for a placement (R107). -/
def State.openToPlace (n : BayId) (s : State) : State :=
  (s.moveTray n false).modBay n (fun b => { b with errand := .place, state := .trayOut })

/-- The TSQ asks a bay to open its tray for a pick; a FAULT bay stays in FAULT (R108). -/
def State.openToPick (n : BayId) (s : State) : State :=
  (s.moveTray n false).modBay n (fun b =>
    { b with errand := .pick, state := if b.state = .fault then .fault else .trayOut })

/-- The TSQ asks a bay to close its tray: an errand's tray that is not yet closing closes (R107, R108). That a bay whose errand
has failed under the GRIP, and that is still in FAULT, sends no TRAY-CLOSE is the model's (R157; notes/assumptions/49.md). -/
def State.closeTray (n : BayId) (s : State) : State :=
  let b := s.bay n
  if (b.errand = .place ∨ b.errand = .pick) ∧ ¬(b.tray = .moving ∧ b.traysIn = true) then s.moveTray n true else s

/-! ### Ending an operation -/

/-- The states whose drive is working (R119, step 1). -/
def BayState.working : BayState → Bool
  | .probing | .writing | .closing | .verifying | .masterRead => true
  | _ => false

/-- Steps 3 to 5 of R119: buffers, timers and flags; the compare engine returns to its idle values (R147). -/
def Bay.quiet (b : Bay) : Bay :=
  { b with
    fifo := [], holding := []
    timers := { tray := b.timers.tray }
    speedPending := false, refillHold := false, imageLostMark := false, wantCredit := 0, sentBlocks := 0
    masterHeld := false
    engine := {} }

/-- The teardown of R119; `abort`: step 1 applies. -/
def State.teardown (n : BayId) (abort : Bool) (s : State) : State :=
  let s := if abort && (s.bay n).state.working then s.toBay n .abort else s
  (s.withdraw n).modBay n Bay.quiet

/-- A bay enters HOLDING with its CLEAR (R118). -/
def State.hold (n : BayId) (s : State) : State := (s.bayTo n .holding).clearFromBay n

/-- A verify ends: the read inactivity timer stops, the bay withdraws, and its buffers and engine are emptied (R117,
R133). -/
def State.leaveVerify (n : BayId) (s : State) : State :=
  (s.withdraw n).modBay n (fun b => { b with fifo := [], holding := [], timers.read := none, engine := {} })

end Sys2Proof.Machine
end

