-- ==== Sys2Proof/Machine/Verdicts.lean ====
section
/-! DEFINITION. The verdict of a record and the hand-offs it makes to its job, its work bay and the CLU (R13, R14), the
deletion of a record (R16, R17), and the step a bay or the station enters (R11). -/

namespace Sys2Proof.Machine

/-- Set the verdict and the cause together (R13): GOOD, or REJECT with a cause. -/
def Disc.decide' (v : Option RejectCause) (r : Disc) : Disc :=
  match v with
  | none => { r with verdict := .good }
  | some c => { r with verdict := .reject, cause := some c }

/-- A job's accounts at a verdict of one of its records (R14, R33). R10 hands the reject log the mismatch count too, for which
R14, R33 and 11.2 give an entry no place; that the entry keeps none is DEDUCED (notes/assumptions/68.md). -/
def Job.account (r : Disc) (v : Option RejectCause) (j : Job) : Job :=
  match v with
  | none => { j with good := j.good + 1 }
  | some c =>
    { j with
      rejected := saturate Config.count16 (j.rejected + 1)
      budgetRejects := if c.counts then saturate Config.count16 (j.budgetRejects + 1) else j.budgetRejects
      log :=
        if j.log.length < Config.rejectLogEntries then
          j.log ++ [{ attempt := r.attempt.getD 0, workBay := r.workBay, cause := c, firstMismatch := r.firstMismatch }]
        else j.log }

/-- A rise of a bay's consecutive-fault count; at the quarantine count, offline pending becomes QUARANTINE (R127). -/
def State.raiseFaults (n : BayId) (s : State) : State :=
  let count := saturate 9 ((s.bay n).faults + 1)
  let s := s.modBay n (fun b => { b with faults := count })
  if s.sst.working.quarantine ≤ count then
    (s.modBay n (fun b => { b with offline := some .quarantine })).offlineCheck n
  else s

/-- The hand-off to the Bay Controller of the work bay (R14). -/
def State.handBay (r : Disc) (v : Option RejectCause) (s : State) : State :=
  match r.workBay with
  | none => s
  | some n =>
    match v with
    | none => if r.purpose = .copy ∧ r.steps.write then s.modBay n (fun b => { b with faults := 0 }) else s
    | some c => if c.raisesFaults then s.raiseFaults n else s

/-- The COPY-REJECTED event of a job, and REJECT-HOLD when it matches a NOTIFY-HOLD booking (R14, R198). -/
def State.handClu (job : Nat) (c : RejectCause) (s : State) : State :=
  let e : Event := { kind := .copyRejected, subject := .job job, detail := .reject c }
  let report := s.notifyHold job e
  let s := s.deliver e
  if report then s.addHold .rejectHold job else s

/-- The hand-offs of a verdict, in the order of R14: Job Scheduler, work bay, CLU. -/
def State.handOffs (r : Disc) (v : Option RejectCause) (s : State) : State :=
  match r.job with
  | none => s.handBay r v
  | some n =>
    let s := (s.modJob n (Job.account r v)).handBay r v
    match v with
    | none => s
    | some c => s.handClu n c

/-- The hand-offs of a verdict and what the Job Scheduler does with it: a rejected copy gives up the reservations made for
it (R42), and the job is tested (R26). -/
def State.handResult (r : Disc) (v : Option RejectCause) (s : State) : State :=
  let s := s.handOffs r v
  match r.job with
  | none => s
  | some n =>
    let s :=
      match v, r.attempt with
      | some _, some a => s.dropCopyRes n a
      | _, _ => s
    (s.terminalTest n).duePass

/-- The spare hold of a spare stops when its verdict becomes final or its record is deleted (R44). -/
def State.stopSpareHold (r : Disc) (s : State) : State :=
  match r.purpose, r.location with
  | .spare, .bay n => (s.setSpareHold n none).duePass
  | _, _ => s

/-- Write a verdict to a record: the first is final, and a write to a free slot is discarded (R13, R4). The budget is
not compared here (R32): see State.verdict. -/
def State.writeVerdict (d : DiscId) (v : Option RejectCause) (s : State) : State :=
  match s.disc d with
  | some r =>
    if r.verdict = .pending then ((s.modDisc d (Disc.decide' v)).stopSpareHold r).handResult r v else s
  | none => s

/-- Enter a step in steps done (R11). -/
def State.enterStep (d : DiscId) (x : DiscStep) (s : State) : State :=
  s.modDisc d (fun r => { r with steps := r.steps.enter x })

/-- The queued entries of a disc leave the transport queue. -/
def State.dropEntries (d : DiscId) (s : State) : State :=
  { s with tsq.queue := s.tsq.queue.filter (fun e => e.disc != some d) }

/-- A record is deleted: its slot becomes free, its job is tested by R26, and any reservation made for it is dropped
(R16, R42). A CLEAR still queued for it goes with it (notes/assumptions/50.md). -/
def State.deleteDisc (d : DiscId) (s : State) : State :=
  match s.disc d with
  | some r =>
    let s := ((s.freeSlot d).dropEntries d).stopSpareHold r
    match r.job, r.attempt with
    | some n, some a => ((s.dropCopyRes n a).terminalTest n).duePass
    | some n, none => (s.terminalTest n).duePass
    | none, _ => s
  | none => s

/-- A record whose disc is missing is rejected LOST unless its verdict is final, and deleted (R17). -/
def State.loseDisc (d : DiscId) (s : State) : State := (s.writeVerdict d (some .lost)).deleteDisc d

/-- The record of the master of an image whose read has no outcome yet (R68); a DOUBLE-PICK pair is REJECT and is not
it. -/
def State.masterOf (s : State) (i : Nat) : Option DiscId :=
  allDiscs.find? (fun d =>
    (s.disc d).any (fun r => r.purpose == .master && r.image == some i && r.verdict == .pending))

end Sys2Proof.Machine
end

