-- ==== Sys2Proof/Machine/Station.lean ====
section
/-! DEFINITION. What the Print Station Controller shares with the other blocks: the artwork transfer it withdraws (R102),
its CLEAR entries (R176), what it does with a record that another block rejects (R185), and the disc the arm takes from
its tray. -/

namespace Sys2Proof.Machine

/-- A feed read of the artwork transfer. -/
def FeedRead.ofArtwork (r : FeedRead) : Bool := r.user == .artwork || r.user == .artworkReread

/-- The transfer record is removed, and its blocks in flight are discarded as they complete (R102). -/
def State.withdrawArtwork (s : State) : State :=
  match s.fdr.artwork with
  | some _ => { s with fdr.artwork := none, smc := s.smc.setFate FeedRead.ofArtwork .drain }
  | none => s

/-- Queue the CLEAR of the disc on the printer tray to the place R12 gives; none while the phase is SWEEPING (R176). -/
def State.clearFromPrinter (s : State) : State :=
  if s.sweeping then s
  else
    match s.discAt .printer with
    | some d =>
      match (s.disc d).bind s.requiredDest with
      | some dest => s.queueClear .printer d dest
      | none => s
    | none => s

/-- Set the station's state with no print step. -/
def State.stationTo (x : StationState) (s : State) : State := { s with psc.state := x, psc.step := none }

/-- The disc is done with the station: LOADED with print step LEAVING, and its CLEAR (R176). -/
def State.stationLeaves (s : State) : State :=
  let t : State := { s with psc.state := .loaded, psc.step := some .leaving }
  t.clearFromPrinter

/-- The transfer is withdrawn if held and the print timer stops. -/
def State.stopArtwork (s : State) : State :=
  let t : State := { s with psc.timer := none }
  t.withdrawArtwork

/-- The record on the printer tray has become REJECT through a write by another block (R185). -/
def State.stationOnReject (d : DiscId) (s : State) : State :=
  match s.psc.state, s.psc.step with
  | .loaded, some .transfer | .loaded, some .artworkWait => s.stopArtwork.stationLeaves
  | .loaded, some .stalledSerial | .loaded, some .stalledArtwork => s.stationLeaves
  | .loaded, _ | .printed, _ => s.rerouteQueued d
  | .inkOut, _ => s.clearFromPrinter
  | .printing, _ | .jammed, _ | .vacant, _ | .reserved, _ => s

/-- The arm has taken the disc from the printer tray: LOADED or PRINTED becomes VACANT (R185, R157). -/
def State.stationTaken (s : State) : State :=
  match s.psc.state with
  | .loaded | .printed => (s.stationTo .vacant).dueBoth
  | _ => s

/-- The job of the disc on the printer tray (R182, R183). -/
def State.printerJob (s : State) : Option Nat := (s.recAt .printer).bind Disc.job

end Sys2Proof.Machine
end

