-- ==== Sys2Proof/Machine/Arm.lean ====
section
/-! DEFINITION. The arm (R148, R149), the reservations of a move (R151), travel to the source and to the destination (R154,
R158), the destination check (R159), giving a move up, and the ways in which an errand at a bay reaches it. -/

namespace Sys2Proof.Machine

/-! ### Motions -/

/-- The position of a source; ARM is where the arm stands. -/
def Source.position : Source → Option Position
  | .spindle .inA => some .inA
  | .spindle .inB => some .inB
  | .bay n => some (.bay n)
  | .printer => some .printer
  | .arm => none

/-- The position of a destination. -/
def Dest.position : Dest → Position
  | .bay n => .bay n | .printer => .printer | .out => .out | .rej => .rej

/-- The message that starts a motion (R149). -/
def Motion.msg : Motion → ArmMsg
  | .goto p => .goto p | .grip => .grip | .release => .release | .home => .home

/-- The command a motion is (R148). -/
def Motion.cmd : Motion → ArmCmd
  | .goto _ => .goto | .grip => .grip | .release => .release | .home => .home

/-- Send a motion: it becomes the one outstanding, and the arm motion timer starts (R149). A HOME belongs to no move. -/
def State.sendMotion (m : Motion) (s : State) : State :=
  let s := s.toArm m.msg
  let t : State := { s with
    tsq.arm.motion := some m, tsq.arm.lastCmd := some m.cmd, tsq.arm.timer := some Config.armMotionMs }
  if m = .home then t else t.modMove (fun v => { v with cmd := some m.cmd })

/-- A motion is answered: none is outstanding and the timer stops (R149). -/
def State.motionEnds (s : State) : State := { s with tsq.arm.motion := none, tsq.arm.timer := none }

/-- The arm enters FAULT: the timer stops, the detail is recorded and ARM-FAULT is delivered (R169). -/
def State.armFault (f : ArmFault) (s : State) : State :=
  let t : State := { s.motionEnds with tsq.arm.state := .fault, tsq.arm.fault := some f }
  t.deliver { kind := .armFault, subject := .none, detail := .arm f }

/-- The full notice of OUT or REJ, once until SPINDLE-EMPTIED (R165). -/
def State.reportFull (out : Bool) (s : State) : State :=
  if out then
    if s.tsq.out.full then s
    else
      let t : State := { s with tsq.out.full := true }
      t.deliver { kind := .outFull, subject := .out, detail := .none }
  else if s.tsq.rej.full then s
  else
    let t : State := { s with tsq.rej.full := true }
    t.deliver { kind := .rejFull, subject := .rej, detail := .none }

/-! ### Reservations of a move -/

/-- Places a disc takes in REJ: two for a DOUBLE-PICK pair (R156). -/
def Disc.places (r : Disc) : Nat := if r.cause = some .doublePick then 2 else 1

/-- Drop the reservation a move holds at its destination. -/
def State.dropMoveRes (m : Move) (s : State) : State :=
  let s :=
    match m.reserved with
    | .none | .tray | .printer false => s
    | .printer true =>
      match m.entry.disc with
      | some d => s.unreserveStation (.disc d)
      | none => s
    | .out => { s with tsq.out.reserved := s.tsq.out.reserved - 1 }
    | .rej k => { s with tsq.rej.reserved := s.tsq.rej.reserved - k }
  s.dueSelect

/-- Drop the reservation of the current move. -/
def State.dropReservation (s : State) : State :=
  match s.tsq.arm.move with
  | some m => (s.dropMoveRes m).modMove (fun v => { v with reserved := .none })
  | none => s

/-- The move is over: no current move, and the arm is PARKED (R154, R155, R160). -/
def State.park (s : State) : State :=
  let t : State := { s with tsq.arm.move := none, tsq.arm.trayReady := false, tsq.arm.state := .parked }
  t.dueBoth

/-- The move is given up: its destination reservation is dropped and the entry discarded. -/
def State.giveUp (s : State) : State := s.dropReservation.park

/-! ### Asking bays -/

/-- The copy or master an entry carries (R151, R158). -/
def State.entryRes (s : State) (e : Entry) : Option BayRes :=
  match e.cls with
  | .load =>
    match e.purpose, e.image, e.job, e.attempt with
    | some .master, some i, _, _ => some (.master i)
    | _, _, some j, some a => some (.copy j a)
    | _, _, _, _ => none
  | .clear =>
    match e.disc.bind s.disc with
    | some r =>
      match r.job, r.attempt with
      | some j, some a => some (.copy j a)
      | _, _ => none
    | none => none

/-- A bay takes a placement of what an entry carries: it is placeable, and the JSC's reservation of it is for that copy or
master (R151, R158). -/
def State.placeableFor (s : State) (n : BayId) (e : Entry) : Bool :=
  s.placeable n && (s.bayRes n).isSome && s.bayRes n == s.entryRes e

/-- The tray is open for the arm under an errand. -/
def Bay.standsOpen (b : Bay) : Bool := b.tray == .opened && (b.errand == .place || b.errand == .pick)

/-- An errand's tray is on its way open. -/
def Bay.opening (b : Bay) : Bool := b.tray == .moving && !b.traysIn && (b.errand == .place || b.errand == .pick)

/-- Ask a bay to open its tray for a placement; one already ready or on its way is not asked again, and a bay that cannot
take the request is asked again when it can (R158, R168, R109). -/
def State.askPlace (n : BayId) (s : State) : State :=
  let b := s.bay n
  if b.standsOpen then { s with tsq.arm.trayReady := true }
  else if b.opening then s
  else if s.placeable n then s.openToPlace n
  else s.modMove (fun v => { v with refused := true })

/-- Ask a bay to open its tray for a pick; one already ready or on its way is not asked again (R154, R168). -/
def State.askPick (n : BayId) (s : State) : State :=
  let b := s.bay n
  if b.standsOpen then { s with tsq.arm.trayReady := true }
  else if b.opening then s
  else s.openToPick n

/-! ### Travel to the destination -/

/-- The destination check turns a move to REJ when its record is REJECT, its destination is not REJ and its purpose is not
MASTER (R159). -/
def State.mustReroute (m : Move) (s : State) : Bool :=
  (m.entry.disc.bind s.disc).any (fun r => r.verdict == .reject && r.purpose != .master) && m.entry.dest != .rej

/-- Close the tray of a bay that was asked to open for a placement. -/
def State.closeDest (m : Move) (s : State) : State :=
  match m.entry.dest with
  | .bay n => if (s.bay n).errand = .place then s.closeTray n else s
  | _ => s

/-- Re-route the current move to REJ: its reservation is dropped, a tray asked to open is closed, and the record's
destination becomes REJ (R159, steps 1 and 2). -/
def State.reroute (m : Move) (s : State) : State :=
  let s := (s.dropMoveRes m).closeDest m
  let s :=
    match m.entry.disc with
    | some d => s.modDisc d (fun r => { r with dest := some .rej })
    | none => s
  s.modMove (fun v => { v with entry.dest := .rej, reserved := .none, refused := false })

/-- The arm sets out for the destination: the source tray is closed, the destination tray asked to open (R157, R158). -/
def State.setOut (m : Move) (s : State) : State :=
  let t : State := { s with tsq.arm.state := .toDest, tsq.arm.trayReady := false }
  let s := (t.modMove (fun v => { v with refused := false })).sendMotion (.goto m.entry.dest.position)
  let s :=
    match m.entry.source with
    | .bay n => s.closeTray n
    | _ => s
  match m.entry.dest with
  | .bay n => s.askPlace n
  | _ => s

/-- Places of REJ that a move's disc needs. -/
def State.movePlaces (m : Move) (s : State) : Nat := ((m.entry.disc.bind s.disc).map Disc.places).getD 1

/-- The arm waits with its disc for a place in REJ, in PICKING or in TO-DEST, with the full notice (R156, R159). -/
def State.waitForRej (s : State) : State :=
  (if s.tsq.arm.state = .picking then s else s.armTo .toDest).reportFull false

/-- Travel once the destination stands: a move to REJ that holds no reservation takes one, or waits where it is with the
full notice (R156, R159). -/
def State.goOn (m : Move) (s : State) : State :=
  match m.entry.dest, m.reserved with
  | .rej, .none =>
    if s.tsq.rej.room then
      let k := s.movePlaces m
      let t : State := { s with tsq.rej.reserved := s.tsq.rej.reserved + k }
      (t.modMove (fun v => { v with reserved := .rej k })).setOut m
    else s.waitForRej
  | _, _ => s.setOut m

/-- Travel to the destination, with the destination check first (R158, R159). -/
def State.travel (s : State) : State :=
  match s.tsq.arm.move with
  | some m =>
    let s := if s.mustReroute m then s.reroute m else s
    match s.tsq.arm.move with
    | some m => s.goOn m
    | none => s
  | none => s

/-- The arm stands at its destination with nothing outstanding: after the destination check it releases, once a bay's
tray is ready (R158, R159). -/
def State.tryRelease (s : State) : State :=
  match s.tsq.arm.move with
  | some m =>
    if s.tsq.arm.state = .toDest ∧ s.tsq.arm.motion = none ∧ s.tsq.arm.position = m.entry.dest.position
        ∧ m.reserved ≠ .none then
      if s.mustReroute m then s.travel
      else
        match m.entry.dest with
        | .bay _ => if s.tsq.arm.trayReady then (s.armTo .placing).sendMotion .release else s
        | _ => (s.armTo .placing).sendMotion .release
    else s
  | none => s

/-! ### Travel to the source -/

/-- A move starts with travel to its source, and a bay there is asked to open its tray (R154). -/
def State.toSource (m : Move) (s : State) : State :=
  match m.entry.source.position with
  | some p =>
    let t : State := { s with tsq.arm.state := .toSource, tsq.arm.trayReady := false }
    let s := t.sendMotion (.goto p)
    match m.entry.source with
    | .bay n => s.askPick n
    | _ => s
  | none => s.travel

/-- The LOAD of a master whose request has left the queue (R161). -/
def State.masterGone (e : Entry) (s : State) : Bool :=
  e.cls == .load && e.purpose == some .master && !(s.jsc.masters.any (fun q => some q.image == e.image))

/-- The LOAD of a master that is gone is given up with no GRIP sent: the arm parks, and the bay held for the master is free
(R161; notes/assumptions/42.md). -/
def State.giveUpMaster (e : Entry) (s : State) : State :=
  match e.image with
  | some i => s.giveUp.dropResOf (.master i)
  | none => s.giveUp

/-- The arm stands at its source with nothing outstanding: it grips, once a bay's tray is ready (R154); a pair brought
back is released (R168); the LOAD of a master that is gone is given up (R161). -/
def State.tryGrip (s : State) : State :=
  match s.tsq.arm.move with
  | some m =>
    if s.tsq.arm.state = .toSource ∧ s.tsq.arm.motion = none ∧ some s.tsq.arm.position = m.entry.source.position then
      if m.returning then (s.armTo .picking).sendMotion .release
      else if s.masterGone m.entry then s.giveUpMaster m.entry
      else
        match m.entry.source with
        | .bay _ => if s.tsq.arm.trayReady then (s.armTo .picking).sendMotion .grip else s
        | _ => (s.armTo .picking).sendMotion .grip
    else s
  | none => s

/-! ### What a bay tells the TSQ -/

/-- A bay reports its tray ready (R154, R158, R167). -/
def State.trayIsReady (n : BayId) (s : State) : State :=
  match s.tsq.arm.move with
  | some m =>
    let here := if m.gripped then m.entry.dest == .bay n else m.entry.source == .bay n
    if here then
      let t : State := { s with tsq.arm.trayReady := true }
      t.tryGrip.tryRelease
    else s
  | none => s

/-- A bay reports that its pick errand failed: a move that has not sent its GRIP is given up. With a GOTO outstanding the
arm parks at its ARRIVED; an arm at rest at the source parks at once (R154). That an arm that is STOPPED, HOMING or in
FAULT at that moment stays so, with the move and its reservation gone, is the model's (notes/assumptions/62.md). -/
def State.pickFailed (n : BayId) (s : State) : State :=
  match s.tsq.arm.move with
  | some m =>
    if m.gripped = false ∧ m.entry.source = .bay n ∧ m.cmd ≠ some .grip then
      let s := s.dropReservation
      if s.tsq.arm.motion = none ∧ s.tsq.arm.state = .toSource then s.park
      else
        let t : State := { s with tsq.arm.move := none, tsq.arm.trayReady := false }
        t.duePass
    else s
  | none => s

/-- A bay reports that its placement errand failed: the arm waits there with its disc (R158). -/
def State.placeFailed (n : BayId) (s : State) : State :=
  match s.tsq.arm.move with
  | some m =>
    if m.gripped = true ∧ m.entry.dest = .bay n then
      let t : State := { s with tsq.arm.trayReady := false }
      t.modMove (fun v => { v with refused := true })
    else s
  | none => s

/-! ### Waiting with a disc -/

/-- A record at ARM has become REJECT: an arm that waits at its destination checks it (R158, R159). -/
def State.armOnReject (s : State) : State :=
  match s.tsq.arm.move with
  | some m =>
    if s.tsq.arm.state = .toDest ∧ s.tsq.arm.motion = none ∧ s.mustReroute m then s.travel else s
  | none => s

/-- The arm holds its disc where it is until REJ can be reserved (R156, R159). -/
def Arm.waitsForRej (a : Arm) : Bool :=
  (a.state == .toDest || a.state == .picking) && a.motion.isNone
    && a.move.any (fun m => m.gripped && m.entry.dest == .rej && m.reserved == .none)

/-- Whatever the arm waits for with its disc, tried again: a place in REJ, or the bay that refused the placement, once it is
out of FAULT and while the JSC still holds it reserved for the copy or master on the arm (R158, R159). That the request is
repeated at once also while the GOTO to the bay is outstanding is the model's (notes/assumptions/70.md). -/
def State.nudgeArm (s : State) : State :=
  match s.tsq.arm.move with
  | some m =>
    if s.tsq.arm.waitsForRej then s.travel
    else
      match m.entry.dest with
      | .bay n =>
        if s.tsq.arm.state = .toDest ∧ m.refused = true ∧ s.placeableFor n m.entry = true then
          (s.modMove (fun v => { v with refused := false })).openToPlace n
        else s
      | _ => s
  | none => s

end Sys2Proof.Machine
end

