-- ==== Sys2Proof/Machine/Drains.lean ====
section
/-! DEFINITION. Rejects written by another block than the one that holds the disc (R119, R185, R159), spares (R8, R43, R44,
R123), the drains of R35 and R36 with the budget failure of R32, and the verdict every detecting block writes. -/

namespace Sys2Proof.Machine

/-! ### A reject reaches the block that holds the disc -/

/-- A bay ends its operation early: teardown, and HOLDING with the CLEAR (R119). -/
def State.endEarly (n : BayId) (abort : Bool) (s : State) : State := (s.teardown n abort).hold n

/-- A bay is handed a REJECT that another block wrote to its record (R119). -/
def State.bayOnReject (n : BayId) (d : DiscId) (s : State) : State :=
  match (s.bay n).state with
  | .probing | .grantWait | .prefill | .writing | .closing | .verifyWait | .verifying | .spare => s.endEarly n true
  | .holding => s.rerouteQueued d
  | .fault => s.clearFromBay n
  | _ => s

/-- The block at the disc's place takes a REJECT written by another. -/
def State.holderOnReject (d : DiscId) (s : State) : State :=
  match (s.disc d).map Disc.location with
  | some (.bay n) => s.bayOnReject n d
  | some .printer => s.stationOnReject d
  | some .arm => s.armOnReject
  | none => s

/-- The Job Scheduler writes REJECT CANCELLED, and the block that holds the disc takes it (R35, R44). A verdict already
final is left. -/
def State.cancelDisc (d : DiscId) (s : State) : State :=
  if (s.disc d).any (fun r => r.verdict == .pending) then (s.writeVerdict d (some .cancelled)).holderOnReject d else s

/-! ### Spares -/

/-- The spare hold of a bay ends: REJECT CANCELLED to the spare there (R44). -/
def State.endSpareHold (n : BayId) (s : State) : State :=
  let s := s.setSpareHold n none
  match s.discAt (.bay n) with
  | some d => if (s.disc d).any (fun r => r.purpose == .spare) then s.cancelDisc d else s
  | none => s

/-- A bay in SPARE with offline pending has the spare hold ended at once (R127). -/
def State.spareOffline (n : BayId) (s : State) : State :=
  if (s.bay n).state = .spare ∧ (s.bay n).offline.isSome then s.endSpareHold n else s

/-- A bay enters SPARE. -/
def State.bayToSpare (n : BayId) (s : State) : State := ((s.bayTo n .spare).spareOffline n).dueBoth

/-- A bay in GRANT-WAIT or PREFILL gives up its grant, its FIFO and its speed exchange for a spare (R123). -/
def State.stopForSpare (n : BayId) (s : State) : State :=
  (s.withdraw n).modBay n (fun b => { b with fifo := [], timers.speed := none, speedPending := false })

/-- The Job Scheduler turns the blank in a bay into a spare, and the bay is handed the change (R8, R44, R123); the former
job is tested (R26). -/
def State.makeSpare (d : DiscId) (n : BayId) (s : State) : State :=
  let job := (s.disc d).bind Disc.job
  let s := (s.modDisc d (fun r => { r with purpose := .spare, job := none, attempt := none })).setSpareHold n
    (some Config.spareHoldMs)
  let s :=
    match (s.bay n).state with
    | .grantWait | .prefill => (s.stopForSpare n).bayToSpare n
    | _ => s
  match job with
  | some j => (s.terminalTest j).dueBoth
  | none => s.dueBoth

/-! ### Drains -/

/-- The station is PRINTING the record in a slot. -/
def State.isPrinting (s : State) (r : Disc) : Bool := r.location == .printer && s.psc.state == .printing

/-- The station holds the record stalled (R184). -/
def State.isStalled (s : State) (r : Disc) : Bool :=
  r.location == .printer && s.psc.state == .loaded
    && (s.psc.step == some .stalledSerial || s.psc.step == some .stalledArtwork)

/-- A record is blank: no step done and no print started on it (R35). -/
def State.isBlank (s : State) (r : Disc) : Bool := r.steps.isEmpty && !s.isPrinting r

/-- A bay state before WRITING in which a blank can lie (R35); in FAULT, EMPTY and RESERVED one that has just been released
there (notes/assumptions/49.md). -/
def BayState.beforeWriting : BayState → Bool
  | .trayOut | .probing | .grantWait | .prefill | .fault | .empty | .reserved => true
  | _ => false

/-- A drain acts on one PENDING record of its job, by the record's position and progress (R35, R184). -/
def State.drainDisc (hard : Bool) (d : DiscId) (s : State) : State :=
  match s.disc d with
  | some r =>
    if r.verdict = .pending then
      match r.location with
      | .arm => if hard && !s.isBlank r then s.cancelDisc d else s
      | .printer =>
        if s.isPrinting r then s
        else if hard || s.isBlank r || s.isStalled r then s.cancelDisc d
        else s
      | .bay n =>
        if s.isBlank r && (s.bay n).state.beforeWriting then s.makeSpare d n
        else if hard then s.cancelDisc d
        else s
    else s
  | none => s

/-- A drain acts on every record of the job, in ascending disc number (R35). -/
def State.drainDiscs (j : Nat) (hard : Bool) (s : State) : State :=
  forEach allDiscs (fun d s => if (s.disc d).any (fun r => r.job == some j) then s.drainDisc hard d else s) s

/-- A queued LOAD of a copy leaves the queue: its reservations are dropped and loads pending falls (R36, R42). -/
def State.dropLoad (e : Entry) (s : State) : State :=
  let t : State := { s with tsq.queue := s.tsq.queue.filter (fun x => x != e) }
  match e.job, e.attempt with
  | some j, some a => ((t.dropCopyRes j a).loadGone j).dueBoth
  | _, _ => t.dueBoth

/-- The LOAD entries of a job that the arm has not selected (R36). -/
def State.loadsOf (s : State) (j : Nat) : List Entry := s.tsq.queue.filter (fun e => e.cls == .load && e.job == some j)

/-- A drain begins: the kind is set, the job is DRAINING, its unselected LOADs are dropped and its records treated (R34 to
R36); R26 is then tested. -/
def State.startDrain (j : Nat) (k : DrainKind) (s : State) : State :=
  let s := s.modJob j (fun x => { x with drain := some k, state := .draining })
  let s := forEach (s.loadsOf j) State.dropLoad s
  ((s.drainDiscs j (decide (k = .hard))).terminalTest j).duePass

/-- A SOFT or FAIL drain is raised to HARD (R34). -/
def State.hardenDrain (j : Nat) (s : State) : State :=
  let s := s.modJob j (fun x => { x with drain := some .hard })
  (s.drainDiscs j true).terminalTest j

/-- Budget rejects above the budget of a job that is ACTIVE, HELD or WAITING-IMAGE (R32). -/
def Job.overBudget (j : Job) : Bool :=
  j.live && j.rejectBudget != Config.unlimited && decide (j.rejectBudget < j.budgetRejects)

/-- Write a verdict with all that follows from it: the hand-offs of R14 and then, as the model orders them
(notes/assumptions/5.md), the budget test of R32. What the disc's own holder does next is the caller's. -/
def State.verdict (d : DiscId) (v : Option RejectCause) (s : State) : State :=
  match s.disc d with
  | some r =>
    if r.verdict = .pending then
      let s := s.writeVerdict d v
      match v, r.job with
      | some c, some n =>
        if c.counts && (s.job? n).any Job.overBudget then s.startDrain n .fail else s
      | _, _ => s
    else s
  | none => s

/-- A disc in a new position is treated by its drain, if its job is draining (R35, last paragraph). -/
def State.drainArrival (d : DiscId) (s : State) : State :=
  match s.disc d with
  | some r =>
    match s.jobOf r with
    | some j => if j.state = .draining then s.drainDisc (decide (j.drain = some .hard)) d else s
    | none => s
  | none => s

/-- A bay rejects its own record while it is working and ends the operation; `abort` is false when the drive has already
stopped (R119). -/
def State.bayReject (n : BayId) (c : RejectCause) (abort : Bool) (s : State) : State :=
  match s.discAt (.bay n) with
  | some d => (s.verdict d (some c)).endEarly n abort
  | none => s.endEarly n abort

end Sys2Proof.Machine
end

