-- ==== Sys2Proof/Machine/Images.lean ====
section
/-! DEFINITION. The loss of an image and its hand-offs (R54), the catalogue's side of a master read (R66 to R68), the
outcome a master's bay takes (R126), the stall of a disc at the station (R184) and the completion of memory accesses
(R69). -/

namespace Sys2Proof.Machine

/-! ### The stalled disc -/

/-- The disc on the printer tray is stalled (R184). At STALLED-SERIAL the job gains SERIAL-END and the event is delivered.
A disc whose job is already draining is rejected at once (notes/assumptions/26.md). -/
def State.stall (d : DiscId) (serial : Bool) (s : State) : State :=
  let x : PrintStep := if serial then .stalledSerial else .stalledArtwork
  let t : State := { s with psc.state := .loaded, psc.step := some x, psc.timer := none }
  let s :=
    match serial, (s.disc d).bind Disc.job with
    | true, some j =>
      (t.addHold .serialEnd j).deliver { kind := .serialEnd, subject := .job j, detail := .none }
    | _, _ => t
  s.drainArrival d

/-! ### The outcome of a master read -/

/-- The image of the master at a bay. -/
def State.masterImageAt (s : State) (n : BayId) : Option Nat :=
  (s.recAt (.bay n)).bind (fun r => if r.purpose = .master then r.image else none)

/-- The bay has reported the read neither complete nor failed. -/
def State.stillReading (s : State) (n : BayId) : Bool := (s.bay n).state == .masterRead && !(s.bay n).masterReported

/-- What the bay does at the outcome of its master read (R126). A probe still in hand is stopped (R119; notes/assumptions/
31.md). -/
def State.masterSettles (n : BayId) (s : State) : State :=
  let s := if s.stillReading n then s.toBay n .readHalt else s
  let s := if (s.bay n).state = .probing ∧ (s.bay n).timers.probe.isSome then s.toBay n .abort else s
  let s := s.modBay n (fun b =>
    { b with holding := [], masterHeld := false, masterReported := true
             timers.read := none, timers.probe := none })
  match (s.bay n).state with
  | .masterRead | .probing => s.hold n
  | .fault => s.clearFromBay n
  | .holding => if s.sweeping then s else s.clearFromBay n
  | _ => s

/-- A master that has not been read yet: on its way to its bay, or set on a tray that has not closed over it. Its bay
finds the loss when it closes (R124). -/
def State.masterNotBegun (s : State) (r : Disc) : Bool :=
  match r.location with
  | .arm => r.dest != some .out
  | .bay n => (s.bay n).state == .trayOut && (s.bay n).errand == .place
  | .printer => false

/-- The catalogue tells the bay the outcome of a master read: the verdict is written, and the bay settles (R68, R126,
R13). -/
def State.masterOutcome (i : Nat) (ready : Bool) (s : State) : State :=
  match s.masterOf i with
  | some d =>
    match s.disc d with
    | some r =>
      if s.masterNotBegun r then s
      else
        let s := s.writeVerdict d (if ready then none else some .imageLost)
        match r.location with
        | .bay n => s.masterSettles n
        | _ => s
    | none => s
  | none => s

/-! ### Master-read requests -/

/-- The assigned flag of a master-read request clears, and with it the image's source bay (R45). -/
def State.unassignMaster (i : Nat) (s : State) : State :=
  let t : State := { s with jsc.masters := s.jsc.masters.map (fun q =>
    if q.image = i then { q with assigned := false } else q) }
  (t.modImage i (fun x => { x with source := .master none })).duePass

/-- A master's LOAD entry is dropped: the bay reservation goes with it and the assigned flag clears (R45, R155, R163); for a
request that leaves the queue so, that the source bay is cleared is the model's (notes/assumptions/59.md). -/
def State.dropMasterLoad (e : Entry) (s : State) : State :=
  let t : State := { s with tsq.queue := s.tsq.queue.filter (fun x => x != e) }
  match e.image with
  | some i => ((t.dropResOf (.master i)).unassignMaster i).dueBoth
  | none => t.dueBoth

/-- A master-read request whose image is lost before its grip leaves the queue; its entry, if queued, is dropped (R45,
R54), and the image's source bay becomes absent with it (notes/assumptions/59.md). -/
def State.loseMasterRequest (i : Nat) (s : State) : State :=
  if s.jsc.masters.any (fun q => q.image == i) then
    let s := forEach (s.tsq.queue.filter (fun e => e.cls == .load && e.image == some i)) State.dropMasterLoad s
    let t : State := { s with jsc.masters := s.jsc.masters.filter (fun q => q.image != i) }
    t.duePass
  else s

/-! ### The loss of an image -/

/-- The IPT removes the image's blocks from the intake FIFO, but for a head block whose write is outstanding (R54, R63). -/
def Ipt.removeImage (i : Nat) (x : Ipt) : Ipt :=
  match x.fifo, x.writing with
  | [], _ => x
  | b :: rest, true => { x with fifo := b :: rest.filter (fun y => y.image != i) }
  | fifo, false => { x with fifo := fifo.filter (fun y => y.image != i) }

/-- The accepted count of an intake image that is LOST: its ingested count and the blocks of it that the FIFO still holds
(R62). -/
def State.recountAccepted (i : Nat) (s : State) : State :=
  s.modImage i (fun x =>
    if x.state = .lost ∧ x.source = .intake then
      { x with accepted := x.ingested + s.ipt.fifo.countP (fun y => y.image == i) }
    else x)

/-- The Feeder aborts a stream on a lost image and hands the RGU its release (R101). -/
def State.abortStream (i : Nat) (n : BayId) (s : State) : State :=
  match s.stream n with
  | some x => if x.image = i then (s.closeStream n).release n else s
  | none => s

/-- The PENDING copy at a bay whose job names the image as its disc image. -/
def State.copyNaming (s : State) (n : BayId) (i : Nat) : Option DiscId :=
  match s.discAt (.bay n) with
  | some d =>
    if (s.disc d).any (fun r => r.purpose == .copy && r.verdict == .pending
        && (s.jobOf r).any (fun j => j.discImage == some i)) then some d
    else none
  | none => none

/-- A bay is told of the loss of a disc image (R122). -/
def State.bayImageLost (i : Nat) (n : BayId) (s : State) : State :=
  match s.copyNaming n i with
  | some d =>
    match (s.bay n).state with
    | .probing | .grantWait | .prefill | .writing | .verifyWait | .verifying =>
      (s.writeVerdict d (some .imageLost)).endEarly n true
    | .closing => s.modBay n (fun b => { b with imageLostMark := true })
    | _ => s
  | none => s

/-- The station is told of the loss of a label image while it forwards it (R178). -/
def State.stationImageLost (i : Nat) (s : State) : State :=
  match s.discAt .printer with
  | some d =>
    if s.psc.state = .loaded ∧ s.psc.step = some .transfer
        ∧ ((s.disc d).bind s.jobOf).bind Job.labelImage = some i then
      s.withdrawArtwork.stall d false
    else s
  | none => s

/-- The jobs that name an image, by number (R54). -/
def State.naming (s : State) (i : Nat) : List Nat :=
  (s.jsc.jobs.filter (fun j => j.discImage == some i || j.labelImage == some i)).map Job.number

/-- The bay that holds a disc is told of the loss of its job's disc image. -/
def State.discTold (i : Nat) (d : DiscId) (s : State) : State :=
  match (s.disc d).map Disc.location with
  | some (.bay n) => s.bayImageLost i n
  | _ => s

/-- The Feeder and the bays take the loss of a DISC image (R54, R101, R122), the bays in ascending number of the discs they
hold, so that a job's rejects are logged in that order (R33). -/
def State.discImageLost (i : Nat) (s : State) : State :=
  (forEach allDiscs (State.discTold i) (forEach allBays (State.abortStream i) s)).masterOutcome i false

/-- The Feeder and the station take the loss of a LABEL image (R102, R178). -/
def State.labelImageLost (i : Nat) (s : State) : State :=
  let s := s.stationImageLost i
  if s.fdr.artwork.any (fun x => x.image == i) then s.withdrawArtwork else s

/-- An image turns LOST, with all its hand-offs and the freeing test; one already LOST does not change (R54). -/
def State.imageLost (i : Nat) (why : LossReason) (s : State) : State :=
  match s.image? i with
  | some x =>
    if x.state = .lost then s
    else
      let s := s.modImage i (fun y => { y with state := .lost, loss := some why })
      let t : State := { s with ipt := s.ipt.removeImage i }
      let t := t.recountAccepted i
      let s := (forEach (t.naming i) (State.addHold .imageLost) t).loseMasterRequest i
      let s :=
        match x.kind with
        | .disc => s.discImageLost i
        | .label => s.labelImageLost i
      (s.deliver { kind := .imageLost, subject := .image i, detail := .loss why }).freeTest i
  | none => s

/-! ### READY, and the end of a master read -/

/-- An image becomes READY (R53). -/
def State.imageReady (i : Nat) (s : State) : State :=
  ((s.modImage i (fun x => { x with state := .ready })).deliver
    { kind := .imageReady, subject := .image i, detail := .none }).refreshNaming i

/-- A read reported complete is judged once the image has no access outstanding (R68). -/
def State.masterTest (i : Nat) (s : State) : State :=
  match s.image? i with
  | some x =>
    if x.state = .filling ∧ x.readDone = true ∧ x.accesses = 0 then
      if x.ingested = x.length then (s.imageReady i).masterOutcome i true else s.imageLost i .unreadable
    else s
  | none => s

/-- The bay reports the read of a master complete (R68). -/
def State.readComplete (i : Nat) (s : State) : State :=
  (s.modImage i (fun x => { x with readDone := true })).masterTest i

/-- The bay reports the read of a master failed; discarded while a complete read waits for its writes (R68). -/
def State.readFailed (i : Nat) (why : LossReason) (s : State) : State :=
  if (s.image? i).any (fun x => !x.readDone) then s.imageLost i why else s

/-- A memory request of the image completes (R69): the count of accesses falls, the freeing test is applied, and a master
read that waited for it is judged. -/
def State.accessDone (i : Nat) (s : State) : State := (s.accessDown i).masterTest i

/-- A completed write of a FILLING image raises its ingested count, and the Job Scheduler is told (R63, R68, R53). -/
def State.ingest (i : Nat) (s : State) : State :=
  if (s.image? i).any (fun x => x.state == .filling) then
    (s.modImage i (fun x => { x with ingested := x.ingested + 1 })).refreshNaming i
  else s

/-! ### Opening an image -/

/-- Every extent, in ascending number (R50). -/
def Cat.extents (c : Cat) : List Nat := List.range c.totalExtents

/-- An extent is held by an entry (R50). -/
def Cat.held (c : Cat) (e : Nat) : Bool := c.images.any (fun x => x.extents.contains e)

/-- The free extents, lowest first (R50, R51). -/
def Cat.freeExtents (c : Cat) : List Nat := c.extents.filter (fun e => !c.held e)

/-- Extents that a declared length needs (R47). -/
def extentsFor (length : Nat) : Nat := (length + (Config.extentBlocks - 1)) / Config.extentBlocks

/-- The number the next image takes (R48). -/
def Cat.nextNumber (c : Cat) : Nat := freeNumber (c.images.map Image.number) c.images.length c.counter

/-- Fill a free entry (R47, R48, R51). -/
def State.openEntry (p : PortId) (kind : ImageKind) (length flags : Nat) (src : ImageSource) (s : State) :
    Nat × State :=
  let i := s.cat.nextNumber
  let x : Image :=
    { number := i, kind := kind, owner := p, isProtected := flags.testBit 0, shared := flags.testBit 1
      length := length, source := src, extents := s.cat.freeExtents.take (extentsFor length) }
  (i, { s with cat.images := s.cat.images ++ [x], cat.counter := nextNumber i })

/-- The probe of a master found a written length within the declared one: the image shrinks to it (R67, R52). -/
def Image.shrink (length : Nat) (x : Image) : Image :=
  { x with length := length, extents := x.extents.take (extentsFor length) }

end Sys2Proof.Machine
end

