-- ==== Sys2Proof/Machine/Engine.lean ====
section
/-! DEFINITION. A bay entering FAULT (R121), the way into a grant (R112, R117), the burn (R113 to R115) and the compare engine
(R133 to R147), up to the delivery of a block to a feed FIFO (R98). -/

namespace Sys2Proof.Machine

/-! ### FAULT -/

/-- What the TSQ is told when an errand fails (R121, step 2). The tray motion timer of a motion in hand runs on (R119,
step 4). -/
def State.errandFails (n : BayId) (s : State) : State :=
  let e := (s.bay n).errand
  let s := s.modBay n (fun b =>
    { b with tray := if b.errand = .none then b.tray else .unknown, errand := .none })
  match e with
  | .pick => s.pickFailed n
  | .place => s.placeFailed n
  | _ => s

/-- The bay reports its master's read failed (R68). An image already lost or freed has no outcome left to give, so the
loss is the outcome (notes/assumptions/31.md). -/
def State.reportFailed (i : Nat) (why : LossReason) (s : State) : State :=
  if (s.image? i).all (fun x => x.state == .lost) then s.masterOutcome i false else s.readFailed i why

/-- The record at a bay that enters FAULT (R121, step 4). -/
def State.faultDisc (d : DiscId) (noMedia : Bool) (s : State) : State :=
  if noMedia then s.loseDisc d
  else
    match s.disc d with
    | some r =>
      match r.purpose, r.image with
      | .copy, _ | .spare, _ => s.verdict d (some .bayFault)
      | .master, some i => if r.verdict = .pending then s.reportFailed i .aborted else s
      | _, _ => s
    | none => s

/-- The CLEAR of a record at a faulted bay whose verdict is final (R121, step 5); a bay whose pick errand failed queues it
when it leaves FAULT (R154, notes/assumptions/18.md). That a CLEAR already queued keeps its destination, also PRINTER for a
record that has become REJECT BAY-FAULT here, is the model's (notes/assumptions/65.md). -/
def State.faultClear (n : BayId) (s : State) : State :=
  if (s.recAt (.bay n)).any (fun r => r.verdict != .pending) then s.clearFromBay n else s

/-- A bay enters FAULT (R121). `abort`: ABORT is sent whatever the state (R110, R112, R116). -/
def State.bayFault (n : BayId) (code : FaultCode) (abort : Bool) (s : State) : State :=
  let picking := (s.bay n).errand = .pick
  let sends := abort || (s.bay n).state.working
  let s := s.modBay n (fun b => { b with lastFault := some code })
  let s := s.errandFails n
  let s := if sends then s.toBay n .abort else s
  let s := (s.teardown n false).bayTo n .fault
  let s :=
    match s.discAt (.bay n) with
    | some d => s.faultDisc d (decide (code = FaultCode.noMedia))
    | none => s
  let s := if picking then s else s.faultClear n
  (s.offlineCheck n).dueSweep.dueBoth

/-- A bay already in FAULT takes a new code and fails the errand in progress (R121, R109). -/
def State.bayFaultAgain (n : BayId) (code : FaultCode) (s : State) : State :=
  let s := s.modBay n (fun b => { b with lastFault := some code })
  (((s.errandFails n).offlineCheck n).dueSweep).dueBoth

/-! ### Toward a grant -/

/-- The job's disc image is LOST, or has no entry any more (R112). -/
def State.jobImageLost (s : State) (j : Job) : Bool := (s.discImageOf j).all (fun x => x.state == .lost)

/-- The copy at a bay: its record, its job and its media report. -/
def State.copyAt (s : State) (n : BayId) : Option (DiscId × Disc × Job × MediaReport) :=
  match s.discAt (.bay n) with
  | some d =>
    match s.disc d with
    | some r =>
      match s.jobOf r, r.media with
      | some j, some m => some (d, r, j, m)
      | _, _ => none
    | none => none
  | none => none

/-- A bay about to wait for a grant tests its image, and then hands the RGU its request (R112, R74, R75). -/
def State.towardGrant (n : BayId) (k : GrantKind) (s : State) : State :=
  match s.copyAt n with
  | some (d, _, j, m) =>
    if s.jobImageLost j then (s.writeVerdict d (some .imageLost)).hold n
    else
      match k with
      | .write => (s.bayTo n .grantWait).requestGrant (writeRequest n j m)
      | .verify => (s.bayTo n .verifyWait).requestGrant (verifyRequest n j m)
  | none => s

/-! ### Burning -/

/-- The declared length that the disc at a bay is written and verified to. -/
def State.lengthAt (s : State) (n : BayId) : Nat := ((s.recAt (.bay n)).map s.copyLength).getD 0

/-- BURN-FINISH once blocks sent reaches the declared length (R114). -/
def State.finishBurn (n : BayId) (s : State) : State :=
  if (s.bay n).state = .writing ∧ s.lengthAt n ≤ (s.bay n).sentBlocks then
    (s.toBay n .burnFinish).modBay n (fun b =>
      { b with state := .closing, refillHold := false, timers.starve := none
               timers.close := some Config.burnCloseMs })
  else s

/-- Send blocks from the head of the feed FIFO while the want credit lasts (R114). -/
def State.sendBlocks (n : BayId) (s : State) : State :=
  let b := s.bay n
  if b.state = .writing ∧ b.refillHold = false then
    let k := min b.wantCredit b.fifo.length
    let s := forEach (b.fifo.take k) (fun x => State.toBay n (.block x.data)) s
    (s.modBay n (fun b =>
      { b with fifo := b.fifo.drop k, wantCredit := b.wantCredit - k, sentBlocks := b.sentBlocks + k })).finishBurn n
  else s

/-- The resume threshold (R115). -/
def State.resumeAt (s : State) (n : BayId) : Nat := min Config.resumeBlocks (s.lengthAt n - (s.bay n).sentBlocks)

/-- A PREFILL bay whose occupancy has come to the threshold begins the write (R113). -/
def State.prefillTest (n : BayId) (s : State) : State :=
  let length := s.lengthAt n
  if min Config.prefillBlocks length ≤ (s.bay n).fifo.length then
    ((s.toBay n (.burnStart length)).bayTo n .writing).sendBlocks n
  else s

/-- A delivery to a WRITING bay clears refill hold at the resume threshold, and sending goes on (R115, R114). -/
def State.refillTest (n : BayId) (s : State) : State :=
  let s :=
    if s.resumeAt n ≤ (s.bay n).fifo.length then s.modBay n (fun b => { b with refillHold := false }) else s
  s.sendBlocks n

/-! ### The compare engine -/

/-- Change a bay's compare engine. -/
def State.modEngine (n : BayId) (f : Engine → Engine) (s : State) : State :=
  s.modBay n (fun b => { b with engine := f b.engine })

/-- Start or stop a bay's read inactivity timer (R140). -/
def State.readTimer (n : BayId) (on : Bool) (s : State) : State :=
  s.modBay n (fun b => { b with timers.read := if on then some Config.readInactivityMs else none })

/-- What a verify needs of its job: the record, the mode and the marginal limit. -/
structure VerifyCtx where
  disc : DiscId
  mode : VerifyMode
  limit : Nat
  sampleK : Option Nat
  stop : Nat

/-- The verify in hand at a bay. -/
def State.verifyCtx (s : State) (n : BayId) : Option VerifyCtx :=
  match s.copyAt n with
  | some (d, r, j, _) =>
    some { disc := d, mode := j.verify, limit := j.marginalLimit, sampleK := j.sampleK, stop := s.copyLength r }
  | none => none

/-- The steps a passed verify or a finished burn leads to: HOLDING, with GOOD when no step is left (R116, R117). -/
def State.stepDone (n : BayId) (d : DiscId) (s : State) : State :=
  match s.disc d with
  | some r =>
    match (s.jobOf r).bind (fun j => nextStep j r) with
    | some .verify => s.towardGrant n .verify
    | some _ => s.hold n
    | none => (s.verdict d none).hold n
  | none => s

/-- The verify ends with a reject (R146, R117). -/
def State.verifyReject (n : BayId) (d : DiscId) (c : RejectCause) (s : State) : State :=
  ((s.verdict d (some c)).leaveVerify n).hold n

/-- The verify ends with a pass (R146, R117). -/
def State.verifyPass (n : BayId) (d : DiscId) (s : State) : State :=
  ((s.enterStep d .verify).leaveVerify n).stepDone n d

/-- The result of a verify that has judged every block (R146). -/
def verifyResult (v : VerifyCtx) (r : Disc) : Option RejectCause :=
  if r.mismatches ≠ 0 then some .verifyFailed
  else if v.mode = .retry ∧ v.limit ≠ Config.unlimited ∧ v.limit < r.marginals then some .marginal
  else none

/-- With every block of the verify set judged and the buffer empty, the verify ends, in READING as in TAIL (R146, R138;
notes/assumptions/14.md). -/
def State.endTest (n : BayId) (v : VerifyCtx) (s : State) : State :=
  let b := s.bay n
  if v.stop ≤ b.engine.comparePos ∧ b.holding = [] then
    match (s.disc v.disc).bind (verifyResult v) with
    | some c => s.verifyReject n v.disc c
    | none => s.verifyPass n v.disc
  else s

/-- Count mismatches from a block on (R141 to R145); the first mismatch block is written once. -/
def Disc.mismatch (at' k : Nat) (r : Disc) : Disc :=
  { r with mismatches := r.mismatches + k
           firstMismatch := if r.firstMismatch.isNone ∧ at' < Config.maxDiscLength then some at' else r.firstMismatch }

/-- Start a read range (R135). -/
def State.startRange (n : BayId) (first count : Nat) (p : EnginePhase) (s : State) : State :=
  ((s.toBay n (.readStart first count)).modEngine n (fun e => { e with phase := p, attemptRead := false })).readTimer n true

/-- The verify starts: the range of group 0, or the one range of the whole image (R135, R134). -/
def State.startVerify (n : BayId) (s : State) : State :=
  match s.verifyCtx n with
  | some v =>
    let stop := match v.sampleK with | none => v.stop | some _ => groupEnd v.stop 0
    let left := match v.sampleK with | none => 0 | some k => furtherGroups k v.stop
    let s := s.modBay n (fun b =>
      { b with state := .verifying, fifo := [], holding := []
               engine := { rangeEnd := some stop, rangesLeft := left } })
    s.startRange n 0 stop .reading
  | none => s

/-- The image block at the FIFO head is taken, and the compare position moves to the next block of the verify set (R138). -/
def State.advance (n : BayId) (v : VerifyCtx) (s : State) : State :=
  s.modBay n (fun b =>
    { b with fifo := b.fifo.drop 1
             engine := { b.engine with comparePos := nextInVerifySet v.sampleK v.stop b.engine.comparePos } })

/-- A judgement is a match by the rows of R138. -/
def judgesEqual (pos : Nat) (e : HeldBlock) (x : FeedBlock) : Bool :=
  e.index == pos && e.status == .ok && e.data == x.data

/-- A STOP verify ends at its first mismatch (R142). -/
def State.stopMismatch (n : BayId) (v : VerifyCtx) (s : State) : State :=
  let e := (s.bay n).engine
  let s := s.modDisc v.disc (Disc.mismatch e.comparePos 1)
  let s := if e.phase = .reading then s.toBay n .readHalt else s
  s.verifyReject n v.disc .verifyFailed

/-- A RETRY verify starts the retry of its block (R144). The read inactivity timer starts at READ-HALT, as it runs in
HALTING (R140; notes/assumptions/51.md). -/
def State.startRetry (n : BayId) (s : State) : State :=
  let e := (s.bay n).engine
  let s := s.modBay n (fun b =>
    { b with holding := []
             engine := { b.engine with readPos := e.comparePos, retryAttempt := 1, retryMatched := false, held := false } })
  if e.phase = .reading then
    ((s.toBay n .readHalt).modEngine n (fun e => { e with phase := .halting })).readTimer n true
  else s.startRange n e.comparePos 1 .reread

/-- A judgement that frees a slot of the holding buffer while held is set in READING sends READ-GO (R138). -/
def State.readGo (n : BayId) (s : State) : State :=
  let b := s.bay n
  if b.engine.held = true ∧ b.engine.phase = .reading ∧ b.holding.length < Config.holdingBlocks then
    ((s.toBay n .readGo).modEngine n (fun e => { e with held := false })).readTimer n true
  else s

/-- Judge an entry that has left the buffer against the block at the FIFO head (R138, R142 to R144). -/
def State.judge (n : BayId) (v : VerifyCtx) (e : HeldBlock) (x : FeedBlock) (s : State) : State :=
  let pos := (s.bay n).engine.comparePos
  if judgesEqual pos e x then ((s.advance n v).readGo n).endTest n v
  else
    match v.mode with
    | .stop => s.stopMismatch n v
    | .retry => s.startRetry n
    | _ => (((s.modDisc v.disc (Disc.mismatch pos 1)).advance n v).readGo n).endTest n v

/-- Judge waiting entries while their image blocks are at the FIFO head; `k` bounds them by the buffer's two places
(R138). -/
def judgeWaiting (n : BayId) : (k : Nat) → State → State
  | 0, s => s
  | k + 1, s =>
    let b := s.bay n
    match s.verifyCtx n, b.holding, b.fifo with
    | some v, e :: rest, x :: _ =>
      if b.state = .verifying ∧ (b.engine.phase = .reading ∨ b.engine.phase = .tail) ∧ x.index = b.engine.comparePos then
        judgeWaiting n k ((s.modBay n (fun b => { b with holding := rest })).judge n v e x)
      else s
    | _, _, _ => s

/-- Blocks of the verify set that giving up counts (R141, step 2). -/
def giveUpCount (v : VerifyCtx) (pos : Nat) : Nat :=
  let rest := verifySetFrom v.sampleK v.stop pos
  if v.mode = .stop then min 1 rest else rest

/-- The engine gives up the read (R141). -/
def State.giveUpRead (n : BayId) (s : State) : State :=
  match s.verifyCtx n with
  | some v =>
    let e := (s.bay n).engine
    let s := if e.phase = .reading then s.toBay n .readHalt else s
    (s.modDisc v.disc (Disc.mismatch e.comparePos (giveUpCount v e.comparePos))).verifyReject n v.disc .verifyFailed
  | none => s

/-! ### Delivery to a feed FIFO -/

/-- A GOOD block is placed at the tail of a bay's feed FIFO, and the bay acts on it by its state (R98, R113, R115, R138). -/
def State.deliverBlock (n : BayId) (i : Nat) (data : BlockData) (s : State) : State :=
  let s := s.modBay n (fun b => { b with fifo := b.fifo ++ [{ index := i, data := data }] })
  match (s.bay n).state with
  | .prefill => s.prefillTest n
  | .writing => s.refillTest n
  | .verifying => judgeWaiting n Config.holdingBlocks s
  | _ => s

end Sys2Proof.Machine
end

