-- ==== Sys2Proof/Machine/Feeds.lean ====
section
/-! DEFINITION. The Staging Memory Controller's service (R69), the Feeder's streams and their bursts (R91 to R97), the
completion of its reads (R98 to R100) and the artwork transfer (R102, R103). -/

namespace Sys2Proof.Machine

/-! ### The Staging Memory Controller -/

/-- The source after one, in the order of R69. -/
def SmcSource.after : SmcSource → SmcSource
  | .feed => .intake | .intake => .master | .master => .feed

/-- Take the oldest waiting request of a source (R69). -/
def Smc.take (m : Smc) : SmcSource → Option Smc
  | .feed =>
    match m.feedQueue with
    | r :: rest => some { m with feedQueue := rest, serving := some (.feed r), turn := .feed }
    | [] => none
  | .intake =>
    match m.intakeQueue with
    | w :: rest => some { m with intakeQueue := rest, serving := some (.intake w), turn := .intake }
    | [] => none
  | .master =>
    match m.masterQueue with
    | w :: rest => some { m with masterQueue := rest, serving := some (.master w), turn := .master }
    | [] => none

/-- A free SMC takes the first source after its pointer that has a request waiting (R69). -/
def Smc.serve (m : Smc) : Smc :=
  if m.serving.isSome then m
  else
    let a := m.turn.after
    ((m.take a).orElse (fun _ => (m.take a.after).orElse (fun _ => m.take m.turn))).getD m

/-- The SMC serves. -/
def State.smcServe (s : State) : State := { s with smc := s.smc.serve }

/-- Issue a feed read: it joins the queue, and the image has one access more (R69). -/
def State.issueFeed (r : FeedRead) (s : State) : State :=
  let t : State := { s with smc.feedQueue := s.smc.feedQueue ++ [r] }
  t.accessUp r.image

/-- Issue an intake write (R63, R69). -/
def State.issueIntake (w : BlockWrite) (s : State) : State :=
  let t : State := { s with smc.intakeQueue := s.smc.intakeQueue ++ [w], ipt.writing := true }
  t.accessUp w.image

/-- Issue a master write (R125, R69). -/
def State.issueMaster (w : BlockWrite) (s : State) : State :=
  let t : State := { s with smc.masterQueue := s.smc.masterQueue ++ [w] }
  t.accessUp w.image

/-- With no write outstanding and a block in the FIFO, the IPT issues the head block (R63). -/
def State.intakeIssue (s : State) : State :=
  if s.ipt.writing then s
  else
    match s.ipt.fifo with
    | b :: _ => s.issueIntake { image := b.image, index := b.index, data := b.data }
    | [] => s

/-- The address of a block in staging memory (R50). -/
def State.addressOf (s : State) (i k : Nat) : Option Nat := (s.image? i).bind (fun x => x.address k)

/-- A write completes in staging memory (R70); none when the block has no place. -/
def State.storeBlock (w : BlockWrite) (s : State) : Option State :=
  (s.addressOf w.image w.index).map (fun a => { s with mem := s.mem.writeBlock a w.data })

/-- The block as staging memory holds it. -/
def State.loadBlock (s : State) (i k : Nat) : BlockData := ((s.addressOf i k).map s.mem.readBlock).getD 0

/-- Every block of a read has a place. -/
def State.readInside (s : State) (r : FeedRead) : Bool :=
  (List.range r.count).all (fun k => (s.addressOf r.image (r.first + k)).isSome)

/-! ### Opening a stream -/

/-- The stream of a settled grant (R91). -/
def State.newStream (s : State) (n : BayId) (g : Grant) : Option Stream :=
  match s.copyAt n with
  | some (_, _, j, _) =>
    match s.discImageOf j with
    | some x =>
      some { image := x.number, kind := g.kind, stop := x.length, rate := g.rate
             sampleK := match g.kind with | .verify => j.sampleK | .write => none }
    | none => none
  | none => none

/-- The Feeder takes the settling of a grant: it opens the stream, or hands a release at once when the image is LOST
(R91). -/
def State.openStream (n : BayId) (s : State) : State :=
  match (s.grant n).bind (s.newStream n) with
  | some x => if s.imageIsLost x.image then s.release n else s.setStream n (some x)
  | none => s.release n

/-! ### The feed period -/

/-- Credit after a rise, capped (R92, R99). -/
def creditUp (credit rise : Nat) : Nat := min (credit + rise) Config.creditCap

/-- Every open stream's credit rises by its rate (R92). -/
def State.raiseCredits (s : State) : State :=
  forEach allBays (fun n => State.modStream n (fun x => { x with credit := creditUp x.credit x.rate })) s

/-- The period's block limit (R93). -/
def State.periodLimit (s : State) : Nat := s.sst.working.budget / 1000

/-- Issue the pending re-read of a bay's stream; the count is of blocks issued in the period (R93). -/
def rereadStream (n : BayId) (p : Nat × State) : Nat × State :=
  match p.2.stream n with
  | some x =>
    match x.reread with
    | some i =>
      if (p.2.smc.feedQueue ++ (match p.2.smc.serving with | some (.feed r) => [r] | _ => [])).any
          (fun r => r.user == .reread n && r.fate == .deliver) then p
      else
        let s := p.2.modStream n (fun x =>
          { x with inFlight := x.inFlight + 1, next := nextInVerifySet x.sampleK x.stop i })
        (p.1 + 1, s.issueFeed { user := .reread n, image := x.image, first := i, count := 1 })
    | none => p
  | none => p

/-- Issue the pending re-read of the artwork transfer (R93, R103). -/
def rereadArtwork (p : Nat × State) : Nat × State :=
  match p.2.fdr.artwork with
  | some x =>
    match x.reread with
    | some i =>
      if x.inFlight = 0 then
        let s := p.2
        let t : State := { s with fdr.artwork := some { x with inFlight := 1, next := i + 1 } }
        (p.1 + 1, t.issueFeed { user := .artworkReread, image := x.image, first := i, count := 1 })
      else p
    | none => p
  | none => p

/-- Every pending re-read, streams in ascending bay number and then the artwork transfer (R93). -/
def issueRereads (s : State) : Nat × State := rereadArtwork (allBays.foldl (fun p n => rereadStream n p) (0, s))

/-- The full burst of a stream (R94). -/
def State.fullBurst (s : State) (x : Stream) : Nat :=
  let run := min Config.burstBlocks (runEnd x.sampleK x.stop x.next - x.next)
  match s.image? x.image with
  | some y => if y.state = .filling then min run (y.ingested - x.next) else run
  | none => run

/-- A stream is eligible for its full burst (R96). -/
def State.eligible (s : State) (n : BayId) (x : Stream) : Bool :=
  let f := s.fullBurst x
  x.reread.isNone && decide (1 ≤ f) && decide (f ≤ s.fifoFree n) && decide (1000 * f ≤ x.credit)

/-- The eligible stream with the greatest credit, the lower bay among equals (R96). -/
def State.chosen (s : State) : Option (BayId × Stream) :=
  allBays.foldl (fun best n =>
    match s.stream n with
    | some x =>
      if s.eligible n x then
        match best with
        | some (_, y) => if y.credit < x.credit then some (n, x) else best
        | none => some (n, x)
      else best
    | none => best) none

/-- Serve a stream a burst (R97). -/
def State.serveBurst (n : BayId) (x : Stream) (s : State) : State :=
  let f := s.fullBurst x
  let s := s.setStream n (some { x with
    credit := x.credit - 1000 * f, inFlight := x.inFlight + f, next := skipUnsampled x.sampleK x.stop (x.next + f) })
  s.issueFeed { user := .stream n, image := x.image, first := x.next, count := f }

/-- Serve bursts until no stream is eligible or the chosen burst does not fit; each raises the count by 1 or more, so
`k` = P bursts are enough (R96). -/
def serveBursts (limit : Nat) : (k : Nat) → Nat × State → Nat × State
  | 0, p => p
  | k + 1, p =>
    match p.2.chosen with
    | some (n, x) =>
      let f := p.2.fullBurst x
      if limit < p.1 + f then p else serveBursts limit k (p.1 + f, p.2.serveBurst n x)
    | none => p

/-- One burst of the artwork transfer from what is left of P (R103). -/
def State.serveArtwork (left : Nat) (s : State) : State :=
  match s.fdr.artwork with
  | some x =>
    if x.inFlight = 0 ∧ x.reread = none ∧ x.next < x.length ∧ 1 ≤ left then
      let f := min Config.burstBlocks (min (x.length - x.next) left)
      let t : State := { s with fdr.artwork := some { x with next := x.next + f, inFlight := x.inFlight + f } }
      t.issueFeed { user := .artwork, image := x.image, first := x.next, count := f }
    else s
  | none => s

/-! ### Completion of reads -/

/-- What becomes of the next block of the read being served; closings and bad blocks change it while the read completes
(R98, R99, R101). -/
def State.servedFate (s : State) : FeedFate :=
  match s.smc.serving with
  | some (.feed r) => r.fate
  | _ => .drain

/-- The first UNCORRECTABLE block of a stream: it becomes the pending re-read, the next block is set back, and what was
issued after it is to be discarded with a refund (R99). -/
def State.badBlock (n : BayId) (i : Nat) (s : State) : State :=
  let s := s.modStream n (fun x => { x with inFlight := x.inFlight - 1, reread := some i, next := i })
  { s with smc := s.smc.setFate (fun r => r.user == .stream n && r.fate == .deliver) .refund }

/-- Take one block of a stream's read (R98, R99, R101). -/
def State.takeBlock (n : BayId) (image i : Nat) (w : WordDamage) (s : State) : State :=
  match s.servedFate with
  | .deliver =>
    if blockGood w then
      (s.modStream n (fun x => { x with inFlight := x.inFlight - 1 })).deliverBlock n i (s.loadBlock image i)
    else s.badBlock n i
  | .refund => s.modStream n (fun x => { x with inFlight := x.inFlight - 1, credit := creditUp x.credit 1000 })
  | .drain => s.modDraining n (· - 1)

/-- Take the blocks of a stream's read in index order (R98); the check of a block that the damage list does not reach
finds nothing (notes/assumptions/11.md). -/
def takeBlocks (n : BayId) (image : Nat) : (count first : Nat) → List WordDamage → State → State
  | 0, _, _, s => s
  | k + 1, i, ws, s => takeBlocks n image k (i + 1) (ws.drop 1) (s.takeBlock n image i (ws.headD .clean))

/-- A stream has ended (R98). -/
def Stream.ended (x : Stream) : Bool := decide (x.stop ≤ x.next) && x.inFlight == 0 && x.reread.isNone

/-- Remove a stream that has ended and hand the RGU its release (R98, R86). -/
def State.streamEnd (n : BayId) (s : State) : State :=
  match s.stream n with
  | some x => if x.ended then (s.setStream n none).release n else s
  | none => s

/-- The request being served is done. -/
def State.served (s : State) : State := { s with smc.serving := none }

/-- The re-read of a stream's block completes (R100). -/
def State.takeReread (n : BayId) (image i : Nat) (w : WordDamage) (s : State) : State :=
  match s.servedFate with
  | .deliver =>
    if blockGood w then
      ((s.modStream n (fun x => { x with inFlight := x.inFlight - 1, reread := none })).deliverBlock n i
        (s.loadBlock image i)).streamEnd n
    else (s.modStream n (fun x => { x with inFlight := x.inFlight - 1 })).imageLost image .memory
  | .refund => s.modStream n (fun x => { x with inFlight := x.inFlight - 1, credit := creditUp x.credit 1000 })
  | .drain => s.modDraining n (· - 1)

/-! ### Artwork -/

/-- The artwork transfer is complete: the station waits for ARTWORK-OK under the print timer (R178). -/
def State.transferComplete (s : State) : State :=
  match s.psc.state, s.psc.step with
  | .loaded, some .transfer => { s with psc.step := some .artworkWait, psc.timer := some Config.printMs }
  | _, _ => s

/-- A transfer that has ended is removed, and the station is told (R102). -/
def State.artworkEnd (s : State) : State :=
  match s.fdr.artwork with
  | some x =>
    if x.length ≤ x.next ∧ x.inFlight = 0 ∧ x.reread = none then
      let t : State := { s with fdr.artwork := none }
      t.transferComplete
    else s
  | none => s

/-- Hand a block to the station, which sends it on (R103, R178). -/
def State.artworkBlock (data : BlockData) (s : State) : State := s.toPrinter (.artworkBlock data)

/-- Change the artwork transfer record. -/
def State.modArtwork (f : Transfer → Transfer) (s : State) : State := { s with fdr.artwork := s.fdr.artwork.map f }

/-- Take one block of an artwork burst (R103). -/
def State.takeArtwork (image i : Nat) (w : WordDamage) (s : State) : State :=
  match s.servedFate with
  | .deliver =>
    if blockGood w then
      (s.modArtwork (fun x => { x with inFlight := x.inFlight - 1 })).artworkBlock (s.loadBlock image i)
    else
      let s := s.modArtwork (fun x => { x with inFlight := x.inFlight - 1, reread := some i, next := i })
      { s with smc := s.smc.setFate (fun r => r.user == .artwork && r.fate == .deliver) .refund }
  | .refund => s.modArtwork (fun x => { x with inFlight := x.inFlight - 1 })
  | .drain => s

/-- Take the blocks of an artwork burst in index order (R103). -/
def takeArtworks (image : Nat) : (count first : Nat) → List WordDamage → State → State
  | 0, _, _, s => s
  | k + 1, i, ws, s => takeArtworks image k (i + 1) (ws.drop 1) (s.takeArtwork image i (ws.headD .clean))

/-- The re-read of an artwork block completes (R103). -/
def State.takeArtworkReread (image i : Nat) (w : WordDamage) (s : State) : State :=
  match s.servedFate with
  | .deliver =>
    if blockGood w then
      ((s.modArtwork (fun x => { x with inFlight := x.inFlight - 1, reread := none })).artworkBlock
        (s.loadBlock image i)).artworkEnd
    else (s.modArtwork (fun x => { x with inFlight := x.inFlight - 1 })).imageLost image .memory
  | .refund => s.modArtwork (fun x => { x with inFlight := x.inFlight - 1 })
  | .drain => s

end Sys2Proof.Machine
end

