-- ==== Sys2Proof/Machine/Printing.lean ====
section
/-! DEFINITION. The sequence of the print station: the artwork step (R178), the merge step and the serials (R179, R180), the
placement of a disc (R176) and the jam (R183). -/

namespace Sys2Proof.Machine

/-! ### Merge and serials -/

/-- The serial a job gives next (R179). -/
def SerialPlan.candidate (p : SerialPlan) : Serial := { lot := p.nextLot, unit := p.nextUnit }

/-- The cascade would carry the lot past 9,999 (R179). -/
def SerialPlan.atEnd (p : SerialPlan) : Bool := p.nextLot == Config.maxLot && p.nextUnit == p.unitMax

/-- The next serial after one is assigned (R180). -/
def SerialPlan.step (p : SerialPlan) : SerialPlan :=
  if p.nextUnit < p.unitMax then { p with nextUnit := p.nextUnit + 1 }
  else { p with nextUnit := 1, nextLot := p.nextLot + 1 }

/-- The serial fields of a record's job. -/
def State.planOf (s : State) (d : DiscId) : Option SerialPlan := ((s.disc d).bind s.jobOf).bind Job.serial

/-- The candidate is written as the record's serial, and the job's next serial advances (R180). -/
def State.assignSerial (d : DiscId) (s : State) : State :=
  match s.planOf d, (s.disc d).bind Disc.job with
  | some p, some j =>
    (s.modDisc d (fun r => { r with serial := some p.candidate })).modJob j (fun x =>
      { x with serial := x.serial.map SerialPlan.step })
  | _, _ => s

/-- The merge step: MERGE and PRINT are sent, or the disc is stalled at the end of the serials (R179). -/
def State.mergeStep (d : DiscId) (s : State) : State :=
  match s.planOf d with
  | some p =>
    if p.atEnd then s.stall d true
    else
      let s := (s.toPrinter (.merge (mergeText p.text p.candidate))).toPrinter .print
      { s with psc.state := .printing, psc.step := none, psc.timer := some Config.printMs }
  | none => s

/-! ### Artwork -/

/-- The Feeder takes the request for an artwork transfer, replacing a record it holds (R102). -/
def State.requestArtwork (x : Image) (s : State) : State :=
  let s := s.withdrawArtwork
  { s with fdr.artwork := some { image := x.number, length := x.length } }

/-- The artwork step (R178). A label image without an entry is taken as lost. -/
def State.artworkStep (d : DiscId) (s : State) : State :=
  match (((s.disc d).bind s.jobOf).bind Job.labelImage).bind s.image? with
  | some x =>
    if x.state = .lost then s.stall d false
    else if s.psc.cacheTag = some x.number then s.mergeStep d
    else
      let t : State := { s with psc.cacheTag := none, psc.state := .loaded, psc.step := some .transfer }
      (t.toPrinter (.artwork x.number x.length)).requestArtwork x
  | none => s.stall d false

/-! ### Placement -/

/-- The station acts on the record on its tray (R176). -/
def State.stationActs (d : DiscId) (s : State) : State :=
  match s.disc d with
  | some r =>
    if r.verdict = .pending ∧ (s.jobOf r).bind (fun j => nextStep j r) = some .print then
      let t : State := { s with psc.state := .loaded }
      t.artworkStep d
    else s.stationLeaves
  | none => s

/-- A disc is placed on the printer tray (R176). -/
def State.stationPlaced (d : DiscId) (s : State) : State :=
  let s : State := { s with psc.reservedFor := none }
  match s.psc.state with
  | .inkOut | .jammed => s
  | _ => s.stationActs d

/-! ### Jams -/

/-- The disc at a jam, by the state the station was in (R183). -/
def State.jamDisc (was : StationState) (step : Option PrintStep) (s : State) : State :=
  match s.discAt .printer with
  | some d =>
    match was, step with
    | .printing, _ => (s.assignSerial d).verdict d (some .printFailed)
    | .loaded, some .transfer | .loaded, some .artworkWait => s.withdrawArtwork.verdict d (some .printFailed)
    | _, _ => s
  | none => s

/-- The station enters JAMMED (R183). -/
def State.jam (c : JamCause) (s : State) : State :=
  let e : Event :=
    { kind := .printerJam, detail := .jam c
      subject := match s.printerJob with | some j => .job j | none => .none }
  let t : State := { s with psc.state := .jammed, psc.step := none, psc.timer := none, psc.cacheTag := none }
  ((t.deliver e).jamDisc s.psc.state s.psc.step).duePass

/-- The PSC proceeds with a sweep's sense once nothing holds it: TRAY-SENSE and the print timer (R188). -/
def State.proceedSense (s : State) : State :=
  if s.tsq.phase = .sweeping .printer ∧ s.psc.sense ≠ some .service ∧ s.psc.state ≠ .printing then
    let t : State := { s with psc.sense := some .sweep, psc.timer := some Config.printMs }
    t.toPrinter .traySense
  else s

/-- The sweep asks the PSC to sense the printer tray (R188). A service sense in hand keeps its name until it ends
(notes/assumptions/58.md). -/
def State.sensePrinter (s : State) : State :=
  let t : State := { s with psc.sense := if s.psc.sense = some .service then s.psc.sense else some .sweep }
  t.proceedSense

end Sys2Proof.Machine
end

