-- ==== Sys2Proof/Machine/Moves.lean ====
section
/-! DEFINITION. The completions of the arm: grips (R155 to R157), releases (R160), the spindles that change state with them
(R163) and the recovery HOMED (R168). -/

namespace Sys2Proof.Machine

/-! ### Spindles -/

/-- A spindle is usable for a job (R162). -/
def State.usableFor (s : State) (j : Job) (x : Spindle) : Bool := j.pref.allows x && (s.spindle x).usable j.cls

/-- A copy's LOAD can turn from a spindle to the other one (R155, R163). -/
def State.canTurn (s : State) (e : Entry) (x : Spindle) : Bool :=
  e.purpose == some .copy && (e.job.bind s.job?).any (fun j => j.pref == .either && s.usableFor j x.other)

/-- A queued LOAD whose spindle turned EMPTY or SUSPECT: re-targeted, dropped or left (R163). -/
def State.treatLoad (x : Spindle) (empty : Bool) (e : Entry) (s : State) : State :=
  if s.canTurn e x then
    let t : State := { s with tsq.queue := s.tsq.queue.map (fun (y : Entry) =>
      if y = e then { y with source := .spindle x.other } else y) }
    t.dueSelect
  else if e.purpose = some .master then
    if empty then s.dropMasterLoad e else s
  else s.dropLoad e

/-- Each queued LOAD from a spindle that turned EMPTY or SUSPECT (R163). -/
def State.treatLoads (x : Spindle) (empty : Bool) (s : State) : State :=
  forEach (s.tsq.queue.filter (fun e => e.cls == .load && e.source == .spindle x)) (State.treatLoad x empty) s

/-- A spindle turns EMPTY, its count known at 0 (R163). -/
def State.turnEmpty (x : Spindle) (s : State) : State :=
  let s := s.modSpindle x (fun r => { r with state := .empty, count := some 0 })
  ((s.deliver { kind := .spindleEmpty, subject := .spindle x, detail := .none }).evalSpindles.treatLoads x true).dueBoth

/-- A spindle turns SUSPECT (R163); of the two hold causes SPINDLE-SUSPECT reaches every job before NO-BLANKS does
(R28; notes/assumptions/5.md). -/
def State.turnSuspect (x : Spindle) (s : State) : State :=
  let s := s.modSpindle x (fun r => { r with state := .suspect })
  (((s.deliver { kind := .spindleSuspect, subject := .spindle x, detail := .none }).suspectHolds x).evalSpindles.treatLoads
    x false).dueBoth

/-- A spindle is found empty, its count known at 0: one that is EMPTY already does not turn EMPTY again (R163). -/
def State.foundEmpty (x : Spindle) (s : State) : State :=
  if (s.spindle x).state = .empty then s.modSpindle x (fun r => { r with count := some 0 }) else s.turnEmpty x

/-- A grip takes discs from a spindle: a known count falls, stopping at 0, and at 0 the spindle turns EMPTY (R155,
R156). -/
def State.takeFrom (x : Spindle) (k : Nat) (s : State) : State :=
  match (s.spindle x).count with
  | some c => if c ≤ k then s.foundEmpty x else s.modSpindle x (fun r => { r with count := some (c - k) })
  | none => s

/-- The class test of a copy's probe (R111, R163). A mismatch at a spindle that is not SUSPECT turns it SUSPECT whenever the
count stands at 2 after it, an EMPTY one too (notes/assumptions/60.md). -/
def State.classTest (x : Spindle) (same : Bool) (s : State) : State :=
  if same then s.modSpindle x (fun r => { r with wrong := 0 })
  else if (s.spindle x).state = .suspect then s
  else
    let s := s.modSpindle x (fun r => { r with wrong := saturate Config.suspectCount (r.wrong + 1) })
    if Config.suspectCount ≤ (s.spindle x).wrong then s.turnSuspect x else s

/-! ### Grips at a spindle -/

/-- The record a grip at a spindle creates (R5). -/
def Entry.newDisc (e : Entry) (x : Spindle) (dest : Dest) : Disc :=
  { purpose := e.purpose.getD .copy, job := e.job, attempt := e.attempt, image := e.image
    source := some x, location := .arm, dest := some dest }

/-- The Job Scheduler is told of a grip: loads pending falls for a copy, a master's request leaves its queue (R155). -/
def State.gripTold (e : Entry) (s : State) : State :=
  match e.purpose, e.job, e.image with
  | some .master, _, some i =>
    let t : State := { s with jsc.masters := s.jsc.masters.filter (fun q => q.image != i) }
    t.duePass
  | _, some j, _ => s.loadGone j
  | _, _, _ => s

/-- GRIPPED at an input spindle (R155). -/
def State.gripSpindle (x : Spindle) (s : State) : State :=
  match s.tsq.arm.move with
  | some m =>
    match s.createDisc (m.entry.newDisc x m.entry.dest) with
    | (some d, s) =>
      let s := s.modMove (fun v => { v with entry.disc := some d, gripped := true, returning := false })
      ((s.takeFrom x 1).gripTold m.entry).travel
    | (none, s) => s
  | none => s

/-- A LOAD that the TSQ drops at its grip: its reservations go and the Job Scheduler is told (R155, R42, R45). -/
def State.loadDropped (e : Entry) (s : State) : State :=
  match e.purpose, e.image, e.job, e.attempt with
  | some .master, some i, _, _ => (s.dropResOf (.master i)).unassignMaster i
  | _, _, some j, some a => (s.dropCopyRes j a).loadGone j
  | _, _, _, _ => s

/-- GRIP-EMPTY at an input spindle (R155). -/
def State.gripEmptySpindle (x : Spindle) (s : State) : State :=
  match s.tsq.arm.move with
  | some m =>
    let s := s.foundEmpty x
    if s.canTurn m.entry x then
      let s := s.modMove (fun v => { v with entry.source := .spindle x.other })
      match s.tsq.arm.move with
      | some v => s.toSource v
      | none => s
    else s.giveUp.loadDropped m.entry
  | none => s

/-- The Job Scheduler gives the fresh pick of a double pick its new attempt, or has the entry dropped (R42). That the LOAD
returns at the tail of the queue, with its original entry time, is the model's (R156, notes/assumptions/63.md). -/
def State.freshPick (e : Entry) (s : State) : State :=
  match e.purpose, e.job, e.attempt with
  | some .copy, some j, some a =>
    if (s.job? j).any (fun x => decide (x.attempts < Config.count16)) then
      let b := ((s.job? j).map (fun x => x.attempts + 1)).getD 0
      let s := s.modJob j (fun x => { x with attempts := b })
      let s := forEach allBays (fun n s =>
        if s.bayRes n = some (.copy j a) then s.setBayRes n (some (.copy j b)) else s) s
      let t : State := { s with
        psc.reservedFor := if s.psc.reservedFor = some (.copy j a) then some (.copy j b) else s.psc.reservedFor
        tsq.queue := s.tsq.queue ++ [{ e with disc := none, attempt := some b }] }
      t.dueBoth
    else (s.dropCopyRes j a).loadGone j
  | _, _, _ =>
    let t : State := { s with tsq.queue := s.tsq.queue ++ [{ e with disc := none }] }
    t.dueBoth

/-- The record of a pair, REJECT from the first, and the hand-offs of its verdict (R156, R6, R14). The reservations made
for the copy stay: they are the fresh pick's. -/
def State.createPair (e : Entry) (x : Spindle) (s : State) : Option DiscId × State :=
  let r := e.newDisc x .rej
  match s.createDisc { r with verdict := .reject, cause := some .doublePick } with
  | (some d, s) => (some d, (s.handOffs r (some .doublePick)).duePass)
  | (none, s) => (none, s)

/-- The final GRIP-DOUBLE: the pair's record, the fresh pick, and the placement of the pair in REJ (R156, R6). Beyond the source
and the destination that R156 gives, the fields of the placement's entry, which QUERY-TOWER shows, are the model's: class
CLEAR, the entry time of the LOAD, and no purpose, job, attempt or image (notes/assumptions/71.md). -/
def State.doublePick (x : Spindle) (s : State) : State :=
  match s.tsq.arm.move with
  | some m =>
    match s.createPair m.entry x with
    | (some d, s) =>
      let s := ((s.takeFrom x 2).dropReservation).freshPick m.entry
      let e : Entry := { cls := .clear, source := .arm, dest := .rej, disc := some d, time := m.entry.time }
      (s.modMove (fun v => { v with entry := e, gripped := true, returning := false, reserved := .none })).travel
    | (none, s) => s
  | none => s

/-- GRIP-DOUBLE at an input spindle: a retry, or the final one (R156). -/
def State.gripDoubleSpindle (x : Spindle) (s : State) : State :=
  match s.tsq.arm.move with
  | some m => if m.retries < Config.doublePickRetries then s.sendMotion .release else s.doublePick x
  | none => s

/-! ### Grips at a bay or at the printer -/

/-- The disc has left a bay that BAY-ONLINE took to HOLDING after its pick errand had failed under the GRIP: the bay
answers the close request as after a pick (R157, R108; notes/assumptions/49.md). -/
def State.leftHolding (n : BayId) (s : State) : State :=
  if (s.bay n).state = .holding ∧ (s.bay n).errand = .none then
    s.modBay n (fun b => { b with state := .trayOut, errand := .pick })
  else s

/-- GRIPPED at a bay or at the printer (R157, R9). -/
def State.gripPlace (s : State) : State :=
  match s.tsq.arm.move with
  | some m =>
    match m.entry.disc with
    | some d =>
      let s := (s.modDisc d (fun r => { r with location := .arm, dest := some m.entry.dest })).modMove
        (fun v => { v with gripped := true })
      let s :=
        match m.entry.source with
        | .printer => s.stationTaken.unreserveStation (.disc d)
        | .bay n => (s.leftHolding n).offlineCheck n
        | _ => s
      s.travel
    | none => s
  | none => s

/-! ### Releases -/

/-- Release a retry's pair onto its spindle: the retries used rise, but not for one brought back (R156, R168), and the arm
grips again, but for a master that is gone (R161). -/
def State.retryReleased (s : State) : State :=
  match s.tsq.arm.move with
  | some m =>
    if s.masterGone m.entry then s.giveUpMaster m.entry
    else
      (s.modMove (fun v =>
        { v with retries := if v.returning then v.retries else v.retries + 1, returning := false })).sendMotion .grip
  | none => s.sendMotion .grip

/-- The verdict of a disc placed on a bay or on the printer became REJECT between RELEASE and RELEASED: it is gripped
again, and the move becomes a CLEAR to REJ (R160). Its source is the place gripped at, so tenure can follow it, and the
purpose, job and attempt of a LOAD stay in the entry (notes/assumptions/55.md). -/
def State.regrip (m : Move) (src : Source) (s : State) : State :=
  let e : Entry := { m.entry with cls := .clear, source := src, dest := .rej }
  let s := s.modMove (fun v => { v with entry := e, gripped := false, reserved := .none })
  (s.armTo .picking).sendMotion .grip

/-- The bay takes the disc set on its tray (R160, R107). A bay whose placement errand failed after the RELEASE was sent is
in FAULT, and treats the record as R121 does; one that BAY-ONLINE has brought back closes over it
(notes/assumptions/49.md). -/
def State.takePlaced (n : BayId) (d : DiscId) (s : State) : State :=
  match (s.bay n).state with
  | .fault => ((s.faultDisc d false).faultClear n).dueBoth
  | .empty | .reserved => (s.moveTray n true).modBay n (fun b => { b with state := .trayOut, errand := .place })
  | _ => s.closeTray n

/-- RELEASED at a bay: the move is over before the bay takes the disc, so that a CLEAR can join (R160, R42, R150). That a disc
rejected meanwhile is put at the bay and gripped again whatever the bay's state, with the bay left as it is, is the model's
(R9, notes/assumptions/49.md). -/
def State.releasedAtBay (m : Move) (d : DiscId) (n : BayId) (s : State) : State :=
  let s := s.modDisc d (fun r => { r with location := .bay n, workBay := some n, dest := none })
  if (s.disc d).any (fun r => r.verdict == .reject && r.purpose != .master) then s.regrip m (.bay n)
  else ((s.setBayRes n none).park.drainArrival d).takePlaced n d

/-- RELEASED at the printer: the move is over before the station takes the disc, so that the disc's CLEAR can join (R160,
R176, R150). -/
def State.releasedAtPrinter (m : Move) (d : DiscId) (s : State) : State :=
  let s := s.modDisc d (fun r => { r with location := .printer, dest := none })
  if (s.disc d).any (fun r => r.verdict == .reject && r.purpose != .master) then s.regrip m .printer
  else (s.park.drainArrival d).stationPlaced d

/-- RELEASED at OUT or REJ: the count rises, by two for a pair at either place (R16; notes/assumptions/29.md), the reservation
ends and the record is deleted; one still PENDING is rejected LOST first (R160, R16). -/
def State.releasedAway (m : Move) (d : DiscId) (s : State) : State :=
  let k := ((s.disc d).map Disc.places).getD 1
  let t : State :=
    match m.entry.dest with
    | .out => { s with tsq.out.count := s.tsq.out.count + k }
    | _ => { s with tsq.rej.count := s.tsq.rej.count + k }
  (t.dropMoveRes m).loseDisc d |>.park

/-- Tenure begins when a CLEAR whose source was a bay completes (R153). -/
def State.beginTenure (m : Move) (s : State) : State :=
  match m.entry.cls, m.entry.source with
  | .clear, .bay n => if s.tsq.arm.move.isNone then { s with tsq.tenure := some n } else s
  | _, _ => s

/-- RELEASED at the destination (R160). -/
def State.placeReleased (s : State) : State :=
  match s.tsq.arm.move with
  | some m =>
    match m.entry.disc with
    | some d =>
      let s :=
        match m.entry.dest with
        | .bay n => s.releasedAtBay m d n
        | .printer => s.releasedAtPrinter m d
        | _ => s.releasedAway m d
      s.beginTenure m
    | none => s.park
  | none => s.park

/-! ### The recovery HOMED -/

/-- The arm reports itself empty and a record is located at ARM: LOST, and the move is given up (R168, R17). -/
def State.recoverLost (d : DiscId) (s : State) : State :=
  let pair := (s.disc d).any (fun r => r.cause == some .doublePick)
  let master := if pair then none else (s.disc d).bind (fun r => if r.purpose = .master then r.image else none)
  let close (n : BayId) (s : State) : State := s.closeTray n
  let s := s.loseDisc d
  let s :=
    match s.tsq.arm.move with
    | some m =>
      let s := match m.entry.source with | .bay n => close n s | _ => s
      let s := match m.entry.dest with | .bay n => close n s | _ => s
      s.giveUp
    | none => s.park
  match master with
  | some i => s.dropResOf (.master i)
  | none => s

/-- The arm reports a disc and none is located at ARM (R168). That a pair on its way back to its spindle is brought back again
after a second stop, when the last command was a GOTO, is the model's (notes/assumptions/64.md). -/
def State.recoverHolding (s : State) : State :=
  match s.tsq.arm.move with
  | some m =>
    match m.entry.source, m.cmd, m.gripped with
    | .spindle x, some .grip, false => s.gripSpindle x
    | .bay _, some .grip, false | .printer, some .grip, false => s.gripPlace
    | .spindle _, c, false =>
      if c = some .release ∨ m.returning = true then
        (s.modMove (fun v => { v with returning := true })).toSource { m with returning := true }
      else s.armFault .senseDisagree
    | _, _, _ => s.armFault .senseDisagree
  | none => s.armFault .senseDisagree

/-- A HOMED taken as a recovery (R168). -/
def State.recover (holding : Bool) (s : State) : State :=
  match s.discAt .arm, holding with
  | some d, false => s.recoverLost d
  | some _, true =>
    match s.tsq.arm.move with
    | some _ => s.travel
    | none => s.park
  | none, true => s.recoverHolding
  | none, false =>
    match s.tsq.arm.move with
    | some m =>
      let s := s.modMove (fun v => { v with returning := false })
      s.toSource m
    | none => s.park

end Sys2Proof.Machine
end

