-- ==== Sys2Proof/Machine/Passes.lean ====
section
/-! DEFINITION. The assignment pass of the Job Scheduler (R40 to R45) and the selection of the Transport Sequencer (R151 to
R153, R165). -/

namespace Sys2Proof.Machine

/-! ### Assignment -/

/-- The lowest-numbered free bay (R40). -/
def State.firstFree (s : State) : Option BayId := allBays.find? s.freeBay

/-- A transport queue entry is free (R41, R150). -/
def State.entryFree (s : State) : Bool := decide (s.tsq.queue.length < Config.queueEntries)

/-- Reserve a bay: the JSC's reservation, and an EMPTY bay becomes RESERVED (R42, R45). -/
def State.reserveBay (n : BayId) (r : BayRes) (s : State) : State :=
  ((s.setBayRes n (some r)).bayTo n .reserved).dueSelect

/-- An entry joins the transport queue (R150). -/
def State.joinQueue (e : Entry) (s : State) : State :=
  let t : State := { s with tsq.queue := s.tsq.queue ++ [e] }
  t.dueSelect

/-- Assign a master-read request, if it passes its test (R45, R66). -/
def State.assignMaster (q : MasterReq) (s : State) : Option State :=
  if q.assigned = false ∧ (s.spindle q.spindle).state ≠ .empty ∧ s.entryFree = true then
    match s.firstFree with
    | some n =>
      let s := s.reserveBay n (.master q.image)
      let t : State := { s with jsc.masters := s.jsc.masters.map (fun (x : MasterReq) =>
        if x.image = q.image then { x with assigned := true } else x) }
      let s := t.modImage q.image (fun x => { x with source := .master (some n) })
      some (s.joinQueue
        { cls := .load, source := .spindle q.spindle, dest := .bay n, purpose := some .master, image := some q.image
          time := s.tsq.clock })
    | none => none
  else none

/-- The spindle chosen for a job: its preference, or under EITHER IN-A if usable and IN-B otherwise (R41). -/
def State.chosenSpindle (s : State) (j : Job) : Option Spindle :=
  [Spindle.inA, .inB].find? (fun x => s.usableFor j x)

/-- A spare a job can take over (R43). -/
def State.spareFits (s : State) (j : Job) (n : BayId) : Bool :=
  (s.bay n).state == .spare &&
    (s.recAt (.bay n)).any (fun r =>
      r.purpose == .spare && r.verdict == .pending
        && r.media.any (fun m => m.cls == j.cls && decide (((s.discImageOf j).map Image.length).getD 0 ≤ m.capacity)))

/-- Tests of R41 that need no place. -/
def State.eligibleJob (s : State) (j : Job) : Bool :=
  j.state == .active && decide (j.good + s.active j.number + j.loads < j.copies)
    && decide (j.attempts < Config.count16) && !(j.order.prints && s.psc.blocked)

/-- A spare is taken over (R43, R8, R112). -/
def State.takeSpare (j : Job) (n : BayId) (s : State) : State :=
  match s.discAt (.bay n) with
  | some d =>
    let a := j.attempts + 1
    let s := s.modJob j.number (fun x => { x with attempts := a })
    let s := (s.modDisc d (fun r => { r with purpose := .copy, job := some j.number, attempt := some a })).setSpareHold n
      none
    s.towardGrant n .write
  | none => s

/-- A copy is assigned from a spindle: attempt, loads pending and LOAD entry (R42). -/
def State.queueCopy (j : Job) (x : Spindle) (dest : Dest) (s : State) : State :=
  let s := s.modJob j.number (fun y => { y with attempts := j.attempts + 1, loads := y.loads + 1 })
  s.joinQueue
    { cls := .load, source := .spindle x, dest := dest, purpose := some .copy, job := some j.number
      attempt := some (j.attempts + 1), time := s.tsq.clock }

/-- The station becomes RESERVED for a copy (R42, R175). -/
def State.reserveStation (r : StationRes) (s : State) : State :=
  let t : State := { s with psc.state := .reserved, psc.reservedFor := some r }
  t.dueSelect

/-- The station is VACANT and not reserved. -/
def Psc.vacant (p : Psc) : Bool := p.state == .vacant && p.reservedFor.isNone

/-- Assign a copy of a job, if it passes the test of R41 with a place for it (R42, R43). -/
def State.assignCopy (j : Job) (s : State) : Option State :=
  if s.eligibleJob j then
    let r (k : Nat) : BayRes := .copy j.number k
    let a := j.attempts + 1
    match j.order with
    | .burnThenPrint | .burnOnly =>
      match allBays.find? (s.spareFits j) with
      | some n => some (s.takeSpare j n)
      | none =>
        match s.firstFree, s.chosenSpindle j, s.entryFree with
        | some n, some x, true => some ((s.reserveBay n (r a)).queueCopy j x (.bay n))
        | _, _, _ => none
    | .printThenBurn =>
      match s.firstFree, s.chosenSpindle j, s.entryFree && s.psc.vacant with
      | some n, some x, true =>
        some (((s.reserveBay n (r a)).reserveStation (.copy j.number a)).queueCopy j x .printer)
      | _, _, _ => none
    | .printOnly =>
      match s.chosenSpindle j, s.entryFree && s.psc.vacant with
      | some x, true => some ((s.reserveStation (.copy j.number a)).queueCopy j x .printer)
      | _, _ => none
  else none

/-- Insert a member before the first that a strict order does not put ahead of it. -/
def insertBy {α : Type} (before : α → α → Bool) (x : α) : List α → List α
  | [] => [x]
  | y :: ys => if before y x then y :: insertBy before x ys else x :: y :: ys

/-- A list in an order, members that tie in their old order. -/
def sortBy {α : Type} (before : α → α → Bool) : List α → List α
  | [] => []
  | x :: xs => insertBy before x (sortBy before xs)

/-- Master-read requests, oldest submission first (R40). -/
def Jsc.masterOrder (x : Jsc) : List MasterReq := sortBy (fun a b => decide (a.seq < b.seq)) x.masters

/-- Jobs by priority, highest first, and then by submission, oldest first (R40). -/
def Jsc.jobOrder (x : Jsc) : List Job :=
  sortBy (fun a b => decide (b.priority < a.priority) || (a.priority == b.priority && decide (a.seq < b.seq))) x.jobs

/-- The first candidate that can be assigned (R40). -/
def State.assignOne (s : State) : Option State :=
  (s.jsc.masterOrder.findSome? (fun q => s.assignMaster q)).orElse (fun _ =>
    s.jsc.jobOrder.findSome? (fun j => s.assignCopy j))

/-- Assign until a run through every candidate assigns nothing; `k` bounds the run: each assignment takes a free bay, a
spare or the station, of which there are 25 (R40). -/
def assignMany : (k : Nat) → State → State
  | 0, s => s
  | k + 1, s =>
    match s.assignOne with
    | some t => assignMany k t
    | none => s

/-- An assignment pass; nothing is assigned while the phase is SWEEPING (R40). -/
def State.pass (s : State) : State := if s.sweeping then s else assignMany 32 s

/-! ### Selection -/

/-- The station reservation of a LOAD's copy (R151). -/
def Entry.stationRes (e : Entry) : Option StationRes :=
  match e.cls, e.job, e.attempt with
  | .load, some j, some a => some (.copy j a)
  | _, _, _ => none

/-- An entry's destination is reservable (R151). -/
def State.reservable (s : State) (e : Entry) : Bool :=
  match e.dest with
  | .bay n => (s.discAt (.bay n)).isNone && s.placeableFor n e
  | .printer =>
    (s.discAt .printer).isNone &&
      ((s.psc.state == .reserved && s.psc.reservedFor.isSome && s.psc.reservedFor == e.stationRes) || s.psc.vacant)
  | .out => s.tsq.out.room
  | .rej => s.tsq.rej.room

/-- Take the reservation of a selected entry (R151). -/
def State.reserveFor (e : Entry) (s : State) : MoveRes × State :=
  match e.dest with
  | .bay _ => (.tray, s)
  | .printer =>
    if s.psc.vacant then
      match e.disc with
      | some d => (.printer true, s.reserveStation (.disc d))
      | none => (.printer false, s)
    else (.printer false, s)
  | .out => (.out, { s with tsq.out.reserved := s.tsq.out.reserved + 1 })
  | .rej =>
    let k := ((e.disc.bind s.disc).map Disc.places).getD 1
    (.rej k, { s with tsq.rej.reserved := s.tsq.rej.reserved + k })

/-- Start a selected move (R152, R154). -/
def State.startMove (e : Entry) (s : State) : State :=
  let (res, s) := s.reserveFor e
  let held := decide (e.source = .arm)
  let m : Move := { entry := e, reserved := res, gripped := held }
  let t : State := { s with
    tsq.queue := s.tsq.queue.erase e, tsq.arm.move := some m, tsq.arm.trayReady := false }
  let s := t.duePass
  if held then
    match e.disc with
    | some d => (s.modDisc d (fun r => { r with dest := some e.dest })).travel
    | none => s.travel
  else s.toSource m

/-- Oldest entry time first (R152). That of two entries with one entry time the one nearer the head of the queue is older is
the model's (notes/assumptions/63.md). -/
def oldestFirst (es : List Entry) : List Entry := sortBy (fun a b => decide (a.time < b.time)) es

/-- While a disc is at ARM, only an entry from ARM is selected (R152). -/
def State.mayMove (s : State) (e : Entry) : Bool := (s.discAt .arm).isNone || e.source == .arm

/-- The source spindle of a LOAD is not EMPTY (R152). -/
def State.sourceHolds (s : State) (e : Entry) : Bool :=
  match e.source with
  | .spindle x => (s.spindle x).state != .empty
  | _ => true

/-- A waiting CLEAR is older than the tenure limit; at a limit of 0 every one is (R153). -/
def State.tenureBarred (s : State) : Bool :=
  s.tsq.queue.any (fun e =>
    e.cls == .clear && (s.sst.working.tenureMs == 0 || decide (s.sst.working.tenureMs < s.tsq.clock - e.time)))

/-- The LOAD that tenure takes first, when it is granted (R153). -/
def State.tenureEntry (s : State) : Option Entry :=
  match s.tsq.tenure with
  | some n =>
    if s.tenureBarred then none
    else s.tsq.queue.find? (fun e =>
      e.cls == .load && e.dest == .bay n && s.mayMove e && s.reservable e && s.sourceHolds e)
  | none => none

/-- The full notices of the CLEARs that a selection passes over (R165). -/
def noticeFull (es : List Entry) (s : State) : State :=
  forEach es (fun e s =>
    match e.dest with
    | .out => if s.reservable e then s else s.reportFull true
    | .rej => if s.reservable e then s else s.reportFull false
    | _ => s) s

/-- Take the oldest CLEAR that can go, and otherwise the oldest LOAD; CLEARs passed over for a full place are noticed
(R152, R165). That a CLEAR from elsewhere, which may not move while a disc is at ARM, is not counted as passed over is the
model's (notes/assumptions/47.md). -/
def State.selectByAge (s : State) : State :=
  let clears := oldestFirst (s.tsq.queue.filter (fun e => e.cls == .clear && s.mayMove e))
  let loads := oldestFirst (s.tsq.queue.filter (fun e => e.cls == .load && s.mayMove e && s.sourceHolds e))
  let s' := noticeFull (clears.takeWhile (fun e => !s.reservable e)) s
  match clears.find? s.reservable with
  | some e => s'.startMove e
  | none =>
    match loads.find? s.reservable with
    | some e => s'.startMove e
    | none => s'

/-- A selection (R152). Tenure ends at it, whatever it takes (R153; notes/assumptions/15.md). -/
def State.select (s : State) : State :=
  if s.tsq.arm.state = .parked ∧ s.tsq.phase = .running ∧ s.tsq.door = .closed ∧ s.tsq.queue ≠ [] then
    let t : State := { s with tsq.tenure := none }
    match s.tenureEntry with
    | some e => t.startMove e
    | none => t.selectByAge
  else s

end Sys2Proof.Machine
end

