-- ==== Sys2Proof/Machine/Sweep.lean ====
section
/-! DEFINITION. The start-up sweep (R172): the sense of a bay (R131), the reconciliation of each place (R7), how bays and
the station settle (R131, R188), and the end of a step with its passes and selections (notes/assumptions/4.md). -/

namespace Sys2Proof.Machine

/-! ### Reconciling a place (R7) -/

/-- The source of a CLEAR from a place. -/
def Location.source : Location → Source
  | .arm => .arm | .bay n => .bay n | .printer => .printer

/-- The record of a disc found without one (R7). -/
def foundDisc (l : Location) : Disc :=
  { purpose := .found, location := l, verdict := .reject, cause := some .found
    dest := match l with | .arm => some .rej | _ => none
    workBay := match l with | .bay n => some n | _ => none }

/-- A record kept by the sweep: rejected CLEARED when it is PENDING and no master, and cleared to the place R12 gives
(R7). -/
def State.keepDisc (l : Location) (d : DiscId) (s : State) : State :=
  let s :=
    if (s.disc d).any (fun r => r.verdict == .pending && r.purpose != .master) then s.writeVerdict d (some .cleared) else s
  match (s.disc d).bind s.requiredDest with
  | some dest =>
    let s := if l = .arm then s.modDisc d (fun r => { r with dest := some dest }) else s
    s.queueClear l.source d dest
  | none => s

/-- The sweep compares what it senses at a place with the disc table (R7). -/
def State.reconcile (l : Location) (present : Bool) (s : State) : State :=
  match s.discAt l, present with
  | some d, true => s.keepDisc l d
  | some d, false => s.loseDisc d
  | none, true =>
    match s.createDisc (foundDisc l) with
    | (some d, s) => s.queueClear l.source d .rej
    | (none, s) => s
  | none, false => s

/-! ### Bays -/

/-- A bay's answer that needs no sensing (R131). -/
def State.senseNow (s : State) (n : BayId) : Option Bool :=
  match (s.bay n).state with
  | .absent | .offline => some false
  | .fault => some (s.discAt (.bay n)).isSome
  | _ => none

/-- Probe for a sense, under the probe timer (R131). -/
def State.probeSense (n : BayId) (s : State) : State :=
  (s.toBay n .probe).modBay n (fun b => { b with errand := .sense, timers.probe := some Config.probeMs })

/-- A bay is asked to sense its tray: it waits for a motion in progress, closes a tray that is not CLOSED, and probes
(R131). -/
def State.startSense (n : BayId) (s : State) : State :=
  match (s.bay n).tray with
  | .moving => s
  | .closed => s.probeSense n
  | _ => (s.moveTray n true).modBay n (fun b => { b with errand := .sense })

/-- How a bay settles once the TSQ has acted on its answer (R131). -/
def State.settleBay (n : BayId) (s : State) : State :=
  match (s.bay n).state with
  | .fault | .offline | .absent => (s.offlineCheck n).dueBoth
  | _ => if (s.discAt (.bay n)).isSome then s.bayTo n .holding else s.idleBay n

/-- The sweep has a bay's answer (R172, R7, R131). -/
def State.bayAnswered (n : BayId) (present : Bool) (s : State) : State :=
  ((s.modBay n (fun b => { b with errand := if b.errand = .sense then .none else b.errand })).reconcile (.bay n)
    present).settleBay n

/-- Move the sweep on. -/
def State.sweepTo (x : SweepAt) (s : State) : State := { s with tsq.phase := .sweeping x }

/-- The sweep goes from bay to bay; it waits at the first that must sense (R172). -/
def sweepBays : List BayId → State → State
  | [], s => (s.sweepTo .printer).sensePrinter
  | n :: ns, s =>
    let s := s.sweepTo (.bay n)
    match s.senseNow n with
    | some present => sweepBays ns (s.bayAnswered n present)
    | none => s.startSense n

/-- The bays after one, in order. -/
def baysAfter (n : BayId) : List BayId := allBays.filter (fun m => decide (n < m))

/-- The bay at which the sweep waits answers, and the sweep goes on (R131, R172). -/
def State.senseAnswer (n : BayId) (present : Bool) (s : State) : State :=
  if s.sweepAtBay n then sweepBays (baysAfter n) (s.bayAnswered n present)
  else s.modBay n (fun b => { b with errand := if b.errand = .sense then .none else b.errand })

/-- A bay has entered FAULT or OFFLINE: a sweep that waits at it takes its answer (R131). -/
def State.sweepPoke (s : State) : State :=
  match s.tsq.phase with
  | .sweeping (.bay n) =>
    match s.senseNow n with
    | some present => s.senseAnswer n present
    | none => s
  | _ => s

/-! ### The arm and the printer -/

/-- The HOMED answering the sweep's HOME: R7 for the arm, PARKED, and on to bay 0 (R172). -/
def State.sweepArm (holding : Bool) (s : State) : State :=
  let s := s.reconcile .arm holding
  let t : State := { s with tsq.arm.move := none, tsq.arm.state := .parked }
  sweepBays allBays t

/-- How the station settles (R188). -/
def State.settleStation (s : State) : State :=
  match s.psc.state with
  | .inkOut | .jammed => s
  | _ =>
    if (s.discAt .printer).isSome then { s with psc.state := .loaded, psc.step := some .leaving }
    else s.stationTo .vacant

/-- The phase becomes RUNNING: a pass and a selection follow (R172). -/
def State.sweepEnds (s : State) : State :=
  let t : State := { s with tsq.phase := .running }
  t.dueBoth

/-- The station's answer to the sweep, which ends with it (R188, R172). -/
def State.printerAnswered (present : Bool) (s : State) : State := ((s.reconcile .printer present).settleStation).sweepEnds

/-! ### The end of a step -/

/-- What a step begins with: no message sent and no occasion met (notes/assumptions/3.md, 4.md). -/
def State.begin (s : State) : State := { s with sent := [], due := {} }

/-- Let a waiting sweep take the answer of a bay that entered FAULT or OFFLINE. -/
def State.sweepIfDue (s : State) : State := if s.due.sweep then s.sweepPoke else s

/-- Run the pass a step has made due. -/
def State.passIfDue (s : State) : State :=
  if s.due.pass then
    let t : State := { s with due.pass := false }
    t.pass
  else s

/-- Run the selection a step has made due, with whatever the arm waits for. -/
def State.selectIfDue (s : State) : State :=
  if s.due.select then
    let t : State := { s with due.select := false }
    t.nudgeArm.select
  else s

/-- What a step ends with: the passes and selections it has made due; a selection frees a queue entry, which a second
pass may take, and what that queues a second selection (R40, R152). -/
def State.settle (s : State) : State :=
  let s := s.sweepIfDue.passIfDue.selectIfDue.passIfDue.selectIfDue
  { s with due := {} }

end Sys2Proof.Machine
end

