-- ==== Sys2Proof/Machine/Replies.lean ====
section
/-! DEFINITION. The results of the replies, byte by byte (11.1, 11.2): each field at the width its range gives it, in the
order its rule lists the fields. -/

namespace Sys2Proof.Machine

/-- What an owner answers: GOOD with results, or REFUSED with a reason and the results its rule names (R193). -/
inductive Answer where
  | good (results : List Byte)
  | refused (why : Reason) (results : List Byte)
  deriving DecidableEq, Repr

/-- The bytes of a reply frame (11.1). -/
def replyBytes (kind tag : Nat) : Answer → List Byte
  | .good r => u16 (5 + r.length) ++ u8 kind ++ u16 tag ++ u8 0 ++ u8 0 ++ r
  | .refused why r => u16 (5 + r.length) ++ u8 kind ++ u16 tag ++ u8 1 ++ u8 why.code ++ r

/-! ### Images -/

/-- The source of an image: INTAKE 1, MASTER 2, and its bay (R47). That the bay is sent for both, absent for INTAKE, is the
model's (notes/assumptions/21.md). -/
def ImageSource.bytes : ImageSource → List Byte
  | .intake => u8 1 ++ opt8 none
  | .master n => u8 2 ++ opt8 (n.map Fin.val)

/-- QUERY-IMAGE of an image (R60, R47). That the extent count stands where R47 lists the extent list, before the loss reason, is
the model's (notes/assumptions/21.md). -/
def Image.bytes (x : Image) : List Byte :=
  u16 x.number ++ u8 x.kind.code ++ u8 x.state.code ++ u8 x.owner.val ++ flag x.isProtected ++ flag x.shared
    ++ u32 x.length ++ u32 x.accepted ++ u32 x.ingested ++ u16 x.gaps ++ flag x.isSealed ++ x.source.bytes
    ++ u8 x.refs ++ u16 x.extents.length ++ opt8 (x.loss.map LossReason.code)

/-- QUERY-IMAGE of number 0 (R60). That the state of the ready line is sent as a flag, 1 high and 0 low, is the model's
(notes/assumptions/21.md). -/
def State.catalogueBytes (s : State) : List Byte :=
  u16 s.cat.totalExtents ++ u16 s.cat.freeExtents.length ++ u8 s.cat.images.length ++ u8 s.ipt.fifo.length
    ++ flag s.ipt.ready ++ u16 s.ipt.strays

/-! ### Jobs -/

/-- The serial fields of a job: prefix, next lot, next unit, unit_max; absent for BURN-ONLY (R21). That an absent prefix is the
one byte 255 is the model's (notes/assumptions/21.md). -/
def planBytes : Option SerialPlan → List Byte
  | some p => textOf p.text ++ u16 p.nextLot ++ u16 p.nextUnit ++ u16 p.unitMax
  | none => opt8 none ++ opt16 none ++ opt16 none ++ opt16 none

/-- QUERY-JOB (R38, R21). -/
def State.jobBytes (s : State) (j : Job) : List Byte :=
  u16 j.number ++ u8 j.owner.val ++ u32 j.seq ++ opt16 j.discImage ++ opt16 j.labelImage ++ u8 (MediaClass.code j.cls)
    ++ u8 j.pref.code ++ u8 j.order.code ++ u8 j.verify.code ++ opt8 j.sampleK ++ u8 j.marginalLimit
    ++ u8 j.rejectBudget ++ u16 j.copies ++ u8 j.priority ++ opt8 j.writeLimit ++ opt8 j.minWrite ++ opt8 j.readLimit
    ++ flag j.earlyStart ++ planBytes j.serial ++ u16 j.good ++ u16 j.rejected ++ u16 j.budgetRejects
    ++ u16 j.attempts ++ u8 j.loads ++ u8 (setBits j.holds.toList) ++ opt8 (j.drain.map DrainKind.code)
    ++ u8 j.state.code ++ u8 (s.active j.number) ++ u8 j.log.length

/-- An entry of the reject log (11.2). -/
def RejectEntry.bytes (e : RejectEntry) : List Byte :=
  u16 e.attempt ++ opt8 (e.workBay.map Fin.val) ++ u8 e.cause.code ++ opt32 e.firstMismatch

/-- READ-REJECTS (R39, 11.2). -/
def Job.rejectBytes (j : Job) (first : Nat) : List Byte :=
  let es := j.log.drop first
  u8 es.length ++ u16 (j.rejected - j.log.length) ++ (es.map RejectEntry.bytes).flatten

/-- SUBMIT-JOB (R24, R23). -/
def Job.submitBytes (j : Job) : List Byte :=
  u16 j.number ++ u8 j.state.code ++ u8 (setBits j.holds.toList) ++ u8 j.priority ++ opt8 j.writeLimit
    ++ opt8 j.minWrite ++ opt8 j.readLimit

/-! ### Bays, grants and streams -/

/-- A media report (R3). -/
def MediaReport.bytes (m : MediaReport) : List Byte :=
  u8 (MediaClass.code m.cls) ++ flag m.blank ++ u32 m.capacity ++ u8 m.maxWrite ++ u8 m.maxRead

/-- A ledger entry (R89). -/
def Grant.bytes (g : Grant) : List Byte :=
  u8 g.kind.code ++ u8 (MediaClass.code g.cls) ++ u8 g.step ++ u16 g.rate ++ u8 g.phase.code

/-- A wait-queue entry with its position, 1 at the head (R89). -/
def WaitEntry.bytes (position : Nat) (w : WaitEntry) : List Byte :=
  u8 position ++ u8 w.kind.code ++ u8 (MediaClass.code w.cls) ++ u8 w.requested ++ opt8 w.minimum ++ u8 w.passes ++ flag w.blocking

/-- What a bay holds in the RGU (R89). The byte in front that tells the three cases apart, 1 for a ledger entry, 2 for a
wait-queue entry and 0 for neither, is the model's (notes/assumptions/21.md). -/
def State.rguBytes (s : State) (n : BayId) : List Byte :=
  match s.grant n with
  | some g => u8 1 ++ g.bytes
  | none =>
    match s.rgu.queue.find? (fun w => w.bay == n) with
    | some w => u8 2 ++ w.bytes (s.rgu.queue.findIdx (fun w => w.bay == n) + 1)
    | none => u8 0

/-- A stream (R104). -/
def Stream.bytes (x : Stream) : List Byte :=
  u16 x.image ++ u8 x.kind.code ++ u32 x.next ++ u32 x.stop ++ opt8 x.sampleK ++ u16 x.rate ++ u16 x.credit
    ++ u8 x.inFlight ++ opt32 x.reread

/-- The record at a bay, with the three results of a verify (R132, R133; notes/assumptions/21.md). -/
def discAtBayBytes (p : DiscId × Disc) : List Byte :=
  u8 p.1.val ++ u8 p.2.purpose.code ++ opt16 p.2.job ++ opt16 p.2.attempt ++ u8 (setBits p.2.steps.toList)
    ++ nested MediaReport.bytes p.2.media ++ u8 p.2.pauses ++ u32 p.2.mismatches ++ u32 p.2.marginals
    ++ opt32 p.2.firstMismatch ++ u8 p.2.verdict.code

/-- QUERY-BAY (R132, R133). -/
def State.bayBytes (s : State) (n : BayId) : List Byte :=
  let b := s.bay n
  if b.state = .absent then u8 b.state.code
  else
    u8 b.state.code ++ u8 b.tray.code ++ u8 b.errand.code ++ opt8 (b.offline.map OfflineCause.code) ++ u8 b.faults
      ++ opt16 (b.lastFault.map FaultCode.code) ++ u8 b.fifo.length ++ u8 b.holding.length ++ u32 b.wantCredit
      ++ u32 b.sentBlocks ++ flag b.refillHold ++ flag b.speedPending ++ u8 (setBits b.timers.toList)
      ++ s.rguBytes n ++ nested Stream.bytes (s.stream n) ++ u8 (s.drainingCount n)
      ++ nested discAtBayBytes ((s.discAt (.bay n)).bind (fun d => (s.disc d).map (fun r => (d, r))))
      ++ u8 b.engine.phase.code ++ u32 b.engine.comparePos ++ u32 b.engine.readPos ++ flag b.engine.held
      ++ u8 b.engine.retryAttempt

/-! ### The tower -/

/-- A transport entry (R150). That the entry time is sent in four bytes, modulo 2^32, is the model's
(notes/assumptions/21.md). -/
def Entry.bytes (e : Entry) : List Byte :=
  u8 e.cls.code ++ u8 e.source.code ++ u8 e.dest.code ++ opt8 (e.disc.map Fin.val)
    ++ opt8 (e.purpose.map Purpose.code) ++ opt16 e.job ++ opt16 e.attempt ++ opt16 e.image ++ u32 e.time

/-- The current move: its entry and its progress (R148). -/
def Move.bytes (m : Move) : List Byte := m.entry.bytes ++ u8 m.retries ++ flag m.gripped

/-- The record of an input spindle (R162). That an unknown count is sent as 255 is the model's (notes/assumptions/21.md). -/
def SpindleRec.bytes (r : SpindleRec) : List Byte :=
  u8 r.capacity ++ u8 (declaredClassCode r.cls) ++ opt8 r.count ++ u8 r.state.code ++ u8 r.wrong

/-- The record of OUT or REJ (R162). -/
def BinRec.bytes (r : BinRec) : List Byte := u8 r.capacity ++ u8 r.count ++ u8 r.reserved ++ flag r.full

/-- A slot in use, as R18 lists it for QUERY-TOWER. -/
def slotBytes (p : DiscId × Disc) : List Byte :=
  u8 p.1.val ++ u8 p.2.purpose.code ++ opt16 p.2.job ++ u8 p.2.location.code ++ opt8 (p.2.dest.map Dest.code)
    ++ u8 p.2.verdict.code

/-- The slots in use (R18). That QUERY-TOWER lists them in ascending disc number is the model's (notes/assumptions/21.md). -/
def State.slots (s : State) : List (DiscId × Disc) :=
  allDiscs.filterMap (fun d => (s.disc d).map (fun r => (d, r)))

/-- The station's reservation (R174). The byte in front that tells the three cases apart, 1 for a copy, 2 for a disc number and 0
for none, is the model's (notes/assumptions/21.md). -/
def stationResBytes : Option StationRes → List Byte
  | some (.copy j a) => u8 1 ++ u16 j ++ u16 a
  | some (.disc d) => u8 2 ++ u8 d.val
  | none => u8 0

/-- The station record (R174). That QUERY-TOWER sends all of it for the station state, an unknown ink level as 255 and the print
timer as a flag, is the model's (R173; notes/assumptions/21.md). -/
def Psc.bytes (p : Psc) : List Byte :=
  u8 p.state.code ++ stationResBytes p.reservedFor ++ opt8 (p.step.map PrintStep.code) ++ opt16 p.cacheTag
    ++ opt8 p.ink ++ flag p.inkLow ++ opt8 (p.sense.map SensePending.code) ++ flag p.timer.isSome

/-- The phase, SWEEPING 1 or RUNNING 2, and the sweep progress (R172, R173). That the progress is the code of the place the
sweep has reached, and is sent as absent in RUNNING, is the model's (notes/assumptions/21.md). -/
def Phase.bytes : Phase → List Byte
  | .sweeping .arm => u8 1 ++ opt8 (some Location.arm.code)
  | .sweeping (.bay n) => u8 1 ++ opt8 (some (Location.bay n).code)
  | .sweeping .printer => u8 1 ++ opt8 (some Location.printer.code)
  | .running => u8 2 ++ opt8 none

/-- The arm record, with the disc number held or none (R148, R173). That the current move, a field of it, is sent once, where
R173 lists it with the queue, is the model's (notes/assumptions/21.md). -/
def State.armBytes (s : State) : List Byte :=
  let a := s.tsq.arm
  u8 a.state.code ++ u8 a.position.code ++ opt8 (a.lastCmd.map ArmCmd.code) ++ flag a.trayReady
    ++ opt8 (a.fault.map ArmFault.code) ++ opt8 ((s.discAt .arm).map Fin.val)

/-- The wait queue, from the head (R89). -/
def waitBytes : (position : Nat) → List WaitEntry → List Byte
  | _, [] => []
  | k, w :: ws => w.bytes k ++ waitBytes (k + 1) ws

/-- The grant totals and the wait queue (R89). -/
def State.grantBytes (s : State) : List Byte :=
  u32 s.sst.working.budget ++ u16 s.sst.working.reserve ++ u32 s.sst.working.ceiling ++ u32 s.rgu.committedWrite
    ++ u32 s.rgu.committedTotal ++ u8 s.rgu.queue.length ++ waitBytes 1 s.rgu.queue

/-- The artwork transfer record (R102). -/
def Transfer.bytes (x : Transfer) : List Byte :=
  u16 x.image ++ u16 x.length ++ u16 x.next ++ u8 x.inFlight ++ opt16 x.reread

/-- QUERY-TOWER (R173). -/
def State.towerBytes (s : State) : List Byte :=
  u8 s.tsq.resetCause.code ++ s.tsq.phase.bytes ++ u8 s.tsq.door.code ++ s.armBytes
    ++ opt8 (s.tsq.tenure.map Fin.val) ++ u16 s.sst.working.tenureMs ++ nested Move.bytes s.tsq.arm.move
    ++ listOf Entry.bytes s.tsq.queue ++ s.tsq.inA.bytes ++ s.tsq.inB.bytes ++ s.tsq.out.bytes ++ s.tsq.rej.bytes
    ++ listOf slotBytes s.slots ++ s.psc.bytes ++ s.grantBytes ++ nested Transfer.bytes s.fdr.artwork

/-! ### Notices and settings -/

/-- A booking: event kind, scope with ALL as 0, tag, action (R195). -/
def Booking.bytes (b : Booking) : List Byte :=
  u8 b.kind.code ++ u16 (b.scope.getD 0) ++ u16 b.tag ++ u8 b.action.code

/-- The results of FETCH-NOTICE: the notice, the overflow flag as it stood, and the notices left (11.2). With NONE the
booking tag is sent as absent (notes/assumptions/53.md). -/
def noticeBytes (x : Option Notice) (overflow : Bool) (left : Nat) : List Byte :=
  match x with
  | some x =>
    u8 1 ++ flag overflow ++ u8 x.kind.code ++ u16 x.tag ++ u16 x.subject.code ++ u32 x.detail.code ++ u8 left
  | none => u8 0 ++ flag overflow ++ u8 0 ++ u16 65535 ++ u16 65535 ++ u32 4294967295 ++ u8 left

/-- The state of a port after SET-ATTENTION (R200); enabled 1, disabled 2; ATTN is sent as a flag, 1 asserted and 0 low
(notes/assumptions/21.md). DESIGN CHOICE: the eight booking slots are eight fields, each free or a booking, with no count byte
before them (notes/assumptions/69.md). -/
def Port.attentionBytes (p : Port) (rights : Nat) : List Byte :=
  u8 (if p.attention then 1 else 2) ++ flag p.attn ++ u8 p.notices.length ++ flag p.overflow ++ u16 p.frameErrors
    ++ u8 rights ++ (p.bookings.toList.map (nested Booking.bytes)).flatten

/-- The sixteen items in order (11.3). -/
def Settings.items (x : Settings) : List Nat :=
  [x.budget, x.reserve, x.memoryGiB, x.fitted, x.pauseLimit, x.starveMs, x.quarantine, x.tenureMs, x.capA, x.capB,
    x.capOut, x.capRej, x.rights0, x.rights1, x.rights2, x.rights3]

/-- READ-SETTINGS (R202). DESIGN CHOICE: no count byte stands before the sixteen items (notes/assumptions/69.md). -/
def Sst.bytes (x : Sst) : List Byte :=
  (x.working.items.map u32).flatten ++ flag x.unsaved ++ flag x.defaulted ++ flag x.save.isSome ++ u16 x.number

end Sys2Proof.Machine
end

