-- ==== Sys2Proof/Machine/Links.lean ====
section
/-! DEFINITION. The ports of the Client Link Unit: the byte handshake (R190, R191), the frame assembler (R192), the frame
check (R193) and the way a request of the table reaches its owner (notes/assumptions/1.md). -/

namespace Sys2Proof.Machine

/-! ### Replies -/

/-- The reply of a port's request is placed in the reply buffer, and the port enters REPLYING (R191). -/
def Port.answer (kind tag : Nat) (a : Answer) (p : Port) : Port :=
  { p with phase := .replying, reply := replyBytes kind tag a, frame := [], taken := 0, waiting := false, gap := none }

/-- Answer a port. -/
def State.answer (p : PortId) (kind tag : Nat) (a : Answer) (s : State) : State := s.modPort p (Port.answer kind tag a)

/-- The tag of the frame a port holds. -/
def Port.frameTag (p : Port) : Nat := be16 (p.frame.getD 3 0) (p.frame.getD 4 0)

/-- Answer a port whose request waited on a mechanism (R193). -/
def State.answerWaiting (p : PortId) (kind : Nat) (a : Answer) (s : State) : State :=
  if (s.port p).waiting then s.answer p kind (s.port p).frameTag a else s

/-! ### The frame check -/

/-- The length of the frame in hand. -/
def Port.frameLength (p : Port) : Nat := be16 (p.frame.getD 0 0) (p.frame.getD 1 0)

/-- The kind of the frame in hand. -/
def Port.frameKind (p : Port) : Nat := (p.frame.getD 2 0).toNat

/-- The first test of R193 that a complete frame fails. -/
def State.frameFault (s : State) (p : PortId) : Option Reason :=
  let x := s.port p
  if x.frameLength < 3 ∨ Config.frameBytes < x.frameLength then some .badFrame
  else if x.frameKind = 0 ∨ 29 < x.frameKind then some .unknownRequest
  else if !paramCountOk x.frameKind (x.frame.drop 5) then some .badFrame
  else if !s.mayRequest p x.frameKind then some .noRight
  else none

/-- A complete frame is checked; one that fails is answered at once, one that passes stays with its owner (R193). -/
def State.frameCheck (p : PortId) (s : State) : State :=
  let x := s.port p
  let s := s.modPort p (fun y => { y with phase := .atOwner, gap := none, waiting := false })
  match s.frameFault p with
  | some why =>
    let kind := if x.frameLength = 0 then 0 else x.frameKind
    let tag := if x.frameLength < 3 then 0 else x.frameTag
    s.answer p kind tag (.refused why [])
  | none => s

/-! ### Bytes in and out -/

/-- The port has taken a byte into its frame assembler; bytes beyond 1,024 after the length are counted and not kept
(R192). -/
def Port.assemble (b : Byte) (p : Port) : Port :=
  { p with
    phase := .assembling
    frame := if p.taken < Config.frameBytes + 2 then p.frame ++ [b] else p.frame
    taken := p.taken + 1, gap := some Config.byteGapMs }

/-- The frame is complete (R192). -/
def Port.complete (p : Port) : Bool := decide (2 ≤ p.taken) && p.taken == p.frameLength + 2

/-- The port takes a byte (R192). -/
def State.takeByte (p : PortId) (b : Byte) (s : State) : State :=
  let s := s.modPort p (Port.assemble b)
  if (s.port p).complete then s.frameCheck p else s

/-- A PUT strobe (R190). -/
def State.putByte (p : PortId) (b : Byte) (s : State) : State :=
  let x := s.port p
  if x.inFull then s
  else
    match x.phase with
    | .idle | .assembling => s.takeByte p b
    | .atOwner | .replying => s.modPort p (fun y => { y with latch := some b })

/-- The last byte of the reply has been taken: IDLE, and a waiting byte begins a frame (R191, R190). -/
def State.replyTaken (p : PortId) (s : State) : State :=
  let b := (s.port p).latch
  let s := s.modPort p (fun y => { y with phase := .idle, latch := none, frame := [], taken := 0, gap := none })
  match b with
  | some b => s.takeByte p b
  | none => s

/-- A TAKE strobe (R191). -/
def State.takeStrobe (p : PortId) (s : State) : State :=
  match (s.port p).reply with
  | [] => s
  | [_] => (s.modPort p (fun y => { y with reply := [] })).replyTaken p
  | _ :: rest => s.modPort p (fun y => { y with reply := rest })

/-! ### Requests -/

/-- The port's owner has this very request and has not answered it. -/
def Port.holdsRequest (p : Port) (frame : List Byte) : Bool := p.phase == .atOwner && !p.waiting && p.frame == frame

/-- A client on this port is free to send a whole frame: nothing is under way but bytes of a reply, which it takes
first. -/
def Port.free (p : Port) : Bool := (p.phase == .idle || p.phase == .replying) && p.latch.isNone

/-- The frame arrives whole at a free port and is checked (R192, R193). -/
def State.sendFrame (p : PortId) (frame : List Byte) (s : State) : State :=
  (s.modPort p (fun y => { y with reply := [], frame := frame, taken := frame.length, gap := none })).frameCheck p

/-- A request of the table reaches the part: the one the port holds, or one that a free port is sent whole. The owner
runs when the frame check has passed it (notes/assumptions/1.md). -/
def request (p : PortId) (kind tag : Nat) (params : List Byte) (owner : State → State) (s : State) : State :=
  let frame := requestFrame kind tag params
  let s := s.begin
  if (s.port p).holdsRequest frame then (owner s).settle
  else if (s.port p).free then
    let s := s.sendFrame p frame
    if (s.port p).holdsRequest frame then (owner s).settle else s
  else s

/-- A request whose owner answers within the step: the owner gives the new state and the answer. -/
def requestNow (p : PortId) (kind tag : Nat) (params : List Byte) (owner : State → State × Answer) (s : State) : State :=
  request p kind tag params (fun s =>
    let (t, a) := owner s
    t.answer p kind tag a) s

/-- A request that reads and changes nothing. -/
def requestRead (p : PortId) (kind tag : Nat) (params : List Byte) (owner : State → Answer) (s : State) : State :=
  requestNow p kind tag params (fun s => (s, owner s)) s

/-- The owner refuses, and nothing changes (R193). -/
def refuse (why : Reason) (s : State) : State × Answer := (s, .refused why [])

end Sys2Proof.Machine
end

