-- ==== Sys2Proof/Machine/TowerRequests.lean ====
section
/-! DEFINITION. The requests on the mechanisms: QUERY-BAY, BAY-OFFLINE, BAY-ONLINE (R128, R129, R132), SET-SPINDLE,
SPINDLE-EMPTIED, ARM-RESUME, CLEAR-TOWER, QUERY-TOWER (R164, R166, R170, R171, R173) and PRINTER-SERVICED (R186). -/

namespace Sys2Proof.Machine

/-! ### Bays -/

/-- QUERY-BAY at the bay (R132). -/
def ownQueryBay (bay : Nat) (s : State) : Answer :=
  match bayOf bay with
  | some n => .good (s.bayBytes n)
  | none => .refused .badParameter []

/-- QUERY-BAY (R132). -/
def execQueryBay (p : PortId) (tag bay : Nat) (s : State) : Host.Outcome State Fault Refusal :=
  .next (requestRead p 14 tag (u8 bay) (ownQueryBay bay) s)

/-- The results of BAY-OFFLINE: the state, and EFFECTIVE 1 or PENDING 2 (R128). -/
def State.offlineBytes (s : State) (n : BayId) : List Byte :=
  u8 (s.bay n).state.code ++ u8 (if (s.bay n).state = .offline then 1 else 2)

/-- BAY-OFFLINE at the bay (R128, R127). -/
def ownBayOffline (bay : Nat) (s : State) : State × Answer :=
  match bayOf bay with
  | none => refuse .badParameter s
  | some n =>
    let b := s.bay n
    if b.state = .absent then refuse .wrongState s
    else if b.state = .offline ∨ b.offline.isSome then (s, .good (s.offlineBytes n))
    else
      let s := s.modBay n (fun b => { b with offline := some .client })
      let s := (s.offlineCheck n).spareOffline n
      (s, .good (s.offlineBytes n))

/-- BAY-OFFLINE (R128). -/
def execBayOffline (p : PortId) (tag bay : Nat) (s : State) : Host.Outcome State Fault Refusal :=
  .next (requestNow p 15 tag (u8 bay) (ownBayOffline bay) s)

/-- The CLEAR of a disc that a bay keeps as it leaves FAULT; a master whose outcome has not arrived waits for it (R129). -/
def State.onlineClear (n : BayId) (s : State) : State :=
  if (s.recAt (.bay n)).any (fun r => r.purpose == .master && r.verdict == .pending) then s else s.clearFromBay n

/-- What BAY-ONLINE makes of a bay's state (R129). -/
def State.bringOnline (n : BayId) (s : State) : State :=
  match (s.bay n).state with
  | .offline => (s.bayTo n .empty).dueBoth
  | .fault =>
    if (s.discAt (.bay n)).isSome then ((s.bayTo n .holding).onlineClear n).dueBoth else (s.bayTo n .empty).dueBoth
  | _ => s

/-- BAY-ONLINE at the bay (R129). -/
def ownBayOnline (bay : Nat) (s : State) : State × Answer :=
  match bayOf bay with
  | none => refuse .badParameter s
  | some n =>
    if (s.bay n).state = .absent then refuse .wrongState s
    else
      let s := (s.modBay n (fun b => { b with faults := 0, offline := none })).bringOnline n
      (s, .good (u8 (s.bay n).state.code))

/-- BAY-ONLINE (R129). -/
def execBayOnline (p : PortId) (tag bay : Nat) (s : State) : Host.Outcome State Fault Refusal :=
  .next (requestNow p 16 tag (u8 bay) (ownBayOnline bay) s)

/-! ### Spindles and bins -/

/-- SET-SPINDLE sets the record; a spindle that turns EMPTY by it is treated as R163 gives, and the hold causes are
evaluated (R164, R28). -/
def State.setSpindle (x : Spindle) (c : Option MediaClass) (count : Option Nat) (s : State) : State :=
  let was := (s.spindle x).state
  let kept := count.map (fun k => min k (s.spindle x).capacity)
  let s := s.modSpindle x (fun r =>
    { r with cls := c, count := kept, wrong := 0, state := if kept = some 0 then .empty else .normal })
  let s := if kept = some 0 ∧ was ≠ .empty then s.turnEmpty x else s
  s.evalSpindles.clearSuspectHolds.dueBoth

/-- SET-SPINDLE at the TSQ (R164). -/
def ownSetSpindle (spindle cls count : Nat) (s : State) : State × Answer :=
  match spindleOf spindle, declaredClassOf cls, spindleCountOf count with
  | some x, some c, some k =>
    let s := s.setSpindle x c k
    (s, .good (s.spindle x).bytes)
  | _, _, _ => refuse .badParameter s

/-- SET-SPINDLE (R164). -/
def execSetSpindle (p : PortId) (tag spindle cls count : Nat) (s : State) : Host.Outcome State Fault Refusal :=
  .next (requestNow p 17 tag (u8 spindle ++ u8 cls ++ u8 count) (ownSetSpindle spindle cls count) s)

/-- SPINDLE-EMPTIED at the TSQ (R166). -/
def ownSpindleEmptied (place : Nat) (s : State) : State × Answer :=
  match place with
  | 3 =>
    let t : State := { s with tsq.out.count := 0, tsq.out.full := false }
    (t.dueSelect, .good (u8 0 ++ u8 t.tsq.out.reserved))
  | 4 =>
    let t : State := { s with tsq.rej.count := 0, tsq.rej.full := false }
    (t.dueSelect, .good (u8 0 ++ u8 t.tsq.rej.reserved))
  | _ => refuse .badParameter s

/-- SPINDLE-EMPTIED (R166). -/
def execSpindleEmptied (p : PortId) (tag place : Nat) (s : State) : Host.Outcome State Fault Refusal :=
  .next (requestNow p 18 tag (u8 place) (ownSpindleEmptied place) s)

/-! ### The arm -/

/-- HOME is sent and the arm enters HOMING (R168, R170, R171). -/
def State.goHome (s : State) : State := (s.armTo .homing).sendMotion .home

/-- ARM-RESUME at the TSQ (R170). -/
def ownArmResume (s : State) : State × Answer :=
  if s.tsq.arm.state ≠ .fault ∨ s.tsq.door = .opened then refuse .wrongState s
  else
    let t : State := { s with tsq.arm.fault := none }
    (t.goHome, .good [])

/-- ARM-RESUME (R170). -/
def execArmResume (p : PortId) (tag : Nat) (s : State) : Host.Outcome State Fault Refusal :=
  .next (requestNow p 19 tag [] ownArmResume s)

/-! ### CLEAR-TOWER -/

/-- CLEAR-TOWER at the Feeder and the RGU: every stream closes, and the ledger and the wait queue are emptied with no scan
(R104, R87). -/
def State.clearFeeds (s : State) : State :=
  let s := forEach allBays State.closeStream s
  { s with rgu := {} }

/-- CLEAR-TOWER stops a bay's operation (R130); the errand is over, and a tray motion goes on with its timer
(notes/assumptions/20.md). -/
def State.clearBayWork (n : BayId) (s : State) : State :=
  if (s.bay n).state = .absent then s
  else (s.teardown n true).modBay n (fun b => { b with errand := .none })

/-- CLEAR-TOWER rejects the PENDING records at the bays, the arm and the printer tray, but for a master in a bay (R130,
R171, R187), in ascending disc number (R33). -/
def State.clearDisc (d : DiscId) (s : State) : State :=
  if (s.disc d).any (fun r => r.purpose != .master || r.location == .arm) then s.writeVerdict d (some .cleared) else s

/-- The state of a bay after CLEAR-TOWER (R130). A pending offline takes effect in it as soon as R127 allows
(notes/assumptions/56.md). -/
def State.clearBayState (n : BayId) (s : State) : State :=
  match (s.bay n).state with
  | .absent | .offline | .holding => s
  | .fault => s.offlineCheck n
  | _ =>
    if (s.discAt (.bay n)).isSome then s.bayTo n .holding else (s.bayTo n .empty).offlineCheck n

/-- A master at a bay reports its read failed (R130, R68). -/
def State.clearMaster (n : BayId) (s : State) : State :=
  match s.recAt (.bay n) with
  | some r =>
    match r.purpose, r.verdict, r.image with
    | .master, .pending, some i => s.reportFailed i .aborted
    | _, _, _ => s
  | none => s

/-- CLEAR-TOWER at the station (R187); a sweep's sense is over, for the sweep starts again (notes/assumptions/20.md). -/
def State.clearStation (s : State) : State :=
  let s : State := { s with psc.reservedFor := none }
  let s : State :=
    if s.psc.sense = some .sweep then
      { s with psc.sense := none, psc.timer := if s.psc.state = .printing then s.psc.timer else none }
    else s
  match s.psc.state with
  | .loaded =>
    let s := s.withdrawArtwork
    { s with psc.step := some .leaving, psc.timer := if s.psc.sense.isSome then s.psc.timer else none }
  | .reserved => s.stationTo .vacant
  | _ => s

/-- CLEAR-TOWER at the TSQ: the arm is halted, the current move and the queue are dropped with every reservation, and
tenure ends (R171, steps 1, 3 and 4). -/
def State.clearTransport (s : State) : State :=
  let s := if s.tsq.arm.state = .stopped then s else s.toArm .halt
  { s.motionEnds with
    tsq.arm.fault := none, tsq.arm.move := none, tsq.arm.trayReady := false, tsq.queue := [], tsq.tenure := none
    tsq.out.reserved := 0, tsq.rej.reserved := 0 }

/-- CLEAR-TOWER at the JSC: no load is pending, no reservation held, no master-read request assigned and no spare hold
running; each live job gains CLEARED, and every job is tested (R46). -/
def State.clearJobs (s : State) : State :=
  let t : State := { s with jsc.jobs := s.jsc.jobs.map (fun (j : Job) => { j with loads := 0 })
                            jsc.spareHold := Vector.replicate 12 none }
  let s := forEach allBays State.dropBayRes t
  let s := forEach ((s.jsc.masters.filter (fun q => q.assigned)).map MasterReq.image) State.unassignMaster s
  let s := forEach (s.jsc.jobs.map Job.number) (State.addHold .cleared) s
  forEach (s.jsc.jobs.map Job.number) State.terminalTest s

/-- The sweep starts: HOME with the door closed, STOPPED with it open (R171, step 5). -/
def State.startSweep (s : State) : State := if s.tsq.door = .closed then s.goHome else s.armTo .stopped

/-- CLEAR-TOWER (R171). The Feeder, the RGU and the bays take their events in that order. No CLEAR that a bay would queue
for its master stands: the bays queue none (R130). -/
def State.clearTower (s : State) : State :=
  let s := (s.sweepTo .arm).clearFeeds
  let s := forEach allBays State.clearBayWork s
  let s := s.clearTransport
  let s := forEach allDiscs State.clearDisc s
  let s := forEach allBays State.clearBayState s.clearStation
  let s := forEach allBays State.clearMaster s
  let s : State := { s with tsq.queue := [] }
  s.clearJobs.startSweep

/-- CLEAR-TOWER (R171). -/
def execClearTower (p : PortId) (tag : Nat) (s : State) : Host.Outcome State Fault Refusal :=
  .next (requestNow p 20 tag [] (fun s => (s.clearTower, .good [])) s)

/-- QUERY-TOWER (R173). -/
def execQueryTower (p : PortId) (tag : Nat) (s : State) : Host.Outcome State Fault Refusal :=
  .next (requestRead p 21 tag [] (fun s => .good s.towerBytes) s)

/-! ### The station -/

/-- PRINTER-SERVICED at the station: refused at once, or the sense begins and the port waits for it (R186), in a sweep
after a reset as at any time (notes/assumptions/57.md). -/
def ownPrinterServiced (p : PortId) (tag : Nat) (s : State) : State :=
  if s.psc.state ≠ .inkOut ∧ s.psc.state ≠ .jammed then s.answer p 22 tag (.refused .wrongState [])
  else if s.psc.sense.isSome then s.answer p 22 tag (.refused .busy [])
  else
    let t : State := { s with
      psc.cacheTag := none, psc.sense := some .service, psc.timer := some Config.printMs, psc.servicePort := some p }
    (t.toPrinter .traySense).modPort p (fun x => { x with waiting := true })

/-- PRINTER-SERVICED (R186). -/
def execPrinterServiced (p : PortId) (tag : Nat) (s : State) : Host.Outcome State Fault Refusal :=
  .next (request p 22 tag [] (ownPrinterServiced p tag) s)

end Sys2Proof.Machine
end

