-- ==== Sys2Proof/Machine/ArmEvents.lean ====
section
/-! DEFINITION. The door line (R167, R168) and what the motion board sends (R149, R154 to R160, R168, R169, R172). An answer
that does not answer the motion outstanding is discarded (R149). -/

namespace Sys2Proof.Machine

/-! ### The door -/

/-- The states in which the door stops the arm (R167). -/
def ArmState.halts : ArmState → Bool
  | .homing | .toSource | .picking | .toDest | .placing | .parked => true
  | .stopped | .fault => false

/-- The arm is halted for the door (R167). -/
def State.stopArm (s : State) : State :=
  if s.tsq.arm.state.halts then ((s.toArm .halt).motionEnds).armTo .stopped else s

/-- The door opens (R167). -/
def State.doorOpens (s : State) : State :=
  let t : State := { s with tsq.door := .opened }
  t.stopArm.deliver { kind := .doorOpen, subject := .none, detail := .none }

/-- The door line changes to open; a line that was open has not changed (R167, notes/assumptions/39.md). -/
def execDoorLineOpen (s : State) : Host.Outcome State Fault Refusal :=
  let s := s.begin
  .next (if s.tsq.door = .closed then s.doorOpens else s).settle

/-- The door closes (R168). -/
def State.doorCloses (s : State) : State :=
  let t : State := { s with tsq.door := .closed }
  if t.tsq.arm.state = .stopped then t.goHome else t

/-- The door line changes to closed; a line that was closed has not changed (R168, notes/assumptions/39.md). -/
def execDoorLineClosed (s : State) : Host.Outcome State Fault Refusal :=
  let s := s.begin
  .next (if s.tsq.door = .opened then s.doorCloses else s).settle

/-! ### Travel -/

/-- The arm has reached a position (R149, R154, R158). A move given up on the way parks the arm (R154). -/
def State.armArrived (p : Position) (s : State) : State :=
  let t : State := { s.motionEnds with tsq.arm.position := p }
  match t.tsq.arm.state with
  | .toSource => if t.tsq.arm.move.isNone then t.park else t.tryGrip
  | .toDest => t.tryRelease
  | _ => t

/-- ARRIVED (R154, R158). -/
def execArrived (s : State) : Host.Outcome State Fault Refusal :=
  let s := s.begin
  .next (match s.tsq.arm.motion with
    | some (.goto p) => s.armArrived p
    | _ => s).settle

/-! ### Grips -/

/-- The spindle that a move takes its disc from. -/
def State.gripsAt (s : State) : Option Spindle :=
  match s.tsq.arm.move with
  | some m =>
    match m.entry.source with
    | .spindle x => some x
    | _ => none
  | none => none

/-- The answer to a GRIP, by whether the place is a spindle (R155 to R157). -/
def State.gripAnswer (atSpindle : Spindle → State → State) (elsewhere : State → State) (s : State) : State :=
  let s := s.motionEnds
  match s.gripsAt with
  | some x => atSpindle x s
  | none => elsewhere s

/-- GRIPPED (R155, R157). -/
def execGripped (s : State) : Host.Outcome State Fault Refusal :=
  let s := s.begin
  .next (if s.tsq.arm.motion = some .grip then s.gripAnswer State.gripSpindle State.gripPlace else s).settle

/-- GRIP-EMPTY (R155, R157). -/
def execGripEmpty (s : State) : Host.Outcome State Fault Refusal :=
  let s := s.begin
  .next (if s.tsq.arm.motion = some .grip then s.gripAnswer State.gripEmptySpindle (State.armFault .senseDisagree)
    else s).settle

/-- GRIP-DOUBLE (R156, R157). -/
def execGripDouble (s : State) : Host.Outcome State Fault Refusal :=
  let s := s.begin
  .next (if s.tsq.arm.motion = some .grip then s.gripAnswer State.gripDoubleSpindle (State.armFault .senseDisagree)
    else s).settle

/-! ### Releases -/

/-- RELEASED, at the destination or at a spindle in a double-pick retry (R160, R156). -/
def State.armReleased (s : State) : State :=
  let s := s.motionEnds
  match s.tsq.arm.state with
  | .placing => s.placeReleased
  | .picking => s.retryReleased
  | _ => s

/-- RELEASED (R160, R156). -/
def execReleased (s : State) : Host.Outcome State Fault Refusal :=
  let s := s.begin
  .next (if s.tsq.arm.motion = some .release then s.armReleased else s).settle

/-! ### Home -/

/-- HOMED, taken by the sweep or as a recovery (R149, R168, R172). A sweep that has passed the arm applies R7 to the arm
again, which is then PARKED, and stays where it is (R168, R17; notes/assumptions/30.md). -/
def State.armHomed (holding : Bool) (s : State) : State :=
  let t : State := { s.motionEnds with tsq.arm.position := .home }
  match t.tsq.phase with
  | .sweeping .arm => t.sweepArm holding
  | .sweeping _ => (t.reconcile .arm holding).armTo .parked
  | .running => t.recover holding

/-- HOMED (R168, R172). -/
def execHomed (holding : Bool) (s : State) : Host.Outcome State Fault Refusal :=
  let s := s.begin
  .next (if s.tsq.arm.motion = some .home then s.armHomed holding else s).settle

/-! ### Faults -/

/-- MOTION-FAULT; one taken in FAULT is discarded (R149, R169). -/
def execMotionFault (s : State) : Host.Outcome State Fault Refusal :=
  let s := s.begin
  .next (if s.tsq.arm.state = .fault then s else s.armFault .motionFault).settle

/-- The arm motion timer expires (R169). -/
def execArmMotionTimerExpiry (s : State) : Host.Outcome State Fault Refusal :=
  let s := s.begin
  .next (if s.tsq.arm.timer.isSome then s.armFault .timeout else s).settle

end Sys2Proof.Machine
end

