-- ==== Sys2Proof/Machine/BayEvents.lean ====
section
/-! DEFINITION. What the bay bridges send, and the timers of the bays (Section 6 and Section 7): trays (R107, R108, R131),
probes (R110, R111, R123, R124, R67), speed reports (R112), burns (R113 to R116, R120), read-back in a verify (R137, R139,
R144, R145) and in a master read (R125), faults (R121) and expiries (R109, R140). A message that its bay's state gives no
meaning is discarded (R106). -/

namespace Sys2Proof.Machine

/-- The greatest want credit (R105). -/
def wantLimit : Nat := 4194304

/-- Set the timers of a bay. -/
def State.modTimers (n : BayId) (f : BayTimers → BayTimers) (s : State) : State :=
  s.modBay n (fun b => { b with timers := f b.timers })

/-! ### Trays -/

/-- The bay sends PROBE and enters PROBING (R110). -/
def State.startProbe (n : BayId) (s : State) : State :=
  (s.toBay n .probe).modBay n (fun b => { b with state := .probing, timers.probe := some Config.probeMs })

/-- The tray has closed over a MASTER (R124). -/
def State.closedMaster (n : BayId) (d : DiscId) (r : Disc) (s : State) : State :=
  if (r.image.bind s.image?).all (fun x => x.state == .lost) then (s.writeVerdict d (some .imageLost)).hold n
  else s.startProbe n

/-- The tray has closed after a placement (R107, R124; for a copy or spare rejected meanwhile,
notes/assumptions/17.md). -/
def State.closedPlace (n : BayId) (s : State) : State :=
  match s.discAt (.bay n) with
  | some d =>
    match s.disc d with
    | some r =>
      if r.purpose = .master then s.closedMaster n d r
      else if r.verdict = .pending then s.startProbe n
      else s.hold n
    | none => s
  | none => s.idleBay n

/-- The tray has closed after a pick (R108). -/
def State.closedPick (n : BayId) (s : State) : State :=
  if (s.discAt (.bay n)).isSome then s.hold n else s.idleBay n

/-- The tray has closed, and an errand of the arm is over; a bay in FAULT stays there (R108). -/
def State.errandOver (n : BayId) (e : Errand) (s : State) : State :=
  let s := s.modBay n (fun b => { b with errand := .none })
  if (s.bay n).state = .fault then (s.offlineCheck n).dueBoth
  else
    match e with
    | .place => s.closedPlace n
    | .pick => s.closedPick n
    | _ => s

/-- A bay at which the sweep waits goes on to sense, whatever motion it had to wait for (R131). -/
def State.sensesNext (s : State) (n : BayId) : Bool := s.sweepAtBay n && (s.senseNow n).isNone

/-- A tray motion finishes (R107, R108, R131). -/
def State.trayFinished (n : BayId) (s : State) : State :=
  let b := s.bay n
  let s := s.modBay n (fun b => { b with tray := if b.traysIn then .closed else .opened, timers.tray := none })
  if s.sensesNext n then s.startSense n
  else if b.traysIn then s.errandOver n b.errand
  else if b.errand = .place ∨ b.errand = .pick then s.trayIsReady n
  else s

/-- TRAY-DONE by the tray: it ends a motion in hand; of a motion whose errand has failed it stops the timer alone
(notes/assumptions/52.md). -/
def State.trayDone (n : BayId) (s : State) : State :=
  if (s.bay n).tray = .moving then s.trayFinished n
  else if (s.bay n).timers.tray.isSome then s.modTimers n (fun t => { t with tray := none })
  else s

/-- TRAY-DONE (R107, R108). -/
def execTrayDone (n : BayId) (s : State) : Host.Outcome State Fault Refusal :=
  let s := s.begin
  .next (if (s.bay n).state ≠ .absent ∧ (s.bay n).state ≠ .offline then s.trayDone n else s).settle

/-! ### Probes -/

/-- Write the media report of a record (R10). -/
def State.writeMedia (d : DiscId) (m : MediaReport) (s : State) : State := s.modDisc d (fun r => { r with media := some m })

/-- The bay hands the TSQ the class test of a copy that came from a spindle (R111). -/
def State.handClassTest (r : Disc) (j : Job) (m : MediaReport) (s : State) : State :=
  match r.source with
  | some x => s.classTest x (decide (m.cls = j.cls))
  | none => s

/-- The reject of a copy's probe, the first case of R110 that applies. -/
def probeReject (m : MediaReport) (j : Job) (length : Nat) : Option RejectCause :=
  if m.blank = false then some .notBlank
  else if m.cls ≠ j.cls then some .wrongMedia
  else if m.capacity < length then some .tooSmall
  else none

/-- The probe of a copy found media (R110, R111, R112). A reject makes no teardown: the want credit and the count of blocks
sent stay as they are (notes/assumptions/43.md). -/
def State.probedCopy (n : BayId) (d : DiscId) (r : Disc) (m : MediaReport) (s : State) : State :=
  match s.jobOf r with
  | some j =>
    let s := (s.writeMedia d m).handClassTest r j m
    match probeReject m j (s.copyLength r) with
    | some c => (s.verdict d (some c)).hold n
    | none => s.towardGrant n .write
  | none => s

/-- The probe of a spare found media (R123). -/
def State.probedSpare (n : BayId) (d : DiscId) (m : MediaReport) (s : State) : State :=
  let s := s.writeMedia d m
  if m.blank then s.bayToSpare n else (s.writeVerdict d (some .notBlank)).hold n

/-- The bay enters MASTER-READ (R125). -/
def State.startMasterRead (n : BayId) (length : Nat) (s : State) : State :=
  (s.toBay n (.readStart 0 length)).modBay n (fun b =>
    { b with state := .masterRead, masterNext := 0, masterHeld := false, masterReported := false, holding := []
             timers.read := some Config.readInactivityMs })

/-- The catalogue takes the probe of a master (R67): the loss of the image, or the read of the written length. -/
def State.probedMaster (n : BayId) (d : DiscId) (i : Nat) (m : MediaReport) (s : State) : State :=
  let s := s.writeMedia d m
  match s.image? i with
  | some x =>
    if x.state = .lost then s.masterOutcome i false
    else if m.blank = true ∨ m.capacity = 0 then s.imageLost i .blankMaster
    else if x.length < m.capacity then s.imageLost i .tooLarge
    else (s.modImage i (Image.shrink m.capacity)).startMasterRead n m.capacity
  | none => s.masterOutcome i false

/-- The probe found no media: FAULT, with the record LOST; the read of a master has failed (R110, R124). -/
def State.probedNothing (n : BayId) (r : Disc) (s : State) : State :=
  let s := s.bayFault n .noMedia false
  match r.purpose, r.image with
  | .master, some i => s.readFailed i .aborted
  | _, _ => s

/-- The probe of a disc in PROBING is answered (R110, R123, R124). -/
def State.probed (n : BayId) (report : Option MediaReport) (s : State) : State :=
  let s := s.modTimers n (fun t => { t with probe := none })
  match s.discAt (.bay n) with
  | some d =>
    match s.disc d with
    | some r =>
      match report, r.purpose, r.image with
      | none, _, _ => s.probedNothing n r
      | some m, .copy, _ => s.probedCopy n d r m
      | some m, .spare, _ => s.probedSpare n d m
      | some m, .master, some i => s.probedMaster n d i m
      | _, _, _ => s
    | none => s
  | none => s

/-- PROBE-REPORT (R110, R131). -/
def execProbeReport (n : BayId) (report : Option MediaReport) (s : State) : Host.Outcome State Fault Refusal :=
  let s := s.begin
  let b := s.bay n
  .next (if b.errand = .sense ∧ b.timers.probe.isSome = true ∧ s.sweepAtBay n = true then
      (s.modTimers n (fun t => { t with probe := none })).senseAnswer n report.isSome
    else if b.state = .probing then s.probed n report
    else s).settle

/-! ### The speed exchange -/

/-- The bay enters PREFILL (R112). -/
def State.enterPrefill (n : BayId) (s : State) : State :=
  s.modBay n (fun b => { b with state := .prefill, fifo := [], wantCredit := 0, sentBlocks := 0, refillHold := false })

/-- The grant of a bay has settled: the Feeder opens its stream, and the bay goes on (R84, R91, R112). -/
def State.grantSettled (n : BayId) (s : State) : State :=
  let s := s.openStream n
  match (s.bay n).state with
  | .grantWait => s.enterPrefill n
  | .verifyWait => s.startVerify n
  | _ => s

/-- The reported step is handed to the RGU as an adjustment (R112, R83 to R85). -/
def State.speedReported (n : BayId) (step : Nat) (s : State) : State :=
  let s := s.modBay n (fun b => { b with speedPending := false, timers.speed := none })
  match s.adjust n step with
  | (t, .settled _ freed) => if freed then (t.grantSettled n).scan else t.grantSettled n
  | (t, .sentBack) => t.scan
  | (t, .discarded) => t

/-- SPEED-REPORT (R112). -/
def execSpeedReport (n : BayId) (step : Nat) (s : State) : Host.Outcome State Fault Refusal :=
  let s := s.begin
  .next (if (s.bay n).speedPending then s.speedReported n step else s).settle

/-! ### Burns -/

/-- A WANT raises the want credit (R113, R114). -/
def State.addWant (n : BayId) (k : Nat) (s : State) : State :=
  s.modBay n (fun b => { b with wantCredit := saturate wantLimit (b.wantCredit + k) })

/-- WANT (R113, R114). -/
def execWant (n : BayId) (k : Nat) (s : State) : Host.Outcome State Fault Refusal :=
  let s := s.begin
  .next (match (s.bay n).state with
    | .prefill => s.addWant n k
    | .writing => (s.addWant n k).sendBlocks n
    | _ => s).settle

/-- The pause count of the record at a bay (R115). -/
def State.pausesAt (s : State) (n : BayId) : Nat := ((s.recAt (.bay n)).map Disc.pauses).getD 0

/-- Raise the pause count of the record at a bay (R115). -/
def State.countPause (n : BayId) (s : State) : State :=
  match s.discAt (.bay n) with
  | some d => s.modDisc d (fun r => { r with pauses := saturate 255 (r.pauses + 1) })
  | none => s

/-- The starve timer starts unless it runs, and a FIFO below the resume threshold sets refill hold (R115). -/
def State.waitForData (n : BayId) (s : State) : State :=
  s.modBay n (fun b =>
    { b with
      timers.starve := if b.timers.starve.isSome then b.timers.starve else some s.sst.working.starveMs
      refillHold := b.refillHold || decide (b.fifo.length < s.resumeAt n) })

/-- A drive that writes has paused (R115). -/
def State.drivePaused (n : BayId) (s : State) : State :=
  let s := s.countPause n
  if s.sst.working.pauseLimit < s.pausesAt n then s.bayReject n .starved true else s.waitForData n

/-- PAUSED (R115). -/
def execPaused (n : BayId) (s : State) : Host.Outcome State Fault Refusal :=
  let s := s.begin
  .next (if (s.bay n).state = .writing then s.drivePaused n else s).settle

/-- RESUMED (R115). -/
def execResumed (n : BayId) (s : State) : Host.Outcome State Fault Refusal :=
  let s := s.begin
  .next (if (s.bay n).state = .writing then s.modTimers n (fun t => { t with starve := none }) else s).settle

/-- The close has finished (R116). -/
def State.burnClosed (n : BayId) (s : State) : State :=
  let mark := (s.bay n).imageLostMark
  let s := s.modBay n (fun b => { b with imageLostMark := false, timers.close := none })
  match s.discAt (.bay n) with
  | some d =>
    let s := s.enterStep d .write
    if mark = true ∧ s.nextStepOf d = some .verify then (s.writeVerdict d (some .imageLost)).hold n
    else s.stepDone n d
  | none => s

/-- BURN-DONE (R116). -/
def execBurnDone (n : BayId) (s : State) : Host.Outcome State Fault Refusal :=
  let s := s.begin
  .next (if (s.bay n).state = .closing then s.burnClosed n else s).settle

/-- BURN-ERROR; its code is not kept (R120). -/
def execBurnError (n : BayId) (_code : Nat) (s : State) : Host.Outcome State Fault Refusal :=
  let s := s.begin
  .next (match (s.bay n).state with
    | .writing | .closing => s.bayReject n .writeFailed false
    | _ => s).settle

/-! ### Read-back in a verify -/

/-- A read-back entry joins the holding buffer; a full buffer holds the drive (R137). -/
def State.holdBlock (n : BayId) (e : HeldBlock) (s : State) : State :=
  let s := s.modBay n (fun b => { b with holding := b.holding ++ [e] })
  if Config.holdingBlocks ≤ (s.bay n).holding.length then
    ((s.toBay n .readHold).modEngine n (fun e => { e with held := true })).readTimer n false
  else s

/-- A READ-BLOCK taken in READING (R137). One beyond the range in hand, or with no place in the buffer, is discarded
(notes/assumptions/28.md). -/
def State.readingBlock (n : BayId) (v : VerifyCtx) (e : HeldBlock) (s : State) : State :=
  let b := s.bay n
  if b.engine.rangeEnd.all (fun x => decide (b.engine.readPos < x)) ∧ b.holding.length < Config.holdingBlocks then
    let s := (s.modEngine n (fun x => { x with readPos := x.readPos + 1 })).readTimer n true
    match b.holding, b.fifo with
    | [], x :: _ => if x.index = b.engine.comparePos then s.judge n v e x else s.holdBlock n e
    | _, _ => s.holdBlock n e
  else s

/-- A READ-BLOCK taken in RE-READ: the first of the attempt is judged against the kept image block (R145). -/
def State.rereadBlock (n : BayId) (e : HeldBlock) (s : State) : State :=
  let b := s.bay n
  let s := s.readTimer n true
  if b.engine.attemptRead then s
  else
    let same := b.fifo.head?.any (fun x => judgesEqual b.engine.comparePos e x)
    s.modEngine n (fun x => { x with attemptRead := true, retryMatched := same })

/-- A READ-BLOCK taken in a verify, by the phase of the engine (R137). -/
def State.verifyBlock (n : BayId) (e : HeldBlock) (s : State) : State :=
  match s.verifyCtx n with
  | some v =>
    match (s.bay n).engine.phase with
    | .reading => s.readingBlock n v e
    | .halting => s.readTimer n true
    | .reread => s.rereadBlock n e
    | .tail | .idle => s
  | none => s

/-- Every range has been read: TAIL, where the entries left wait for their image blocks (R139). -/
def State.enterTail (n : BayId) (v : VerifyCtx) (s : State) : State :=
  ((s.modEngine n (fun x => { x with phase := .tail })).readTimer n false).endTest n v

/-- The next sampled group of a verify is read (R139, R134). -/
def State.nextRange (n : BayId) (v : VerifyCtx) (s : State) : State :=
  let first := nextGroupStart (v.sampleK.getD 1) v.stop (groupOf ((s.bay n).engine.readPos - 1))
  let stop := groupEnd v.stop (groupOf first)
  (s.modEngine n (fun x =>
    { x with readPos := first, rangeEnd := some stop, rangesLeft := x.rangesLeft - 1 })).startRange n first (stop - first)
    .reading

/-- A READ-END taken in READING (R139). The range is over, so giving up sends no READ-HALT (R136;
notes/assumptions/41.md). -/
def State.rangeDone (n : BayId) (v : VerifyCtx) (s : State) : State :=
  let e := (s.bay n).engine
  if e.rangeEnd = some e.readPos then
    let s := (s.modEngine n (fun x => { x with held := false })).readTimer n true
    if 0 < e.rangesLeft then s.nextRange n v else s.enterTail n v
  else (s.modEngine n (fun x => { x with phase := .tail, held := false })).giveUpRead n

/-- The retry block is done, and the read resumes (R145). That retry matched is cleared here, and not first at the next retry
(R144), is the model's (notes/assumptions/66.md). -/
def State.retryDone (n : BayId) (v : VerifyCtx) (s : State) : State :=
  let stop := (s.bay n).engine.rangeEnd.getD 0
  let s := (s.advance n v).modEngine n (fun x => { x with retryAttempt := 0, retryMatched := false })
  let next := (s.bay n).engine.comparePos
  if next < stop then
    (s.modEngine n (fun x => { x with readPos := next })).startRange n next (stop - next) .reading
  else s.enterTail n v

/-- A READ-END taken in RE-READ ends the attempt (R145). -/
def State.attemptDone (n : BayId) (v : VerifyCtx) (s : State) : State :=
  let e := (s.bay n).engine
  if e.retryMatched then
    (s.modDisc v.disc (fun r => { r with marginals := r.marginals + 1 })).retryDone n v
  else if e.retryAttempt < Config.retryReads then
    (s.modEngine n (fun x => { x with retryAttempt := x.retryAttempt + 1 })).startRange n e.comparePos 1 .reread
  else (s.modDisc v.disc (Disc.mismatch e.comparePos 1)).retryDone n v

/-- A READ-END taken in a verify, by the phase of the engine (R139). -/
def State.verifyReadEnd (n : BayId) (s : State) : State :=
  match s.verifyCtx n with
  | some v =>
    match (s.bay n).engine.phase with
    | .reading => s.rangeDone n v
    | .halting => s.startRange n (s.bay n).engine.comparePos 1 .reread
    | .reread => s.attemptDone n v
    | .tail | .idle => s
  | none => s

/-! ### Read-back in a master read -/

/-- A master read stops without its whole length: READ-HALT, and the read has failed (R125). -/
def State.masterReadFails (n : BayId) (i : Nat) (s : State) : State :=
  let s := (s.toBay n .readHalt).modBay n (fun b => { b with masterReported := true, timers.read := none })
  s.reportFailed i .unreadable

/-- A block of a master that came in order: it is held and written, and a full buffer holds the drive (R125). -/
def State.masterBlock (n : BayId) (i : Nat) (e : HeldBlock) (s : State) : State :=
  let s := s.modBay n (fun b =>
    { b with holding := b.holding ++ [e], masterNext := b.masterNext + 1
             timers.read := some Config.readInactivityMs })
  let s := (s.issueMaster { image := i, index := e.index, data := e.data }).smcServe
  if Config.holdingBlocks ≤ (s.bay n).holding.length then
    (s.toBay n .readHold).modBay n (fun b => { b with masterHeld := true })
  else s

/-- A READ-BLOCK taken in a master read (R125). A block at or above the declared length has no place and counts as out of
order; one that finds the buffer full is discarded (notes/assumptions/28.md). -/
def State.masterReadBlock (n : BayId) (e : HeldBlock) (s : State) : State :=
  match s.masterImageAt n with
  | some i =>
    let b := s.bay n
    if b.masterReported then s
    else if e.index = b.masterNext ∧ e.status = .ok ∧ (s.image? i).any (fun x => decide (e.index < x.length)) then
      if b.holding.length < Config.holdingBlocks then s.masterBlock n i e
      else s.modTimers n (fun t => { t with read := some Config.readInactivityMs })
    else s.masterReadFails n i
  | none => s

/-- A READ-END taken in a master read (R125). -/
def State.masterReadEnd (n : BayId) (s : State) : State :=
  match s.masterImageAt n with
  | some i =>
    if (s.bay n).masterReported then s
    else (s.modBay n (fun b => { b with masterReported := true, timers.read := none })).readComplete i
  | none => s

/-- READ-BLOCK (R137, R125). -/
def execReadBlock (n : BayId) (index : Nat) (status : ReadStatus) (data : BlockData) (s : State) :
    Host.Outcome State Fault Refusal :=
  let s := s.begin
  let e : HeldBlock := { index := index, status := status, data := data }
  .next (match (s.bay n).state with
    | .verifying => s.verifyBlock n e
    | .masterRead => s.masterReadBlock n e
    | _ => s).settle

/-- READ-END (R139, R125). -/
def execReadEnd (n : BayId) (s : State) : Host.Outcome State Fault Refusal :=
  let s := s.begin
  .next (match (s.bay n).state with
    | .verifying => s.verifyReadEnd n
    | .masterRead => s.masterReadEnd n
    | _ => s).settle

/-! ### Faults and expiries -/

/-- A fault of a bay that is not ABSENT or OFFLINE, by whether it stands in FAULT already (R121, R109). -/
def State.faultNow (n : BayId) (code : FaultCode) (abort : Bool) (s : State) : State :=
  if (s.bay n).state = .fault then s.bayFaultAgain n code else s.bayFault n code abort

/-- FAULT (R121). -/
def execFault (n : BayId) (code : Nat) (s : State) : Host.Outcome State Fault Refusal :=
  let s := s.begin
  .next (match (s.bay n).state with
    | .absent => s
    | .offline => s.modBay n (fun b => { b with lastFault := some (.bridge code) })
    | _ => s.faultNow n (.bridge code) false).settle

/-- The tray motion timer of a bay expires (R109). -/
def execTrayMotionTimerExpiry (n : BayId) (s : State) : Host.Outcome State Fault Refusal :=
  let s := s.begin
  .next (if (s.bay n).timers.tray.isSome then
      (s.modBay n (fun b => { b with tray := .unknown, timers.tray := none })).faultNow n .trayTimeout false
    else s).settle

/-- The probe timer of a bay expires (R110). -/
def execProbeTimerExpiry (n : BayId) (s : State) : Host.Outcome State Fault Refusal :=
  let s := s.begin
  .next (if (s.bay n).timers.probe.isSome then
      (s.modTimers n (fun t => { t with probe := none })).faultNow n .probeTimeout true
    else s).settle

/-- The speed report timer of a bay expires (R112). -/
def execSpeedReportTimerExpiry (n : BayId) (s : State) : Host.Outcome State Fault Refusal :=
  let s := s.begin
  .next (if (s.bay n).timers.speed.isSome then s.faultNow n .speedTimeout true else s).settle

/-- The burn close timer of a bay expires (R116). -/
def execBurnCloseTimerExpiry (n : BayId) (s : State) : Host.Outcome State Fault Refusal :=
  let s := s.begin
  .next (if (s.bay n).timers.close.isSome then s.faultNow n .closeTimeout true else s).settle

/-- The starve timer of a bay expires (R115). -/
def execStarveTimerExpiry (n : BayId) (s : State) : Host.Outcome State Fault Refusal :=
  let s := s.begin
  .next (if (s.bay n).timers.starve.isSome then s.bayReject n .starved true else s).settle

/-- The drive has been silent too long: a verify gives up, a master read fails (R140, R125). -/
def State.readSilent (n : BayId) (s : State) : State :=
  match (s.bay n).state with
  | .verifying => s.giveUpRead n
  | .masterRead =>
    match s.masterImageAt n with
    | some i => if (s.bay n).masterReported then s else s.masterReadFails n i
    | none => s
  | _ => s

/-- The read inactivity timer of a bay expires (R140, R125). -/
def execReadInactivityTimerExpiry (n : BayId) (s : State) : Host.Outcome State Fault Refusal :=
  let s := s.begin
  .next (if (s.bay n).timers.read.isSome then (s.modTimers n (fun t => { t with read := none })).readSilent n
    else s).settle

/-- The spare hold timer of a bay expires (R44). -/
def execSpareHoldTimerExpiry (n : BayId) (s : State) : Host.Outcome State Fault Refusal :=
  let s := s.begin
  .next (if (s.jsc.spareHold[n]).isSome then s.endSpareHold n else s).settle

end Sys2Proof.Machine
end

