-- ==== Sys2Proof/Machine/ImageRequests.lean ====
section
/-! DEFINITION. The requests of the Image Catalogue: OPEN-IMAGE, SEAL-IMAGE, ABANDON-IMAGE, DELETE-IMAGE, IMAGE-FROM-DISC and
QUERY-IMAGE (R56 to R60, R65). The right that each needs is tested with its frame (R193). -/

namespace Sys2Proof.Machine

/-- The reply of an accepted open: the image number and the extents taken (R56, R65). -/
def openedBytes (i length : Nat) : List Byte := u16 i ++ u16 (extentsFor length)

/-- The two tests of an open against the catalogue: a free entry and enough free extents (R56, R65). -/
def State.openRefusal (s : State) (length : Nat) : Option Reason :=
  if Config.catalogueEntries ≤ s.cat.images.length then some .tableFull
  else if s.cat.freeExtents.length < extentsFor length then some .noSpace
  else none

/-- The greatest declared length of a kind (R56). -/
def ImageKind.maxLength : ImageKind → Nat
  | .disc => Config.maxDiscLength
  | .label => Config.maxLabelLength

/-- OPEN-IMAGE at the catalogue (R56). -/
def ownOpenImage (p : PortId) (kind length flags : Nat) (s : State) : State × Answer :=
  match imageKindOf kind with
  | none => refuse .badParameter s
  | some k =>
    if length = 0 ∨ k.maxLength < length then refuse .badParameter s
    else
      match s.openRefusal length with
      | some why => refuse why s
      | none =>
        let (i, t) := s.openEntry p k length flags .intake
        (t, .good (openedBytes i length))

/-- OPEN-IMAGE (R56). -/
def execOpenImage (p : PortId) (tag kind length flags : Nat) (s : State) : Host.Outcome State Fault Refusal :=
  .next (requestNow p 1 tag (u8 kind ++ u32 length ++ u8 flags) (ownOpenImage p kind length flags) s)

/-- SEAL-IMAGE at the catalogue (R57). -/
def ownSealImage (p : PortId) (image : Nat) (s : State) : State × Answer :=
  match s.image? image with
  | none => refuse .noSuch s
  | some x =>
    if x.owner ≠ p then refuse .notOwner s
    else if x.state ≠ .filling ∨ x.source ≠ .intake then refuse .wrongState s
    else if x.accepted < x.length then (s, .refused .short (u32 x.accepted ++ u32 x.ingested))
    else if x.isSealed then (s, .good (u8 x.state.code))
    else
      let s := s.modImage image (fun y => { y with isSealed := true })
      if x.ingested = x.length then (s.imageReady image, .good (u8 ImageState.ready.code))
      else (s, .good (u8 ImageState.filling.code))

/-- SEAL-IMAGE (R57). -/
def execSealImage (p : PortId) (tag image : Nat) (s : State) : Host.Outcome State Fault Refusal :=
  .next (requestNow p 2 tag (u16 image) (ownSealImage p image) s)

/-- A PROTECTED image is its owner's alone (R49). -/
def Image.mayRemove (x : Image) (p : PortId) : Bool := !x.isProtected || x.owner == p

/-- ABANDON-IMAGE at the catalogue (R58): the reply says whether the entry was freed in the same step. That it says so with
a flag, 1 freed and 0 not, is the model's (notes/assumptions/21.md). -/
def ownAbandonImage (p : PortId) (image : Nat) (s : State) : State × Answer :=
  match s.image? image with
  | none => refuse .noSuch s
  | some x =>
    if !x.mayRemove p then refuse .notOwner s
    else if x.state ≠ .filling then refuse .wrongState s
    else
      let s := s.imageLost image .abandoned
      (s, .good (flag (s.image? image).isNone))

/-- ABANDON-IMAGE (R58). -/
def execAbandonImage (p : PortId) (tag image : Nat) (s : State) : Host.Outcome State Fault Refusal :=
  .next (requestNow p 3 tag (u16 image) (ownAbandonImage p image) s)

/-- The state of an image after a delete, or 255 once it is freed (R59; notes/assumptions/21.md). -/
def State.afterDelete (s : State) (image : Nat) : List Byte := opt8 ((s.image? image).map (fun x => x.state.code))

/-- DELETE-IMAGE at the catalogue (R59). -/
def ownDeleteImage (p : PortId) (image : Nat) (s : State) : State × Answer :=
  match s.image? image with
  | none => refuse .noSuch s
  | some x =>
    if !x.mayRemove p then refuse .notOwner s
    else
      match x.state with
      | .filling | .doomed => refuse .wrongState s
      | .lost =>
        if 0 < x.refs then refuse .inUse s
        else
          let s := s.freeTest image
          (s, .good (s.afterDelete image))
      | .ready =>
        let s := (s.modImage image (fun y => { y with state := .doomed })).freeTest image
        (s, .good (s.afterDelete image))

/-- DELETE-IMAGE (R59). -/
def execDeleteImage (p : PortId) (tag image : Nat) (s : State) : Host.Outcome State Fault Refusal :=
  .next (requestNow p 4 tag (u16 image) (ownDeleteImage p image) s)

/-- A master-read request joins the Job Scheduler's queue (R45, R20). -/
def State.queueMaster (image : Nat) (x : Spindle) (s : State) : State :=
  let t : State := { s with
    jsc.masters := s.jsc.masters ++ [{ image := image, spindle := x, seq := s.jsc.seqCounter }]
    jsc.seqCounter := (s.jsc.seqCounter + 1) % 4294967296 }
  t.duePass

/-- IMAGE-FROM-DISC at the catalogue (R65). -/
def ownImageFromDisc (p : PortId) (length spindle flags : Nat) (s : State) : State × Answer :=
  match spindleOf spindle with
  | none => refuse .badParameter s
  | some x =>
    if length = 0 ∨ Config.maxDiscLength < length then refuse .badParameter s
    else
      match s.openRefusal length with
      | some why => refuse why s
      | none =>
        if Config.masterRequests ≤ s.jsc.masters.length then refuse .tableFull s
        else
          let (i, t) := s.openEntry p .disc length flags (.master none)
          (t.queueMaster i x, .good (openedBytes i length))

/-- IMAGE-FROM-DISC (R65). -/
def execImageFromDisc (p : PortId) (tag length spindle flags : Nat) (s : State) :
    Host.Outcome State Fault Refusal :=
  .next (requestNow p 5 tag (u32 length ++ u8 spindle ++ u8 flags) (ownImageFromDisc p length spindle flags) s)

/-- QUERY-IMAGE at the catalogue (R60). -/
def ownQueryImage (image : Nat) (s : State) : Answer :=
  if image = 0 then .good s.catalogueBytes
  else
    match s.image? image with
    | some x => .good x.bytes
    | none => .refused .noSuch []

/-- QUERY-IMAGE (R60). -/
def execQueryImage (p : PortId) (tag image : Nat) (s : State) : Host.Outcome State Fault Refusal :=
  .next (requestRead p 6 tag (u16 image) (ownQueryImage image) s)

end Sys2Proof.Machine
end

