-- ==== Sys2Proof/Machine/JobRequests.lean ====
section
/-! DEFINITION. The requests of the Job Scheduler: SUBMIT-JOB, HOLD-JOB, RELEASE-JOB, CANCEL-JOB, RETIRE-JOB, QUERY-JOB and
READ-REJECTS (R22 to R24, R29, R30, R34, R37 to R39). -/

namespace Sys2Proof.Machine

/-! ### SUBMIT-JOB -/

/-- An image number of a request: 65,535 is absent, 0 is no number (11.1, R22; notes/assumptions/25.md). -/
def imageNumberOk : Option Nat → Bool
  | none => true
  | some i => i != 0

/-- The serial fields of an order that prints are in range (R22, test 2). -/
def submitSerialOk (x : SubmitParams) : Bool :=
  decide (1 ≤ x.unitMax) && decide (x.unitMax ≤ 9999) && decide (x.nextLot ≤ Config.maxLot) && decide (1 ≤ x.nextUnit)
    && decide (x.nextUnit ≤ x.unitMax) && decide (x.text.length ≤ 12)

/-- The serial fields that are kept: none for BURN-ONLY (R23). -/
def submitPlan (x : SubmitParams) (o : OrderMode) : Option SerialPlan :=
  if o.prints then some { text := x.text, nextLot := x.nextLot, nextUnit := x.nextUnit, unitMax := x.unitMax } else none

/-- A step value is clamped to the listed steps of the class (R23). -/
def clampStep (k : GrantKind) (c : MediaClass) (v : Option Nat) : Option Nat := v.map (roundDown k c)

/-- The minimum write step, lowered to the kept write step limit (R23). -/
def clampMin (limit lo : Option Nat) : Option Nat :=
  match limit, lo with
  | some m, some v => some (min v m)
  | _, v => v

/-- Test 2 of R22, and the job the fields spell with the clamps of R23. -/
def submitParse (x : SubmitParams) (p : PortId) : Option Job :=
  match classOf x.mediaClass, prefOf x.spindle, orderOf x.order, verifyOf x.verify x.sampleK with
  | some c, some sp, some o, some v =>
    let disc := absent16 x.discImage
    let label := absent16 x.labelImage
    if 1 ≤ x.copies ∧ x.copies ≤ 9999 ∧ x.earlyStart ≤ 1 ∧ disc.isSome = o.writes ∧ label.isSome = o.prints
        ∧ imageNumberOk disc = true ∧ imageNumberOk label = true ∧ (o.prints = true → submitSerialOk x = true) then
      let limit := clampStep .write c (absent8 x.writeLimit)
      some
        { number := 0, owner := p, seq := 0, discImage := disc, labelImage := label, cls := c, pref := sp, order := o
          verify := if o.writes then v else .off
          marginalLimit := x.marginalLimit, rejectBudget := x.rejectBudget, copies := x.copies
          priority := min x.priority 3, writeLimit := limit
          minWrite := clampMin limit (clampStep .write c (absent8 x.minWrite))
          readLimit := clampStep .verify c (absent8 x.readLimit)
          earlyStart := o.writes && x.earlyStart == 1, serial := submitPlan x o }
    else none
  | _, _, _, _ => none

/-- The images a job names, each as the catalogue has it (R22). -/
def State.named (s : State) (j : Job) : List (Option Image) :=
  (j.discImage.toList ++ j.labelImage.toList).map s.image?

/-- Test 4 of R22: kinds, and the disc image's length against the class. -/
def State.kindsOk (s : State) (j : Job) : Bool :=
  (j.discImage.bind s.image?).all (fun x => x.kind == .disc && decide (x.length ≤ nominalCapacity j.cls))
    && (j.labelImage.bind s.image?).all (fun x => x.kind == .label)

/-- Tests 3 to 7 of R22. -/
def State.submitRefusal (s : State) (p : PortId) (j : Job) : Option Reason :=
  let xs := (s.named j).filterMap id
  if (s.named j).any Option.isNone then some .noSuch
  else if !s.kindsOk j then some .badParameter
  else if xs.any (fun x => !x.shared && x.owner != p) then some .notOwner
  else if xs.any (fun x => x.state == .doomed || x.state == .lost) then some .wrongState
  else if Config.jobEntries ≤ s.jsc.jobs.length then some .tableFull
  else none

/-- The number the next job takes (R20). -/
def Jsc.nextJob (x : Jsc) : Nat := freeNumber (x.jobs.map Job.number) x.jobs.length x.jobCounter

/-- The hold set at submission (R24). -/
def State.submitHolds (s : State) (j : Job) : HoldSet :=
  { noBlanks := !s.hasBlanks j
    spindleSuspect := [Spindle.inA, .inB].any (fun x =>
      j.pref.allows x && (s.spindle x).cls == some j.cls && (s.spindle x).state == .suspect) }

/-- The job as it is entered: numbers, hold set and state (R20, R24, R25). -/
def State.newJob (s : State) (j : Job) : Job :=
  let j := { j with number := s.jsc.nextJob, seq := s.jsc.seqCounter, holds := s.submitHolds j }
  { j with state := s.liveState j }

/-- Enter a job (R24, R20). -/
def State.enterJob (j : Job) (s : State) : State :=
  let t : State := { s with
    jsc.jobs := s.jsc.jobs ++ [j], jsc.jobCounter := nextNumber j.number
    jsc.seqCounter := (s.jsc.seqCounter + 1) % 4294967296 }
  (forEach (j.discImage.toList ++ j.labelImage.toList) State.addRef t).duePass

/-- SUBMIT-JOB at the Job Scheduler (R22 to R24). -/
def ownSubmitJob (p : PortId) (x : SubmitParams) (s : State) : State × Answer :=
  match submitParse x p with
  | none => refuse .badParameter s
  | some j =>
    match s.submitRefusal p j with
    | some why => refuse why s
    | none =>
      let j := s.newJob j
      (s.enterJob j, .good j.submitBytes)

/-- SUBMIT-JOB (R22). -/
def execSubmitJob (p : PortId) (tag : Nat) (x : SubmitParams) (s : State) : Host.Outcome State Fault Refusal :=
  .next (requestNow p 7 tag (submitBytes x) (ownSubmitJob p x) s)

/-! ### The requests on a job -/

/-- The port may act on the job: its owner, or one that holds MANAGE (R29, R194). -/
def State.actsFor (s : State) (p : PortId) (j : Job) : Bool := j.owner == p || s.holds p .manage

/-- The state of a job, as a reply gives it. -/
def State.stateBytes (s : State) (job : Nat) : List Byte := opt8 ((s.job? job).map (fun x => x.state.code))

/-- HOLD-JOB at the Job Scheduler (R29). -/
def ownHoldJob (p : PortId) (job : Nat) (s : State) : State × Answer :=
  match s.job? job with
  | none => refuse .noSuch s
  | some j =>
    if !s.actsFor p j then refuse .notOwner s
    else if !j.live then refuse .wrongState s
    else
      let s := s.addHold .byClient job
      (s, .good (s.stateBytes job))

/-- HOLD-JOB (R29). -/
def execHoldJob (p : PortId) (tag job : Nat) (s : State) : Host.Outcome State Fault Refusal :=
  .next (requestNow p 8 tag (u16 job) (ownHoldJob p job) s)

/-- RELEASE-JOB at the Job Scheduler (R30). -/
def ownReleaseJob (p : PortId) (job : Nat) (s : State) : State × Answer :=
  match s.job? job with
  | none => refuse .noSuch s
  | some j =>
    if !s.actsFor p j then refuse .notOwner s
    else if !j.live then refuse .wrongState s
    else if j.holds.imageLost || j.holds.serialEnd then refuse .wrongState s
    else
      let s := ((s.removeHold .byClient job).removeHold .rejectHold job).removeHold .cleared job
      let holds := ((s.job? job).map Job.holds).getD {}
      (s, .good (s.stateBytes job ++ u8 (setBits holds.toList)))

/-- RELEASE-JOB (R30). -/
def execReleaseJob (p : PortId) (tag job : Nat) (s : State) : Host.Outcome State Fault Refusal :=
  .next (requestNow p 9 tag (u16 job) (ownReleaseJob p job) s)

/-- What an accepted CANCEL-JOB does, by the drain kind before it and the kind requested (R34). -/
def State.cancel (job : Nat) (was : Option DrainKind) (k : DrainKind) (s : State) : State :=
  match was, k with
  | none, _ => s.startDrain job k
  | some .soft, .hard | some .fail, .hard => s.hardenDrain job
  | _, _ => s

/-- CANCEL-JOB at the Job Scheduler (R34). -/
def ownCancelJob (p : PortId) (job kind : Nat) (s : State) : State × Answer :=
  match s.job? job, drainOf kind with
  | none, _ => refuse .noSuch s
  | some _, none => refuse .badParameter s
  | some j, some k =>
    if !s.actsFor p j then refuse .notOwner s
    else if j.state.terminal then refuse .wrongState s
    else
      let s := s.cancel job j.drain k
      (s, .good (s.stateBytes job))

/-- CANCEL-JOB (R34). -/
def execCancelJob (p : PortId) (tag job kind : Nat) (s : State) : Host.Outcome State Fault Refusal :=
  .next (requestNow p 10 tag (u16 job ++ u8 kind) (ownCancelJob p job kind) s)

/-- RETIRE-JOB at the Job Scheduler (R37). -/
def ownRetireJob (p : PortId) (job : Nat) (s : State) : State × Answer :=
  match s.job? job with
  | none => refuse .noSuch s
  | some j =>
    if !s.actsFor p j then refuse .notOwner s
    else if !j.state.terminal then refuse .wrongState s
    else ({ s with jsc.jobs := s.jsc.jobs.filter (fun x => x.number != job) }, .good [])

/-- RETIRE-JOB (R37). -/
def execRetireJob (p : PortId) (tag job : Nat) (s : State) : Host.Outcome State Fault Refusal :=
  .next (requestNow p 11 tag (u16 job) (ownRetireJob p job) s)

/-- QUERY-JOB at the Job Scheduler (R38). -/
def ownQueryJob (job : Nat) (s : State) : Answer :=
  match s.job? job with
  | some j => .good (s.jobBytes j)
  | none => .refused .noSuch []

/-- QUERY-JOB (R38). -/
def execQueryJob (p : PortId) (tag job : Nat) (s : State) : Host.Outcome State Fault Refusal :=
  .next (requestRead p 12 tag (u16 job) (ownQueryJob job) s)

/-- READ-REJECTS at the Job Scheduler (R39). -/
def ownReadRejects (job first : Nat) (s : State) : Answer :=
  match s.job? job with
  | some j => if j.log.length < first then .refused .badParameter [] else .good (j.rejectBytes first)
  | none => .refused .noSuch []

/-- READ-REJECTS (R39). -/
def execReadRejects (p : PortId) (tag job first : Nat) (s : State) : Host.Outcome State Fault Refusal :=
  .next (requestRead p 13 tag (u16 job ++ u8 first) (ownReadRejects job first) s)

end Sys2Proof.Machine
end

