-- ==== Sys2Proof/Machine/LinkEvents.lean ====
section
/-! DEFINITION. The client strobes and the byte gap timer (R190 to R192), and the requests that the CLU owns: BOOK-NOTICE,
DROP-BOOKING, FETCH-NOTICE and SET-ATTENTION (R195, R196, R199, R200). -/

namespace Sys2Proof.Machine

/-- PUT (R190). -/
def execPut (p : PortId) (b : Byte) (s : State) : Host.Outcome State Fault Refusal := .next (s.begin.putByte p b).settle

/-- TAKE (R191). -/
def execTake (p : PortId) (s : State) : Host.Outcome State Fault Refusal := .next (s.begin.takeStrobe p).settle

/-- The partial frame is discarded (R192). -/
def Port.dropFrame (x : Port) : Port :=
  { x with phase := .idle, frame := [], taken := 0, gap := none
           frameErrors := saturate Config.count16 (x.frameErrors + 1) }

/-- The byte gap timer of a port expires (R192). -/
def execByteGapTimerExpiry (p : PortId) (s : State) : Host.Outcome State Fault Refusal :=
  let s := s.begin
  .next (if (s.port p).gap.isSome then s.modPort p Port.dropFrame else s).settle

/-- Job kinds: the first six (10.5). -/
def EventKind.isJobKind (k : EventKind) : Bool := decide (k.code ≤ 6)

/-- The lowest-numbered free slot. -/
def Port.freeBooking (x : Port) : Option (Fin 8) :=
  ([0, 1, 2, 3, 4, 5, 6, 7] : List (Fin 8)).find? (fun i => x.bookings[i].isNone)

/-- Set a booking slot. -/
def Port.setBooking (i : Fin 8) (b : Option Booking) (x : Port) : Port := { x with bookings := x.bookings.set i b }

/-- BOOK-NOTICE at the CLU (R195); scope 0 is ALL (11.1). -/
def ownBookNotice (p : PortId) (event scope btag action : Nat) (s : State) : State × Answer :=
  match eventKindOf event, actionOf action with
  | some k, some a =>
    if scope ≠ 0 ∧ k.isJobKind = false then refuse .badParameter s
    else
      match (s.port p).freeBooking with
      | none => refuse .tableFull s
      | some i =>
        let b : Booking := { kind := k, scope := if scope = 0 then none else some scope, tag := btag, action := a }
        (s.modPort p (Port.setBooking i (some b)), .good (u8 i.val))
  | _, _ => refuse .badParameter s

/-- BOOK-NOTICE (R195). -/
def execBookNotice (p : PortId) (tag event scope btag action : Nat) (s : State) :
    Host.Outcome State Fault Refusal :=
  .next (requestNow p 23 tag (u8 event ++ u16 scope ++ u16 btag ++ u8 action)
    (ownBookNotice p event scope btag action) s)

/-- A slot number of DROP-BOOKING. -/
def slotOf (n : Nat) : Option (Fin 8) := if h : n < 8 then some ⟨n, h⟩ else none

/-- DROP-BOOKING at the CLU: a slot, or 255 for ALL (R196, 11.1). -/
def ownDropBooking (p : PortId) (slot : Nat) (s : State) : State × Answer :=
  if slot = 255 then
    (s.modPort p (fun x => { x with bookings := Vector.replicate 8 none }), .good (u8 (s.port p).booked.length))
  else
    match slotOf slot with
    | none => refuse .badParameter s
    | some i =>
      if (s.port p).bookings[i].isNone then refuse .noSuch s
      else (s.modPort p (Port.setBooking i none), .good [])

/-- DROP-BOOKING (R196). -/
def execDropBooking (p : PortId) (tag slot : Nat) (s : State) : Host.Outcome State Fault Refusal :=
  .next (requestNow p 24 tag (u8 slot) (ownDropBooking p slot) s)

/-- FETCH-NOTICE at the CLU (R199). -/
def ownFetchNotice (p : PortId) (s : State) : State × Answer :=
  let x := s.port p
  (s.modPort p (fun y => { y with notices := y.notices.drop 1, overflow := false }),
    .good (noticeBytes x.notices.head? x.overflow (x.notices.length - 1)))

/-- FETCH-NOTICE (R199). -/
def execFetchNotice (p : PortId) (tag : Nat) (s : State) : Host.Outcome State Fault Refusal :=
  .next (requestNow p 25 tag [] (ownFetchNotice p) s)

/-- ENABLE 1, DISABLE 2 and KEEP 3 (11.1): what becomes of the attention enable. -/
def attentionOf (was : Bool) : Nat → Option Bool
  | 1 => some true
  | 2 => some false
  | 3 => some was
  | _ => none

/-- SET-ATTENTION at the CLU (R200). -/
def ownSetAttention (p : PortId) (setting : Nat) (s : State) : State × Answer :=
  match attentionOf (s.port p).attention setting with
  | some on =>
    let s := s.modPort p (fun x => { x with attention := on })
    (s, .good ((s.port p).attentionBytes (s.sst.working.rights p)))
  | none => refuse .badParameter s

/-- SET-ATTENTION (R200). -/
def execSetAttention (p : PortId) (tag setting : Nat) (s : State) : Host.Outcome State Fault Refusal :=
  .next (requestNow p 26 tag (u8 setting) (ownSetAttention p setting) s)

end Sys2Proof.Machine
end

