-- ==== Sys2Proof/Machine/MemoryEvents.lean ====
section
/-! DEFINITION. The events of staging memory: the block frames of the intake port (R61, R62), the completions of writes
and reads (R63, R68, R98 to R100, R103) and the feed period (R92). A completion of a kind that the SMC is not serving is
discarded (notes/assumptions/12.md). -/

namespace Sys2Proof.Machine

/-! ### Intake -/

/-- What becomes of a block frame (R61). -/
inductive FrameCase where
  | stray | duplicate
  | gap (expected : Nat)
  | accepted
  deriving DecidableEq, Repr

/-- The test of a block frame against the image it names, the last five cases of R61. -/
def Image.frameCase (x : Image) (index : Nat) : FrameCase :=
  if x.state ≠ .filling ∨ x.source ≠ .intake then .stray
  else if x.length ≤ index then .stray
  else if index < x.accepted then .duplicate
  else if x.accepted < index then .gap x.accepted
  else .accepted

/-- The first case of R61 that applies to a frame. One with words beyond word 1,026 is whole
(notes/assumptions/61.md). -/
def State.frameCase (s : State) (words image index : Nat) : FrameCase :=
  if words < Config.intakeFrameWords then .stray
  else if Config.intakeBlocks ≤ s.ipt.fifo.length then .stray
  else
    match s.image? image with
    | none => .stray
    | some x => x.frameCase index

/-- A frame that reached no image (R61). -/
def State.strayFrame (s : State) : State := { s with ipt.strays := saturate Config.count16 (s.ipt.strays + 1) }

/-- A frame above the accepted count (R62). -/
def State.frameGap (image expected : Nat) (s : State) : State :=
  (s.modImage image (fun x => { x with gaps := saturate Config.count16 (x.gaps + 1) })).deliver
    { kind := .imageGap, subject := .image image, detail := .index expected }

/-- A block is accepted into the intake FIFO (R62). -/
def State.acceptBlock (b : IntakeBlock) (s : State) : State :=
  let t : State := { s with ipt.fifo := s.ipt.fifo ++ [b] }
  t.modImage b.image (fun x => { x with accepted := x.accepted + 1 })

/-- The IPT takes a block frame, and issues its head block when it can (R61 to R63). -/
def State.takeFrame (words image index : Nat) (data : BlockData) (s : State) : State :=
  match s.frameCase words image index with
  | .stray => s.strayFrame
  | .duplicate => s
  | .gap expected => s.frameGap image expected
  | .accepted => ((s.acceptBlock { image := image, index := index, data := data }).intakeIssue).smcServe

/-- A block frame (R61). -/
def execBlockFrame (words image index : Nat) (data : BlockData) (s : State) : Host.Outcome State Fault Refusal :=
  .next (s.begin.takeFrame words image index data).settle

/-- A sealed image whose last block is in becomes READY (R63). -/
def State.readyTest (i : Nat) (s : State) : State :=
  if (s.image? i).any (fun x => x.state == .filling && x.isSealed && x.ingested == x.length) then s.imageReady i else s

/-- The SMC is free, and the head block of the intake FIFO has left it (R63). -/
def State.intakeHeadDone (s : State) : State :=
  { s.served with ipt.fifo := s.ipt.fifo.drop 1, ipt.writing := false }

/-- The intake write being served completes (R63, R69). -/
def State.intakeDone (w : BlockWrite) (s : State) : State :=
  (((((s.intakeHeadDone.ingest w.image).recountAccepted w.image).readyTest w.image).accessDone
    w.image).intakeIssue).smcServe

/-- The intake write completes (R63). -/
def execIntakeWriteDone (s : State) : Host.Outcome State Fault Refusal :=
  let s := s.begin
  match s.smc.serving with
  | some (.intake w) =>
    match s.storeBlock w with
    | some t => .next (t.intakeDone w).settle
    | none => .fault .blockOutsideImage
  | _ => .next s.settle

/-! ### Master writes -/

/-- The bay that reads an image's master (R47, R66). -/
def State.masterBay (s : State) (i : Nat) : Option BayId :=
  match (s.image? i).map Image.source with
  | some (.master n) => n
  | _ => none

/-- A written block leaves the holding buffer of the bay that reads its image. A bay that sent READ-HOLD sends READ-GO once
a slot is free, and so it does after it has reported the read complete (R125). A write of a lost image that completes late
finds its bay with another master, or with none, and frees nothing there (R126). -/
def State.masterSlot (image k : Nat) (n : BayId) (s : State) : State :=
  if (s.bay n).state = .masterRead ∧ s.masterImageAt n = some image then
    let s := s.modBay n (fun b => { b with holding := b.holding.filter (fun (e : HeldBlock) => e.index != k) })
    let b := s.bay n
    if b.masterHeld = true ∧ b.holding.length < Config.holdingBlocks then
      (s.toBay n .readGo).modBay n (fun b => { b with masterHeld := false })
    else s
  else s

/-- The master write being served completes (R68, R125, R69). -/
def State.masterDone (w : BlockWrite) (s : State) : State :=
  let s := s.served.ingest w.image
  let s :=
    match s.masterBay w.image with
    | some n => s.masterSlot w.image w.index n
    | none => s
  (s.accessDone w.image).smcServe

/-- A master write completes (R68). -/
def execMasterWriteDone (s : State) : Host.Outcome State Fault Refusal :=
  let s := s.begin
  match s.smc.serving with
  | some (.master w) =>
    match s.storeBlock w with
    | some t => .next (t.masterDone w).settle
    | none => .fault .blockOutsideImage
  | _ => .next s.settle

/-! ### The feed period -/

/-- The work of a feed period (R92, R93, R96, R103). The clock of the entry times counts the periods
(notes/assumptions/7.md). -/
def State.feedPeriod (s : State) : State :=
  let t : State := { s with tsq.clock := s.tsq.clock + 1 }
  let limit := t.periodLimit
  let (count, s) := serveBursts limit limit (issueRereads t.raiseCredits)
  (s.serveArtwork (limit - count)).smcServe

/-- The feed period timer expires (R92). -/
def execFeedPeriodTimerExpiry (s : State) : Host.Outcome State Fault Refusal := .next s.begin.feedPeriod.settle

/-! ### Completion of reads -/

/-- Every block of a read that is delivered has a place in staging memory. -/
def State.readable (s : State) (r : FeedRead) : Bool := r.fate != .deliver || s.readInside r

/-- The read being served is done, and the SMC takes the next request (R69). -/
def State.readServed (image : Nat) (s : State) : State := (s.served.accessDone image).smcServe

/-- A burst of a bay's stream completes (R98). -/
def State.burstDone (n : BayId) (r : FeedRead) (damage : List WordDamage) (s : State) : State :=
  ((takeBlocks n r.image r.count r.first damage s).streamEnd n).readServed r.image

/-- A feed read of a stream completes (R98). -/
def execFeedReadDone (damage : List WordDamage) (s : State) : Host.Outcome State Fault Refusal :=
  let s := s.begin
  match s.smc.serving with
  | some (.feed r) =>
    match r.user with
    | .stream n => if s.readable r then .next (s.burstDone n r damage).settle else .fault .blockOutsideImage
    | _ => .next s.settle
  | _ => .next s.settle

/-- A re-read completes (R100, R103). -/
def execRereadDone (w : WordDamage) (s : State) : Host.Outcome State Fault Refusal :=
  let s := s.begin
  match s.smc.serving with
  | some (.feed r) =>
    match r.user with
    | .reread n =>
      if s.readable r then .next ((s.takeReread n r.image r.first w).readServed r.image).settle
      else .fault .blockOutsideImage
    | .artworkReread =>
      if s.readable r then .next ((s.takeArtworkReread r.image r.first w).readServed r.image).settle
      else .fault .blockOutsideImage
    | _ => .next s.settle
  | _ => .next s.settle

/-- An artwork burst completes (R103). -/
def execArtworkReadDone (damage : List WordDamage) (s : State) : Host.Outcome State Fault Refusal :=
  let s := s.begin
  match s.smc.serving with
  | some (.feed r) =>
    match r.user with
    | .artwork =>
      if s.readable r then
        .next (((takeArtworks r.image r.count r.first damage s).artworkEnd).readServed r.image).settle
      else .fault .blockOutsideImage
    | _ => .next s.settle
  | _ => .next s.settle

end Sys2Proof.Machine
end

