-- ==== Sys2Proof/Machine/PrinterEvents.lean ====
section
/-! DEFINITION. What the printer sends and its timer (R177, R178, R180 to R183, R186, R188). -/

namespace Sys2Proof.Machine

/-! ### Artwork -/

/-- The printer holds the artwork of the job's label image (R178). -/
def State.artworkHeld (s : State) : State :=
  match s.discAt .printer with
  | some d =>
    let tag := ((s.disc d).bind s.jobOf).bind Job.labelImage
    let t : State := { s with psc.timer := none, psc.cacheTag := tag }
    t.mergeStep d
  | none => s

/-- ARTWORK-OK (R178). -/
def execArtworkOk (s : State) : Host.Outcome State Fault Refusal :=
  let s := s.begin
  .next (if s.psc.state = .loaded ∧ s.psc.step = some .artworkWait then s.artworkHeld else s).settle

/-! ### The answers to a print -/

/-- The ink level after a print, and INK-LOW when it first falls below 10 (R181, step 3). -/
def State.takeInk (p : Nat) (s : State) : State :=
  let level := min p 100
  let low := decide (level < Config.inkLowLevel)
  let t : State := { s with psc.ink := some level, psc.inkLow := low }
  if low && !s.psc.inkLow then t.deliver { kind := .inkLow, subject := .none, detail := .ink level } else t

/-- The job of a record drains HARD (R181, step 5). -/
def State.drainsHard (s : State) (d : DiscId) : Bool :=
  ((s.disc d).bind s.jobOf).any (fun j => j.state == .draining && j.drain == some .hard)

/-- The verdict at the end of a print (R181, step 5). -/
def State.printVerdict (d : DiscId) (s : State) : State :=
  if s.drainsHard d then s.writeVerdict d (some .cancelled)
  else if (s.nextStepOf d).isNone then s.verdict d none
  else s

/-- A print is done (R181). -/
def State.printed (p : Nat) (s : State) : State :=
  let s : State := { s with psc.timer := none }
  match s.discAt .printer with
  | some d =>
    let s := (((s.assignSerial d).takeInk p).enterStep d .print).printVerdict d
    (s.stationTo .printed).clearFromPrinter
  | none => (s.takeInk p).stationTo .printed

/-- PRINT-DONE (R181); a sweep that waited for the print goes on (R188). -/
def execPrintDone (ink : Nat) (s : State) : Host.Outcome State Fault Refusal :=
  let s := s.begin
  .next (if s.psc.state = .printing then (s.printed ink).proceedSense else s).settle

/-- The printer has no ink: the print was not started (R182). A disc of a draining job is treated at once
(notes/assumptions/26.md). -/
def State.outOfInk (s : State) : State :=
  let e : Event :=
    { kind := .inkOut, detail := .none
      subject := match s.printerJob with | some j => .job j | none => .none }
  let t : State := { s with
    psc.state := .inkOut, psc.step := none, psc.timer := none, psc.ink := some 0, psc.inkLow := true }
  let s := t.deliver e
  match s.discAt .printer with
  | some d => s.drainArrival d
  | none => s

/-- INK-OUT (R182). -/
def execInkOut (s : State) : Host.Outcome State Fault Refusal :=
  let s := s.begin
  .next (if s.psc.state = .printing then s.outOfInk.proceedSense else s).settle

/-- A jam, after which a sweep that waited for the print goes on (R183, R188). -/
def State.jamNow (c : JamCause) (s : State) : State :=
  if s.psc.state = .printing then (s.jam c).proceedSense else s.jam c

/-- JAM (R183). -/
def execJam (s : State) : Host.Outcome State Fault Refusal :=
  let s := s.begin
  .next (if s.psc.state = .jammed then s else s.jamNow .jam).settle

/-! ### Senses -/

/-- The result of a service sense (R186): AGREED 1, MISMATCH 2, NO-ANSWER 3 (notes/assumptions/21.md). -/
inductive SenseResult where
  | agreed | mismatch | noAnswer
  deriving DecidableEq, Repr

def SenseResult.code : SenseResult → Nat
  | .agreed => 1 | .mismatch => 2 | .noAnswer => 3

/-- No sense is pending. -/
def State.senseOver (s : State) : State := { s with psc.sense := none, psc.timer := none, psc.servicePort := none }

/-- The reply of PRINTER-SERVICED is formed (R186). -/
def State.serviceReply (p : Option PortId) (x : SenseResult) (s : State) : State :=
  match p with
  | some p => s.answerWaiting p 22 (.good (u8 s.psc.state.code ++ u8 x.code))
  | none => s

/-- A REJECT on the tray goes to REJ, also by a CLEAR that was queued before the jam and names another place (R186,
R161). -/
def State.rejectedLeaves (d : DiscId) (s : State) : State :=
  if (s.disc d).bind s.requiredDest = some .rej then s.rerouteQueued d else s

/-- The station leaves INK-OUT or JAMMED with the disc on its tray, as at a placement (R186, R176). -/
def State.servicePresent (d : DiscId) (s : State) : State :=
  let t : State := { s with psc.reservedFor := none }
  ((t.rejectedLeaves d).stationActs d).dueBoth

/-- The station leaves INK-OUT or JAMMED with an empty tray (R186). -/
def State.serviceAbsent (s : State) : State :=
  (s.stationTo (if s.psc.reservedFor.isSome then .reserved else .vacant)).dueBoth

/-- The report of a service sense (R186); a sweep that waited for it goes on (R188). -/
def State.serviced (present : Bool) (s : State) : State :=
  let p := s.psc.servicePort
  let s := s.senseOver
  let s :=
    match present, s.discAt .printer with
    | true, some d => (s.servicePresent d).serviceReply p .agreed
    | false, none => s.serviceAbsent.serviceReply p .agreed
    | _, _ => s.serviceReply p .mismatch
  s.proceedSense

/-- TRAY-REPORT, by the sense pending (R177, R186, R188). That one taken in PRINTING, before the sweep's TRAY-SENSE is sent, is
discarded is the model's (notes/assumptions/67.md). -/
def execTrayReport (present : Bool) (s : State) : Host.Outcome State Fault Refusal :=
  let s := s.begin
  .next (match s.psc.sense with
    | some .service => s.serviced present
    | some .sweep => if s.psc.state = StationState.printing then s else s.senseOver.printerAnswered present
    | none => s).settle

/-- A service sense is not answered (R186). -/
def State.serviceSilent (s : State) : State :=
  let p := s.psc.servicePort
  let s := s.senseOver
  let s := if s.psc.state = .inkOut then s.jam .timeout else s
  (s.serviceReply p .noAnswer).proceedSense

/-- A sweep's sense is not answered: the station jams, and answers by the disc table (R188). -/
def State.sweepSilent (s : State) : State :=
  let s := s.senseOver.jam .timeout
  s.printerAnswered (s.discAt .printer).isSome

/-- The print timer expires (R183, R186, R188). -/
def State.printSilent (s : State) : State :=
  if s.psc.state = .printing then s.jamNow .timeout
  else
    match s.psc.sense with
    | some .service => s.serviceSilent
    | some .sweep => s.sweepSilent
    | none => s.jam .timeout

/-- The print timer expires (R183, R186, R188). -/
def execPrintTimerExpiry (s : State) : Host.Outcome State Fault Refusal :=
  let s := s.begin
  .next (if s.psc.timer.isSome then s.printSilent else s).settle

end Sys2Proof.Machine
end

