-- ==== Sys2Proof/Machine/Store.lean ====
section
/-! DEFINITION. The Settings Store (R201 to R204): the range of each item, the load at a reset, writes and saves. -/

namespace Sys2Proof.Machine

/-- A value brought into a range. -/
def clamp (lo hi v : Nat) : Nat := max lo (min hi v)

/-- Rounded down to a multiple of 1,000. -/
def thousands (v : Nat) : Nat := v / 1000 * 1000

/-- The verify reserve that a budget allows: clamped to B/2 and rounded down (11.3, item 2). -/
def reserveWithin (budget v : Nat) : Nat := thousands (min v (budget / 2))

/-- Keep a value of an item as 11.3 gives; none when the table marks the value as refused or there is no such item. -/
def Settings.put (x : Settings) (item v : Nat) : Option Settings :=
  match item with
  | 1 =>
    let b := thousands (clamp 24000 96000 v)
    some { x with budget := b, reserve := if b / 2 < x.reserve then reserveWithin b x.reserve else x.reserve }
  | 2 => some { x with reserve := reserveWithin x.budget v }
  | 3 => if v = 1 ∨ v = 2 ∨ v = 4 ∨ v = 8 then some { x with memoryGiB := v } else none
  | 4 => if v < 4096 then some { x with fitted := v } else none
  | 5 => some { x with pauseLimit := clamp 1 31 v }
  | 6 => some { x with starveMs := clamp 500 5000 v }
  | 7 => some { x with quarantine := clamp 1 9 v }
  | 8 => some { x with tenureMs := clamp 0 20000 v }
  | 9 => some { x with capA := clamp 1 150 v }
  | 10 => some { x with capB := clamp 1 150 v }
  | 11 => some { x with capOut := clamp 1 150 v }
  | 12 => some { x with capRej := clamp 1 50 v }
  | 13 => if v < 8 then some { x with rights0 := v } else none
  | 14 => if v < 8 then some { x with rights1 := v } else none
  | 15 => if v < 8 then some { x with rights2 := v } else none
  | 16 => if v < 8 then some { x with rights3 := v } else none
  | _ => none

/-- The value of an item. -/
def Settings.item (x : Settings) (item : Nat) : Nat := x.items.getD (item - 1) 0

/-- A loaded set with every value taken as the table gives; an item that would be refused takes its default (R201). -/
def Settings.loaded (x : Settings) : Settings :=
  ((List.range 16).map (· + 1)).foldl (fun y i => (y.put i (x.item i)).getD y) {}

/-- The number after a save number (R204). -/
def nextSave (n : Nat) : Nat := (n + 1) % 65536

/-- The other copy. -/
def CopyName.other : CopyName → CopyName
  | .A => .B
  | .B => .A

/-- Change a copy of the store. -/
def Sst.setCopy (n : CopyName) (c : StoreCopy) (x : Sst) : Sst :=
  match n with
  | .A => { x with copyA := c }
  | .B => { x with copyB := c }

/-- What a reset finds of the store: a copy that a save was writing, or wrote without a read-back, passes its check as a
whole or fails it (R204; notes/assumptions/9.md, 32.md). -/
def StoreCopy.found (written : Bool) : StoreCopy → StoreCopy
  | .unsure n x => if written then .good n x else .bad
  | c => c

/-- A copy that a save in progress was writing. -/
def Sst.interrupted (x : Sst) : Sst :=
  match x.save with
  | some v => { x.setCopy x.last.other (.unsure v.number v.snapshot) with save := none }
  | none => x

/-- The copy the load takes: the one with the higher save number, A when neither is one above the other, or the one that
passes (R201). -/
def betterCopy : StoreCopy → StoreCopy → Option (CopyName × Nat × Settings)
  | .good a x, .good b y => if b = nextSave a then some (.B, b, y) else some (.A, a, x)
  | .good a x, _ => some (.A, a, x)
  | _, .good b y => some (.B, b, y)
  | _, _ => none

/-- The load of the working set at a reset; the defaulted flag is set with the defaults, and a load of a copy leaves it as
it stands, for only a save clears it (R201). -/
def Sst.load (written : Bool) (x : Sst) : Sst :=
  let x := x.interrupted
  let a := x.copyA.found written
  let b := x.copyB.found written
  match betterCopy a b with
  | some (n, k, set) =>
    { working := set.loaded, copyA := a, copyB := b, last := n, number := k, unsaved := false
      defaulted := x.defaulted }
  | none => { copyA := a, copyB := b }

/-- READ-SETTINGS (R202). -/
def execReadSettings (p : PortId) (tag : Nat) (s : State) : Host.Outcome State Fault Refusal :=
  .next (requestRead p 27 tag [] (fun s => .good s.sst.bytes) s)

/-- The port whose rights an item holds (11.3). -/
def rightsPort : Nat → Option PortId
  | 13 => some 0 | 14 => some 1 | 15 => some 2 | 16 => some 3 | _ => none

/-- Every booking of a port is freed (R194). -/
def State.freeBookings (p : PortId) (s : State) : State :=
  s.modPort p (fun x => { x with bookings := Vector.replicate 8 none })

/-- Keep a written value and its consequences (R203, R194). -/
def State.keepSetting (item : Nat) (x : Settings) (s : State) : State :=
  let t : State := { s with
    sst.working := x, sst.unsaved := true, sst.save := s.sst.save.map (fun v => { v with dirty := true }) }
  match rightsPort item with
  | some p => t.freeBookings p
  | none => t

/-- WRITE-SETTINGS at the store (R203). The value kept is sent in four bytes for every item, V in two
(notes/assumptions/54.md). -/
def ownWriteSettings (item value : Nat) (s : State) : State × Answer :=
  match s.sst.working.put item value with
  | none => refuse .badParameter s
  | some x =>
    if (item = 1 ∨ item = 2) ∧ s.rgu.idle = false then refuse .busy s
    else
      (s.keepSetting item x,
        .good (u8 item ++ u32 (x.item item) ++ if item = 1 then u16 x.reserve else []))

/-- WRITE-SETTINGS (R203). -/
def execWriteSettings (p : PortId) (tag item value : Nat) (s : State) : Host.Outcome State Fault Refusal :=
  .next (requestNow p 28 tag (u8 item ++ u32 value) (ownWriteSettings item value) s)

/-- SAVE-SETTINGS at the store: refused BUSY at once, or the save begins and the port waits (R204). -/
def ownSaveSettings (p : PortId) (tag : Nat) (s : State) : State :=
  if s.sst.save.isSome then s.answer p 29 tag (.refused .busy [])
  else
    let v : Save := { snapshot := s.sst.working, number := nextSave s.sst.number, port := p }
    let t : State := { s with sst.save := some v }
    t.modPort p (fun x => { x with waiting := true })

/-- SAVE-SETTINGS (R204). -/
def execSaveSettings (p : PortId) (tag : Nat) (s : State) : Host.Outcome State Fault Refusal :=
  .next (request p 29 tag [] (ownSaveSettings p tag) s)

/-- The result codes of SAVE-SETTINGS: SAVED 1, FAILED 2 (notes/assumptions/21.md). -/
def savedBytes (number : Nat) : List Byte := u8 1 ++ u16 number
def saveFailedBytes : List Byte := u8 2

/-- A save ends (R204): with a read-back that passes, with one that fails, or with the timer. A copy whose read-back failed
fails its check from then on (notes/assumptions/32.md). -/
def Sst.endSave (v : Save) (read : Option Bool) (x : Sst) : Sst :=
  let n := x.last.other
  match read with
  | some true =>
    { x.setCopy n (.good v.number v.snapshot) with
      last := n, number := v.number, defaulted := false, unsaved := x.unsaved && v.dirty, save := none }
  | some false => { x.setCopy n .bad with save := none }
  | none => { x.setCopy n (.unsure v.number v.snapshot) with save := none }

/-- End the save in progress, if there is one, and answer its port (R204; notes/assumptions/40.md). -/
def State.saveEnds (read : Option Bool) (s : State) : State :=
  match s.sst.save with
  | some v =>
    let t : State := { s with sst := s.sst.endSave v read }
    t.answerWaiting v.port 29 (.good (if read = some true then savedBytes v.number else saveFailedBytes))
  | none => s

/-- The read-back of the written copy ends (R204). -/
def execSaveReadbackDone (passes : Bool) (s : State) : Host.Outcome State Fault Refusal :=
  .next (s.begin.saveEnds (some passes)).settle

/-- The save timer expires (R204). -/
def execSaveTimerExpiry (s : State) : Host.Outcome State Fault Refusal := .next (s.begin.saveEnds none).settle

/-! ### Resets -/

/-- The state of a bay after a reset: EMPTY, or ABSENT outside the fitted mask (R105). -/
def Settings.resetBay (x : Settings) (n : BayId) : Bay := { state := if x.fitted.testBit n.val then .empty else .absent }

/-- The state right after a power-on or line reset (R18, R46, R50, R64, R71, R88, R90, R105, R133, R148, R150, R162, R174,
R189, R201): every block at its reset values, the settings as loaded, the door as it stands. The queue of commands is
outside the part and is kept. -/
def State.afterReset (cause : ResetCause) (written : Bool) (s : State) : State :=
  let sst := s.sst.load written
  let x := sst.working
  let home := s.tsq.door == .closed
  let arm : Arm :=
    if home then { lastCmd := some .home, motion := some .home, timer := some Config.armMotionMs }
    else { state := .stopped }
  let t : State :=
    { pending := s.pending
      sent := (allBays.filter (fun n => x.fitted.testBit n.val)).map (fun n => OutMsg.bay n .abort)
        ++ (if home then [.arm .home] else [])
      sst := sst
      cat := { totalExtents := x.memoryGiB * Config.extentsPerGiB }
      tsq := { arm := arm, door := s.tsq.door, resetCause := cause
               inA := { capacity := x.capA }, inB := { capacity := x.capB }
               out := { capacity := x.capOut }, rej := { capacity := x.capRej } } }
  forEach allBays (fun n => State.modBay n (fun _ => x.resetBay n)) t

/-- Power-on reset (R201). -/
def execPowerOnReset (written : Bool) (s : State) : Host.Outcome State Fault Refusal :=
  .next (s.afterReset .powerOn written)

/-- Line reset (R201). -/
def execLineReset (written : Bool) (s : State) : Host.Outcome State Fault Refusal :=
  .next (s.afterReset .line written)

end Sys2Proof.Machine
end

