-- ==== Sys2Proof/Machine/Dispatch.lean ====
section
/-! DEFINITION. One arm for each command of the table, each a direct call of its meaning. -/

namespace Sys2Proof.Machine

def exec (i : Instr) (s : State) : Host.Outcome State Fault Refusal :=
  match i with
  | .powerOnReset written => Sys2Proof.Machine.execPowerOnReset written s
  | .lineReset written => Sys2Proof.Machine.execLineReset written s
  | .doorLineOpen => Sys2Proof.Machine.execDoorLineOpen s
  | .doorLineClosed => Sys2Proof.Machine.execDoorLineClosed s
  | .put port byte => Sys2Proof.Machine.execPut port byte s
  | .take port => Sys2Proof.Machine.execTake port s
  | .byteGapTimerExpiry port => Sys2Proof.Machine.execByteGapTimerExpiry port s
  | .openImage port tag kind length flags => Sys2Proof.Machine.execOpenImage port tag kind length flags s
  | .sealImage port tag image => Sys2Proof.Machine.execSealImage port tag image s
  | .abandonImage port tag image => Sys2Proof.Machine.execAbandonImage port tag image s
  | .deleteImage port tag image => Sys2Proof.Machine.execDeleteImage port tag image s
  | .imageFromDisc port tag length spindle flags => Sys2Proof.Machine.execImageFromDisc port tag length spindle flags s
  | .queryImage port tag image => Sys2Proof.Machine.execQueryImage port tag image s
  | .submitJob port tag params => Sys2Proof.Machine.execSubmitJob port tag params s
  | .holdJob port tag job => Sys2Proof.Machine.execHoldJob port tag job s
  | .releaseJob port tag job => Sys2Proof.Machine.execReleaseJob port tag job s
  | .cancelJob port tag job kind => Sys2Proof.Machine.execCancelJob port tag job kind s
  | .retireJob port tag job => Sys2Proof.Machine.execRetireJob port tag job s
  | .queryJob port tag job => Sys2Proof.Machine.execQueryJob port tag job s
  | .readRejects port tag job first => Sys2Proof.Machine.execReadRejects port tag job first s
  | .queryBay port tag bay => Sys2Proof.Machine.execQueryBay port tag bay s
  | .bayOffline port tag bay => Sys2Proof.Machine.execBayOffline port tag bay s
  | .bayOnline port tag bay => Sys2Proof.Machine.execBayOnline port tag bay s
  | .setSpindle port tag spindle mediaClass count => Sys2Proof.Machine.execSetSpindle port tag spindle mediaClass count s
  | .spindleEmptied port tag place => Sys2Proof.Machine.execSpindleEmptied port tag place s
  | .armResume port tag => Sys2Proof.Machine.execArmResume port tag s
  | .clearTower port tag => Sys2Proof.Machine.execClearTower port tag s
  | .queryTower port tag => Sys2Proof.Machine.execQueryTower port tag s
  | .printerServiced port tag => Sys2Proof.Machine.execPrinterServiced port tag s
  | .bookNotice port tag event scope bookingTag action => Sys2Proof.Machine.execBookNotice port tag event scope bookingTag action s
  | .dropBooking port tag slot => Sys2Proof.Machine.execDropBooking port tag slot s
  | .fetchNotice port tag => Sys2Proof.Machine.execFetchNotice port tag s
  | .setAttention port tag setting => Sys2Proof.Machine.execSetAttention port tag setting s
  | .readSettings port tag => Sys2Proof.Machine.execReadSettings port tag s
  | .writeSettings port tag item value => Sys2Proof.Machine.execWriteSettings port tag item value s
  | .saveSettings port tag => Sys2Proof.Machine.execSaveSettings port tag s
  | .saveReadbackDone passes => Sys2Proof.Machine.execSaveReadbackDone passes s
  | .saveTimerExpiry => Sys2Proof.Machine.execSaveTimerExpiry s
  | .blockFrame words image index data => Sys2Proof.Machine.execBlockFrame words image index data s
  | .intakeWriteDone => Sys2Proof.Machine.execIntakeWriteDone s
  | .masterWriteDone => Sys2Proof.Machine.execMasterWriteDone s
  | .feedPeriodTimerExpiry => Sys2Proof.Machine.execFeedPeriodTimerExpiry s
  | .feedReadDone damage => Sys2Proof.Machine.execFeedReadDone damage s
  | .rereadDone damage => Sys2Proof.Machine.execRereadDone damage s
  | .artworkReadDone damage => Sys2Proof.Machine.execArtworkReadDone damage s
  | .trayDone bay => Sys2Proof.Machine.execTrayDone bay s
  | .probeReport bay report => Sys2Proof.Machine.execProbeReport bay report s
  | .speedReport bay step => Sys2Proof.Machine.execSpeedReport bay step s
  | .want bay n => Sys2Proof.Machine.execWant bay n s
  | .paused bay => Sys2Proof.Machine.execPaused bay s
  | .resumed bay => Sys2Proof.Machine.execResumed bay s
  | .burnDone bay => Sys2Proof.Machine.execBurnDone bay s
  | .burnError bay code => Sys2Proof.Machine.execBurnError bay code s
  | .readBlock bay index status data => Sys2Proof.Machine.execReadBlock bay index status data s
  | .readEnd bay => Sys2Proof.Machine.execReadEnd bay s
  | .fault bay code => Sys2Proof.Machine.execFault bay code s
  | .trayMotionTimerExpiry bay => Sys2Proof.Machine.execTrayMotionTimerExpiry bay s
  | .probeTimerExpiry bay => Sys2Proof.Machine.execProbeTimerExpiry bay s
  | .speedReportTimerExpiry bay => Sys2Proof.Machine.execSpeedReportTimerExpiry bay s
  | .burnCloseTimerExpiry bay => Sys2Proof.Machine.execBurnCloseTimerExpiry bay s
  | .starveTimerExpiry bay => Sys2Proof.Machine.execStarveTimerExpiry bay s
  | .readInactivityTimerExpiry bay => Sys2Proof.Machine.execReadInactivityTimerExpiry bay s
  | .spareHoldTimerExpiry bay => Sys2Proof.Machine.execSpareHoldTimerExpiry bay s
  | .arrived => Sys2Proof.Machine.execArrived s
  | .gripped => Sys2Proof.Machine.execGripped s
  | .gripEmpty => Sys2Proof.Machine.execGripEmpty s
  | .gripDouble => Sys2Proof.Machine.execGripDouble s
  | .released => Sys2Proof.Machine.execReleased s
  | .homed holding => Sys2Proof.Machine.execHomed holding s
  | .motionFault => Sys2Proof.Machine.execMotionFault s
  | .armMotionTimerExpiry => Sys2Proof.Machine.execArmMotionTimerExpiry s
  | .artworkOk => Sys2Proof.Machine.execArtworkOk s
  | .printDone ink => Sys2Proof.Machine.execPrintDone ink s
  | .inkOut => Sys2Proof.Machine.execInkOut s
  | .jam => Sys2Proof.Machine.execJam s
  | .trayReport present => Sys2Proof.Machine.execTrayReport present s
  | .printTimerExpiry => Sys2Proof.Machine.execPrintTimerExpiry s

end Sys2Proof.Machine
end

