-- ==== Sys2Proof/Machine/Step.lean ====
section
/-! DEFINITION. One step: the command at the front of the queue, first in, first out (notes/assumptions/2.md). -/

namespace Sys2Proof.Machine

/-- Take the command at the front of the queue and run its meaning with the queue's rest; with no command waiting the part
idles. -/
def step (s : State) : Host.Outcome State Fault Refusal :=
  match s.pending with
  | c :: rest =>
    let t : State := { s with pending := rest }
    exec c t
  | [] => .next s

/-- The command that a word spells by the table's bits, put at the front of the queue; the table gives no bits, so no word
spells one (notes/assumptions/37.md). -/
def State.withFetchWord (s : State) (nbits w : Nat) : State :=
  match decodeTableWord nbits w with
  | some c => { s with pending := c :: s.pending }
  | none => s

end Sys2Proof.Machine
end

