-- ==== Sys2Proof/Safety.lean ====
section
/-! DEFINITION. What counts as a safe state: the invariants of the part that every step keeps, and the words that
statements about requests use. -/

namespace Sys2Proof.Machine

/-! ### Invariants -/

/-- Staging memory is in its canonical form (Machine/Memory.lean). -/
def State.memorySafe (s : State) : Prop := s.mem.wf = true

/-- The ledger stays within what the grant test admits: each entry is charged the rate of its step, and the totals stay
within the write ceiling and the budget (R76, R77). -/
def State.ledgerSafe (s : State) : Prop :=
  (∀ n g, s.grant n = some g → g.rate = stepRate g.cls g.step) ∧
    s.rgu.committedWrite ≤ s.sst.working.ceiling ∧ s.rgu.committedTotal ≤ s.sst.working.budget

/-- An arm in STOPPED or in FAULT has no motion outstanding, wherever the door stands, and while the door is open the arm is
in one of the two (R167, R169). -/
def State.doorSafe (s : State) : Prop :=
  (s.tsq.arm.state = .stopped ∨ s.tsq.arm.state = .fault → s.tsq.arm.motion = none) ∧
    (s.tsq.door = .opened → s.tsq.arm.state = .stopped ∨ s.tsq.arm.state = .fault)

/-- The job numbers are distinct, and a job that is neither DRAINING nor terminal is HELD exactly while its hold set has a
member (R20, R25). -/
def State.jobsSafe (s : State) : Prop :=
  (s.jsc.jobs.map Job.number).Nodup ∧
    ∀ j ∈ s.jsc.jobs, j.live = true → (j.state = .held ↔ j.holds.nonempty = true)

/-- No extent lies outside the memory fitted, and none is held twice (R50, R51). -/
def State.extentsSafe (s : State) : Prop :=
  (∀ x ∈ s.cat.images, x.extents.Nodup ∧ ∀ e ∈ x.extents, e < s.cat.totalExtents) ∧
    s.cat.images.Pairwise (fun x y => ∀ e ∈ x.extents, e ∉ y.extents)

/-! ### Staging traffic -/

/-- The blocks of the feed reads that wait or are being served (R69, R93). -/
def State.feedBlocks (s : State) : Nat :=
  (s.smc.feedQueue.map FeedRead.count).sum +
    match s.smc.serving with
    | some (.feed r) => r.count
    | _ => 0

/-! ### Deliveries -/

/-- The verify at a bay is over: its engine, its buffers and its timer are idle (R117). -/
def State.verifyOver (u : State) (n : BayId) : Prop :=
  (u.bay n).engine = {} ∧ (u.bay n).fifo = [] ∧ (u.bay n).holding = [] ∧ (u.bay n).timers.read = none

/-- A bay is in HOLDING with the disc rejected for a cause (R118). -/
def State.rejectedAt (u : State) (n : BayId) (d : DiscId) (c : RejectCause) : Prop :=
  (u.bay n).state = .holding ∧ (u.disc d).map Disc.verdict = some .reject ∧ (u.disc d).bind Disc.cause = some c

/-- A verify has judged its last block with the record as given (R146, R117): VERIFY-FAILED, MARGINAL, or VERIFY entered,
with GOOD when no step is left. -/
def State.verifyJudged (s u : State) (n : BayId) (v : VerifyCtx) (r : Disc) : Prop :=
  u.verifyOver n ∧ (r.mismatches ≠ 0 → u.rejectedAt n v.disc .verifyFailed) ∧
    (r.mismatches = 0 → v.mode = .retry → v.limit ≠ 255 → v.limit < r.marginals → u.rejectedAt n v.disc .marginal) ∧
    (r.mismatches = 0 → v.mode ≠ .retry ∨ v.limit = 255 ∨ r.marginals ≤ v.limit →
      (u.disc v.disc).map (fun r => r.steps.verify) = some true ∧
        ((s.modDisc v.disc (fun r => { r with steps.verify := true })).nextStepOf v.disc = none →
          (u.bay n).state = .holding ∧ (u.disc v.disc).map Disc.verdict = some .good))

/-- What good blocks, delivered in order to the feed FIFO of a bay in PREFILL or WRITING, do there (R113 to R115). `out` says
that the step ends with a bay record, messages for the bay, and the disc records of a state. -/
def State.burnDelivery (s : State) (n : BayId) (blocks : List FeedBlock) (out : Bay → List OutMsg → State → Prop) :
    Prop :=
  let b := s.bay n
  let length := s.lengthAt n
  let fifo := b.fifo ++ blocks
  let sends (first : List OutMsg) (bay : Bay) (k : Nat) : Prop :=
    let spent : Bay := { bay with fifo := fifo.drop k, wantCredit := b.wantCredit - k, sentBlocks := b.sentBlocks + k }
    let sent := first ++ (fifo.take k).map (fun e => OutMsg.bay n (.block e.data))
    if length ≤ b.sentBlocks + k then
      out { spent with state := .closing, refillHold := false, timers.starve := none, timers.close := some 240000 }
        (sent ++ [.bay n .burnFinish]) s
    else out spent sent s
  (b.state = .prefill → fifo.length < min 48 length → out { b with fifo := fifo } [] s) ∧
    (blocks ≠ [] → b.sentBlocks + fifo.length ≤ length →
      (b.state = .prefill → b.refillHold = false → b.fifo.length < min 48 length → min 48 length ≤ fifo.length →
        sends [.bay n (.burnStart length)] { b with state := .writing } (min b.wantCredit fifo.length)) ∧
      (b.state = .writing →
        let held : Bool := b.refillHold && decide (fifo.length < min 32 (length - b.sentBlocks))
        sends [] { b with refillHold := held } (if held then 0 else min b.wantCredit fifo.length)))

/-- What good blocks, delivered in order to the feed FIFO of a bay in VERIFYING, do there (R138, R142 to R146): with no entry
waiting, or in a retry, they lie in the FIFO; entries that wait are judged as their blocks come to the head, and a slot that
becomes free sends READ-GO. `out` is as for State.burnDelivery; `ends` says that the step ends with the passes and the
selection of a state that has a property. -/
def State.verifyDelivery (s : State) (n : BayId) (blocks : List FeedBlock) (out : Bay → List OutMsg → State → Prop)
    (ends : (State → Prop) → Prop) : Prop :=
  let b := s.bay n
  let pos := b.engine.comparePos
  (b.state = .verifying → b.holding = [] ∨ (b.engine.phase ≠ .reading ∧ b.engine.phase ≠ .tail) →
    out { b with fifo := b.fifo ++ blocks } [] s) ∧
    (∀ v, b.state = .verifying → s.verifyCtx n = some v → b.engine.phase = .reading ∨ b.engine.phase = .tail →
      b.fifo = [] → b.holding.length ≤ 2 →
      let next := nextInVerifySet v.sampleK v.stop
      let go := b.engine.held = true ∧ b.engine.phase = .reading
      let judged (k : Nat) : Bay :=
        { b with
          fifo := blocks.drop k, holding := b.holding.drop k, timers.read := if go then some 10000 else b.timers.read
          engine := { b.engine with comparePos := next^[k] pos, held := if go then false else b.engine.held } }
      let sent := if go then [OutMsg.bay n .readGo] else []
      (let k := min b.holding.length blocks.length
       1 ≤ k →
        (∀ i e x, i < k → b.holding[i]? = some e → blocks[i]? = some x →
          x.index = next^[i] pos ∧ e.index = x.index ∧ e.status = .ok ∧ e.data = x.data) →
        next^[k] pos < v.stop ∨ k < b.holding.length → out (judged k) sent s) ∧
      (∀ e rest x r, blocks = [x] → b.holding = e :: rest → x.index = pos → s.disc v.disc = some r →
        let same := e.index = pos ∧ e.status = .ok ∧ e.data = x.data
        let counts := v.mode = .count ∨ ∃ k, v.mode = .sample k
        let counted (r : Disc) : Disc :=
          { r with
            mismatches := r.mismatches + 1
            firstMismatch := if r.firstMismatch.isNone ∧ pos < 4194304 then some pos else r.firstMismatch }
        (¬ same → counts → next pos < v.stop ∨ rest ≠ [] → out (judged 1) sent (s.modDisc v.disc counted)) ∧
        (¬ same → v.mode = .retry →
          let retry : Bay :=
            { b with
              fifo := [x], holding := [], timers.read := some 10000
              engine := { b.engine with readPos := pos, retryAttempt := 1, retryMatched := false, held := false } }
          if b.engine.phase = .reading then out { retry with engine.phase := .halting } [.bay n .readHalt] s
          else out { retry with engine.phase := .reread, engine.attemptRead := false } [.bay n (.readStart pos 1)] s) ∧
        (r.verdict = .pending →
          (¬ same → v.mode = .stop → ends (fun u => u.verifyOver n ∧ u.rejectedAt n v.disc .verifyFailed ∧
            (u.disc v.disc).map Disc.mismatches = some (r.mismatches + 1) ∧
            (b.engine.phase = .reading → .bay n .readHalt ∈ u.sent))) ∧
          (v.stop ≤ next pos → rest = [] →
            (¬ same → counts → ends (fun u => u.verifyOver n ∧ u.rejectedAt n v.disc .verifyFailed ∧
              (u.disc v.disc).map Disc.mismatches = some (r.mismatches + 1))) ∧
            (same → ends (fun u => s.verifyJudged u n v r))))))

/-! ### Notices -/

/-- Each booking of a state that matches an event has its notice in a later state, or found the queue of its port full
(R197). -/
def State.told (s u : State) (e : Event) : Prop :=
  ∀ (q : PortId) (b : Booking), b ∈ (s.port q).booked → b.matchesEvent e = true →
    { kind := e.kind, tag := b.tag, subject := e.subject, detail := e.detail : Notice } ∈ (u.port q).notices ∨
      ((u.port q).overflow = true ∧ 16 ≤ (u.port q).notices.length)

/-! ### Requests -/

/-- The port's state once a whole frame it was sent has passed the frame check. -/
def Port.withOwner (frame : List Byte) (x : Port) : Port :=
  { x with phase := .atOwner, reply := [], frame := frame, taken := frame.length, gap := none, waiting := false }

end Sys2Proof.Machine
end

