-- ==== Sys2Proof/WellFormed.lean ====
section
/-! DEFINITION. Which commands the links can carry: every parameter fits the width its frame or message gives it
(11.1, 11.2, R106). Ranges of meaning are not checked here: a value a frame can carry reaches its owner, which refuses
it as its rule says. -/

namespace Sys2Proof

/-- A value of one byte. -/
def fits8 (n : Nat) : Bool := n < 256
/-- A value of two bytes. -/
def fits16 (n : Nat) : Bool := n < 65536
/-- A value of four bytes. -/
def fits32 (n : Nat) : Bool := n < 4294967296

/-- Every parameter of SUBMIT-JOB fits its width, and the text leaves the frame within its greatest length (11.1). -/
def SubmitParams.wf (p : SubmitParams) : Bool :=
  fits16 p.discImage && fits16 p.labelImage && fits8 p.mediaClass && fits8 p.spindle && fits8 p.order &&
  fits8 p.verify && fits8 p.sampleK && fits8 p.marginalLimit && fits8 p.rejectBudget && fits16 p.copies &&
  fits8 p.priority && fits8 p.writeLimit && fits8 p.minWrite && fits8 p.readLimit && fits8 p.earlyStart &&
  fits16 p.nextLot && fits16 p.nextUnit && fits16 p.unitMax && fits8 p.text.length

/-- A READ-BLOCK's index is a block index, which four bytes carry; a WANT counts blocks of one image (R105, R106). A block
frame counts its words up to word 1,026 (11.2); what comes beyond it is ignored (notes/assumptions/61.md). -/
def Instr.wf : Instr → Bool
  | .powerOnReset _ | .lineReset _ | .doorLineOpen | .doorLineClosed => true
  | .put _ _ | .take _ | .byteGapTimerExpiry _ => true
  | .openImage _ tag kind length flags => fits16 tag && fits8 kind && fits32 length && fits8 flags
  | .sealImage _ tag image | .abandonImage _ tag image | .deleteImage _ tag image
  | .queryImage _ tag image => fits16 tag && fits16 image
  | .imageFromDisc _ tag length spindle flags => fits16 tag && fits32 length && fits8 spindle && fits8 flags
  | .submitJob _ tag params => fits16 tag && params.wf
  | .holdJob _ tag job | .releaseJob _ tag job | .retireJob _ tag job | .queryJob _ tag job =>
      fits16 tag && fits16 job
  | .cancelJob _ tag job kind => fits16 tag && fits16 job && fits8 kind
  | .readRejects _ tag job first => fits16 tag && fits16 job && fits8 first
  | .queryBay _ tag bay | .bayOffline _ tag bay | .bayOnline _ tag bay => fits16 tag && fits8 bay
  | .setSpindle _ tag spindle cls count => fits16 tag && fits8 spindle && fits8 cls && fits8 count
  | .spindleEmptied _ tag place => fits16 tag && fits8 place
  | .armResume _ tag | .clearTower _ tag | .queryTower _ tag | .printerServiced _ tag
  | .fetchNotice _ tag | .readSettings _ tag | .saveSettings _ tag => fits16 tag
  | .bookNotice _ tag event scope btag action =>
      fits16 tag && fits8 event && fits16 scope && fits16 btag && fits8 action
  | .dropBooking _ tag slot => fits16 tag && fits8 slot
  | .setAttention _ tag setting => fits16 tag && fits8 setting
  | .writeSettings _ tag item value => fits16 tag && fits8 item && fits32 value
  | .saveReadbackDone _ | .saveTimerExpiry => true
  | .blockFrame words image index _ => decide (1 ≤ words) && decide (words ≤ 1027) && fits16 image && fits32 index
  | .intakeWriteDone | .masterWriteDone | .feedPeriodTimerExpiry => true
  | .feedReadDone damage | .artworkReadDone damage => decide (1 ≤ damage.length) && decide (damage.length ≤ 8)
  | .rereadDone _ => true
  | .trayDone _ => true
  | .probeReport _ report => match report with | none => true | some r => fits32 r.capacity && fits8 r.maxWrite && fits8 r.maxRead
  | .speedReport _ step => fits8 step
  | .want _ n => decide (n ≤ 4194304)
  | .paused _ | .resumed _ | .burnDone _ => true
  | .burnError _ code => fits8 code
  | .readBlock _ index _ _ => fits32 index
  | .readEnd _ => true
  | .fault _ code => decide (1 ≤ code) && fits8 code
  | .trayMotionTimerExpiry _ | .probeTimerExpiry _ | .speedReportTimerExpiry _ | .burnCloseTimerExpiry _ => true
  | .starveTimerExpiry _ | .readInactivityTimerExpiry _ | .spareHoldTimerExpiry _ => true
  | .arrived | .gripped | .gripEmpty | .gripDouble | .released | .homed _ | .motionFault => true
  | .armMotionTimerExpiry | .artworkOk => true
  | .printDone ink => fits8 ink
  | .inkOut | .jam | .trayReport _ | .printTimerExpiry => true

end Sys2Proof
end

