-- ==== Sys2Proof/Certificates/Slice0/Obligations.lean ====
section
/-! DEFINITION. The statements for the provers, one for each entry of OBLIGATIONS.json. A result statement gives the whole
next state: what it does not name is as before, but for `sent` and `due`, which every step begins empty (State.begin).
Where a step makes an assignment pass or a selection due, the state is followed by State.settle, which runs them. -/

open Sys2Proof Sys2Proof.Machine

/-! ### The machine -/

/-- One step takes the command at the front of the queue (notes/assumptions/2.md). -/
def Obligations.StepRunsFrontCommand : Prop :=
  ∀ (s : State) (c : Instr) (rest : List Instr), s.pending = c :: rest → step s = exec c { s with pending := rest }

/-- Every command completes in every state, but for the five completions of memory requests, which can fault
(notes/assumptions/13.md); none is refused. -/
def Obligations.OnlyMemoryCompletionsStop : Prop :=
  (∀ (c : Instr) (s : State), c ≠ .intakeWriteDone → c ≠ .masterWriteDone → (∀ d, c ≠ .feedReadDone d) →
      (∀ d, c ≠ .rereadDone d) → (∀ d, c ≠ .artworkReadDone d) → ∃ t, exec c s = .next t) ∧
    (∀ (c : Instr) (s : State) (r : Refusal), exec c s ≠ .refused r)

/-! ### Invariants -/

/-- Every step keeps staging memory in its canonical form. -/
def Obligations.StepKeepsMemoryForm : Prop :=
  ∀ s t : State, s.memorySafe → step s = .next t → t.memorySafe

/-- Every step keeps the ledger within the budget and the write ceiling (R76, R77). -/
def Obligations.StepKeepsLedgerWithinBudget : Prop :=
  ∀ s t : State, s.ledgerSafe → step s = .next t → t.ledgerSafe

/-- An arm that is STOPPED or in FAULT has no motion outstanding, wherever the door stands; while the door is open it is one
of the two; and every step keeps both so (R167, R169). -/
def Obligations.StepKeepsArmStillWithDoorOpen : Prop :=
  ∀ s t : State, s.doorSafe → step s = .next t → t.doorSafe

/-- No step lets two images share an extent, or one extent lie outside the memory fitted (R50, R51). -/
def Obligations.StepKeepsExtentsApart : Prop :=
  ∀ s t : State, s.extentsSafe → step s = .next t → t.extentsSafe

/-- The state after reset meets every invariant. -/
def Obligations.ResetMeetsEveryInvariant : Prop :=
  State.reset.memorySafe ∧ State.reset.ledgerSafe ∧ State.reset.doorSafe ∧ State.reset.extentsSafe ∧ State.reset.jobsSafe

/-! ### Staging memory -/

/-- A block read back is the block written, and no byte outside it changes (R50, R69, R70). -/
def Obligations.BlockReadsBackAsWritten : Prop :=
  ∀ (m : Memory) (a : Nat) (d : BlockData), m.wf = true →
    (m.writeBlock a d).readBlock a = d ∧
      ∀ b, b < a ∨ a + 2048 ≤ b → (m.writeBlock a d).read b = m.read b

/-! ### Resets -/

/-- R88. -/
def Obligations.ResetEmptiesTheGrants : Prop :=
  ∀ (s : State) (w : Bool) (c : Instr), c = .powerOnReset w ∨ c = .lineReset w →
    ∃ t, exec c s = .next t ∧ (∀ n, t.grant n = none) ∧ t.rgu.committedWrite = 0 ∧ t.rgu.committedTotal = 0 ∧
      t.rgu.queue = [] ∧ t.sst.working = (s.sst.load w).working ∧ (∀ n, t.stream n = none) ∧
      ∀ n, t.waits n = false

/-- The state that a power-on or line reset leaves (R18, R46, R48, R50, R64, R71, R88, R90, R105, R148, R150,
R162, R174, R189, R201): tables, queues and counts as the rules give them, the settings as loaded, the door as it stands.
The clock is the model's own (notes/assumptions/7.md). -/
def Obligations.ResetLeavesEveryBlockAtItsStart : Prop :=
  ∀ (s : State) (w : Bool) (c : Instr) (cause : ResetCause),
    (c = .powerOnReset w ∧ cause = .powerOn) ∨ (c = .lineReset w ∧ cause = .line) →
    ∃ t, exec c s = .next t ∧ (∀ d, t.disc d = none) ∧ t.jsc = { jobs := [], jobCounter := 1, seqCounter := 0 } ∧
      t.cat.images = [] ∧ t.cat.counter = 1 ∧ t.cat.totalExtents = (s.sst.load w).working.memoryGiB * 128 ∧
      t.ipt.fifo = [] ∧ t.ipt.writing = false ∧ t.ipt.strays = 0 ∧
      t.smc = { feedQueue := [], intakeQueue := [], masterQueue := [], serving := none, turn := .master } ∧
      (∀ n, t.grant n = none) ∧ t.rgu.queue = [] ∧ (∀ n, t.stream n = none ∧ t.drainingCount n = 0) ∧ t.fdr.artwork = none ∧
      (∀ n, t.bay n = { state := if (s.sst.load w).working.fitted.testBit n.val then .empty else .absent }) ∧
      t.tsq.queue = [] ∧ t.tsq.tenure = none ∧ t.tsq.phase = .sweeping .arm ∧ t.tsq.clock = 0 ∧ t.tsq.door = s.tsq.door ∧
      t.tsq.resetCause = cause ∧ t.tsq.arm.state = (if s.tsq.door = .closed then .homing else .stopped) ∧
      t.tsq.arm.position = .unknown ∧ t.tsq.arm.move = none ∧
      t.tsq.arm.motion = (if s.tsq.door = .closed then some .home else none) ∧
      t.tsq.arm.timer = (if s.tsq.door = .closed then some 6000 else none) ∧
      t.tsq.arm.lastCmd = (if s.tsq.door = .closed then some .home else none) ∧ t.tsq.arm.fault = none ∧
      t.tsq.arm.trayReady = false ∧
      t.tsq.inA = { capacity := (s.sst.load w).working.capA } ∧ t.tsq.inB = { capacity := (s.sst.load w).working.capB } ∧
      t.tsq.out = { capacity := (s.sst.load w).working.capOut } ∧
      t.tsq.rej = { capacity := (s.sst.load w).working.capRej } ∧
      t.psc = { state := .vacant } ∧ (∀ p, t.port p = { phase := .idle }) ∧ t.sst = s.sst.load w

/-- The load takes the newer copy that passes, the only one that passes, or the defaults; only the defaults set the
defaulted flag, and no load clears it (R201). -/
def Obligations.LoadTakesTheNewerCopy : Prop :=
  ∀ (x : Sst) (w : Bool), x.save = none →
    (∀ a b u v, x.copyA = .good a u → x.copyB = .good b v → b = (a + 1) % 65536 →
      (x.load w).working = v.loaded ∧ (x.load w).number = b ∧ (x.load w).defaulted = x.defaulted) ∧
    (∀ a b u v, x.copyA = .good a u → x.copyB = .good b v → b ≠ (a + 1) % 65536 →
      (x.load w).working = u.loaded ∧ (x.load w).number = a ∧ (x.load w).defaulted = x.defaulted) ∧
    (∀ a u, x.copyA = .good a u → x.copyB = .bad →
      (x.load w).working = u.loaded ∧ (x.load w).number = a ∧ (x.load w).defaulted = x.defaulted) ∧
    (∀ b v, x.copyA = .bad → x.copyB = .good b v →
      (x.load w).working = v.loaded ∧ (x.load w).number = b ∧ (x.load w).defaulted = x.defaulted) ∧
    (x.copyA = .bad → x.copyB = .bad → (x.load w).working = {} ∧ (x.load w).defaulted = true)

/-! ### Ports -/

/-- PUT, TAKE and the byte gap timer (R190 to R192): a byte joins the frame of a port that assembles one and restarts
the timer; it waits in the latch of a port that does not; with IN-FULL set it is ignored. A TAKE takes the next byte of
the reply, and the last one leaves the port IDLE, where a byte that waits in the latch begins the next frame. The byte
that completes a frame has it checked: one that fails a test of R193 is answered at once, BAD-FRAME, UNKNOWN-REQUEST or
NO-RIGHT, and one that passes stays with its owner (which acts, in the model, when the request's row is taken,
notes/assumptions/1.md). That an expiry of a timer that is stopped changes nothing is the model's
(notes/assumptions/6.md). -/
def Obligations.BytesMoveOneAtATime : Prop :=
  ∀ (s : State) (p : PortId) (b : Byte),
    ((s.port p).latch = none → (s.port p).phase = .idle ∨ (s.port p).phase = .assembling →
      (Port.assemble b (s.port p)).complete = false →
      exec (.put p b) s = .next (s.begin.modPort p (fun x =>
        { x with
          phase := .assembling, frame := if x.taken < 1026 then x.frame ++ [b] else x.frame
          taken := x.taken + 1, gap := some 50 }))) ∧
    ((s.port p).latch = none → (s.port p).phase = .idle ∨ (s.port p).phase = .assembling →
      (Port.assemble b (s.port p)).complete = true →
      let x := Port.assemble b (s.port p)
      let answered (why : Reason) : Host.Outcome State Fault Refusal :=
        .next (s.begin.modPort p (fun _ =>
          { x with
            phase := .replying, frame := [], taken := 0, waiting := false, gap := none
            reply := replyBytes (if x.frameLength = 0 then 0 else x.frameKind)
              (if x.frameLength < 3 then 0 else x.frameTag) (.refused why []) }))
      (x.frameLength < 3 ∨ 1024 < x.frameLength → exec (.put p b) s = answered .badFrame) ∧
      (3 ≤ x.frameLength → x.frameLength ≤ 1024 →
        (x.frameKind = 0 ∨ 29 < x.frameKind → exec (.put p b) s = answered .unknownRequest) ∧
        (1 ≤ x.frameKind → x.frameKind ≤ 29 →
          (paramCountOk x.frameKind (x.frame.drop 5) = false → exec (.put p b) s = answered .badFrame) ∧
          (paramCountOk x.frameKind (x.frame.drop 5) = true →
            (s.mayRequest p x.frameKind = false → exec (.put p b) s = answered .noRight) ∧
            (s.mayRequest p x.frameKind = true →
              exec (.put p b) s =
                .next (s.begin.modPort p (fun _ => { x with phase := .atOwner, gap := none, waiting := false }))))))) ∧
    ((s.port p).latch = none → (s.port p).phase = .atOwner ∨ (s.port p).phase = .replying →
      exec (.put p b) s = .next (s.begin.modPort p (fun x => { x with latch := some b }))) ∧
    ((s.port p).latch.isSome → exec (.put p b) s = .next s.begin) ∧
    ((s.port p).reply = [] → exec (.take p) s = .next s.begin) ∧
    (∀ x y rest, (s.port p).reply = x :: y :: rest →
      exec (.take p) s = .next (s.begin.modPort p (fun q => { q with reply := y :: rest }))) ∧
    (∀ x, (s.port p).reply = [x] → (s.port p).latch = none →
      exec (.take p) s = .next (s.begin.modPort p (fun q =>
        { q with reply := [], phase := .idle, latch := none, frame := [], taken := 0, gap := none }))) ∧
    (∀ x y, (s.port p).reply = [x] → (s.port p).latch = some y →
      exec (.take p) s = .next (s.begin.modPort p (fun q =>
        { q with reply := [], phase := .assembling, latch := none, frame := [y], taken := 1, gap := some 50 }))) ∧
    ((s.port p).gap.isSome →
      exec (.byteGapTimerExpiry p) s = .next (s.begin.modPort p (fun x =>
        { x with phase := .idle, frame := [], taken := 0, gap := none, frameErrors := min 65535 (x.frameErrors + 1) }))) ∧
    ((s.port p).gap = none → exec (.byteGapTimerExpiry p) s = .next s.begin)

/-- A request sent whole to a free port runs as the request its owner has; without the right its kind needs it is
refused NO-RIGHT, and with a number of parameter bytes that 11.1 does not give its kind it is refused BAD-FRAME, and
nothing else changes (R193, 10.3). That a request of the table reaches the part in one step, and that a port that is
neither free nor holds it leaves it unsent, is the model's (notes/assumptions/1.md). -/
def Obligations.RequestOnAFreePortReachesItsOwner : Prop :=
  ∀ (c : Instr) (s : State) (p : PortId) (kind tag : Nat) (params : List Byte),
    requestOf c = some (p, kind, tag, params) → c.wf = true →
    (paramCountOk kind params = true → (s.port p).free = true →
      (s.mayRequest p kind = true →
        exec c s = exec c (s.modPort p (Port.withOwner (requestFrame kind tag params)))) ∧
      (s.mayRequest p kind = false → exec c s = .next (s.begin.answer p kind tag (.refused .noRight [])))) ∧
    (paramCountOk kind params = false → (s.port p).free = true →
      exec c s = .next (s.begin.answer p kind tag (.refused .badFrame []))) ∧
    ((s.port p).free = false → (s.port p).holdsRequest (requestFrame kind tag params) = false → exec c s = .next s.begin)

/-! ### Requests that read -/

/-- READ-REJECTS may be sent from any port and changes nothing (R39): only the port that asked has its reply. -/
def Obligations.ReadRejectsListsTheLog : Prop :=
  ∀ (s : State) (p : PortId) (tag job first : Nat), s.mayRequest p 13 = true ∧
    ((s.port p).holdsRequest (requestFrame 13 tag (u16 job ++ u8 first)) = true →
      (s.job? job = none → exec (.readRejects p tag job first) s = .next (s.begin.answer p 13 tag (.refused .noSuch []))) ∧
      (∀ j, s.job? job = some j → j.log.length < first →
        exec (.readRejects p tag job first) s = .next (s.begin.answer p 13 tag (.refused .badParameter []))) ∧
      (∀ j, s.job? job = some j → first ≤ j.log.length →
        exec (.readRejects p tag job first) s = .next (s.begin.answer p 13 tag
          (.good (u8 (j.log.length - first) ++ u16 (j.rejected - j.log.length) ++
            ((j.log.drop first).map (fun e =>
              u16 e.attempt ++ opt8 (e.workBay.map Fin.val) ++ u8 e.cause.code ++ opt32 e.firstMismatch)).flatten)))))

/-- READ-SETTINGS may be sent from any port and changes nothing; its reply carries the working set, the three flags and the
number (R202). That a flag is sent as 1 for set and 0 for clear (notes/assumptions/21.md), and that no count byte stands before
the items (notes/assumptions/69.md), is the model's. -/
def Obligations.ReadSettingsGivesTheWorkingSet : Prop :=
  ∀ (s : State) (p : PortId) (tag : Nat), s.mayRequest p 27 = true ∧
    ((s.port p).holdsRequest (requestFrame 27 tag []) = true →
      exec (.readSettings p tag) s = .next (s.begin.answer p 27 tag
        (.good (((List.range 16).map (fun i => u32 (s.sst.working.item (i + 1)))).flatten ++ flag s.sst.unsaved
          ++ flag s.sst.defaulted ++ flag s.sst.save.isSome ++ u16 s.sst.number))))

/-- QUERY-IMAGE, QUERY-JOB, QUERY-BAY and QUERY-TOWER change nothing but the asking port, which has its reply (R60, R38,
R132, R173). Where 11.1 leaves the layout of a reply open, its bytes are the model's (notes/assumptions/21.md, 22.md). -/
def Obligations.QueriesOnlyReply : Prop :=
  ∀ (s : State) (p : PortId) (tag : Nat),
    (∀ image, (s.port p).holdsRequest (requestFrame 6 tag (u16 image)) = true →
      (image = 0 → exec (.queryImage p tag image) s = .next (s.begin.answer p 6 tag (.good s.catalogueBytes))) ∧
      (∀ x, image ≠ 0 → s.image? image = some x →
        exec (.queryImage p tag image) s = .next (s.begin.answer p 6 tag (.good x.bytes))) ∧
      (image ≠ 0 → s.image? image = none →
        exec (.queryImage p tag image) s = .next (s.begin.answer p 6 tag (.refused .noSuch [])))) ∧
    (∀ job, (s.port p).holdsRequest (requestFrame 12 tag (u16 job)) = true →
      (∀ j, s.job? job = some j →
        exec (.queryJob p tag job) s = .next (s.begin.answer p 12 tag (.good (s.jobBytes j)))) ∧
      (s.job? job = none →
        exec (.queryJob p tag job) s = .next (s.begin.answer p 12 tag (.refused .noSuch [])))) ∧
    (∀ bay, (s.port p).holdsRequest (requestFrame 14 tag (u8 bay)) = true →
      (∀ n : BayId, bay = n.val →
        exec (.queryBay p tag bay) s = .next (s.begin.answer p 14 tag (.good (s.bayBytes n)))) ∧
      (11 < bay → exec (.queryBay p tag bay) s = .next (s.begin.answer p 14 tag (.refused .badParameter [])))) ∧
    ((s.port p).holdsRequest (requestFrame 21 tag []) = true →
      exec (.queryTower p tag) s = .next (s.begin.answer p 21 tag (.good s.towerBytes)))

/-! ### Requests on images -/

/-- An accepted OPEN-IMAGE fills an entry with the number the counter gives and the lowest free extents (R56, R47, R48,
R51); an accepted IMAGE-FROM-DISC does so for a master, and a master-read request joins its queue (R65, R45). That the flag
bits above bit 1 are not looked at is the model's (notes/assumptions/25.md). -/
def Obligations.AnOpenFillsAnEntry : Prop :=
  ∀ (s : State) (p : PortId) (tag length flags : Nat), 1 ≤ length → s.cat.images.length < 16 →
    (length + 4095) / 4096 ≤ s.cat.freeExtents.length →
    (∀ code kind, imageKindOf code = some kind → length ≤ kind.maxLength →
      (s.port p).holdsRequest (requestFrame 1 tag (u8 code ++ u32 length ++ u8 flags)) = true →
      exec (.openImage p tag code length flags) s =
        .next ({ s.begin with
          cat.images := s.cat.images ++
            [{ number := s.cat.nextNumber, kind := kind, state := .filling, owner := p
               isProtected := flags.testBit 0, shared := flags.testBit 1, length := length, source := .intake
               extents := s.cat.freeExtents.take ((length + 4095) / 4096) }]
          cat.counter := nextNumber s.cat.nextNumber : State }.answer p 1 tag
            (.good (u16 s.cat.nextNumber ++ u16 ((length + 4095) / 4096))))) ∧
    (∀ code x, spindleOf code = some x → length ≤ 4194304 → s.jsc.masters.length < 4 →
      (s.port p).holdsRequest (requestFrame 5 tag (u32 length ++ u8 code ++ u8 flags)) = true →
      exec (.imageFromDisc p tag length code flags) s =
        .next (({ s.begin with
          cat.images := s.cat.images ++
            [{ number := s.cat.nextNumber, kind := .disc, state := .filling, owner := p
               isProtected := flags.testBit 0, shared := flags.testBit 1, length := length, source := .master none
               extents := s.cat.freeExtents.take ((length + 4095) / 4096) }]
          cat.counter := nextNumber s.cat.nextNumber
          jsc.masters := s.jsc.masters ++ [{ image := s.cat.nextNumber, spindle := x, seq := s.jsc.seqCounter }]
          jsc.seqCounter := (s.jsc.seqCounter + 1) % 4294967296 : State }.duePass.answer p 5 tag
            (.good (u16 s.cat.nextNumber ++ u16 ((length + 4095) / 4096)))).settle))

/-- The number an image takes is one that no entry holds (R48); the same for a job (R20). So every step keeps the job numbers
distinct, and it keeps a job's state with its hold set: one that is neither DRAINING nor terminal is HELD exactly while its
hold set has a member (R25, R27). -/
def Obligations.NewNumbersAreFree : Prop :=
  (∀ taken : List Nat, ∀ n, taken.Nodup → taken.length < 65535 → (∀ k ∈ taken, 1 ≤ k ∧ k ≤ 65535) → 1 ≤ n →
    n ≤ 65535 →
    let k := freeNumber taken taken.length n
    k ∉ taken ∧ 1 ≤ k ∧ k ≤ 65535) ∧
  ∀ s t : State, s.jobsSafe → step s = .next t → t.jobsSafe

/-- SEAL-IMAGE by the owner of a FILLING intake image (R57): SHORT below the declared length; sealed and FILLING until the
last block is in; READY at once when it is. -/
def Obligations.SealingAnImage : Prop :=
  ∀ (s : State) (p : PortId) (tag i : Nat) (x : Image), s.image? i = some x → x.owner = p → x.state = .filling →
    x.source = .intake → (s.port p).holdsRequest (requestFrame 2 tag (u16 i)) = true →
    (x.accepted < x.length → exec (.sealImage p tag i) s =
      .next (s.begin.answer p 2 tag (.refused .short (u32 x.accepted ++ u32 x.ingested)))) ∧
    (x.length ≤ x.accepted → x.isSealed = true →
      exec (.sealImage p tag i) s = .next (s.begin.answer p 2 tag (.good (u8 1)))) ∧
    (x.length ≤ x.accepted → x.isSealed = false → x.ingested ≠ x.length →
      exec (.sealImage p tag i) s =
        .next ((s.begin.modImage i (fun y => { y with isSealed := true })).answer p 2 tag (.good (u8 1)))) ∧
    (x.length ≤ x.accepted → x.isSealed = false → x.ingested = x.length →
      exec (.sealImage p tag i) s =
        .next (((((s.begin.modImage i (fun y => { y with isSealed := true, state := .ready })).deliver
          { kind := .imageReady, subject := .image i, detail := .none }).refreshNaming i).answer p 2 tag
            (.good (u8 2))).settle))

/-- ABANDON-IMAGE turns a FILLING image LOST (R58, R54). Its blocks leave the intake FIFO, all but a head block whose write is
outstanding, and the others keep their order (R54, R63); its accepted count becomes what is stored and what the FIFO still
holds (R62). Each job that names it and is neither DRAINING nor terminal gains IMAGE-LOST and is HELD, or terminal if that
was its last record, with JOB-HELD delivered for a cause that is new; the table is taken to meet the invariant that ties a
job's state to its hold set (State.jobsSafe); a job that is DRAINING or terminal keeps its hold set
(R54, R27). A disc image's streams close (R101), its master-read request leaves the queue, and IMAGE-LOST is delivered
(R54). DELETE-IMAGE turns a READY image DOOMED and frees one that nothing uses; one that is LOST and still has an access
outstanding is freed by its last access (R59, R55). That the reply to an abandon carries 1 for an entry that is freed and 0
for one that is not, and the reply to a delete that frees its entry 255, is the model's (notes/assumptions/21.md). -/
def Obligations.RemovingAnImage : Prop :=
  ∀ (s : State) (p : PortId) (tag i : Nat) (x : Image), s.image? i = some x → x.isProtected = false ∨ x.owner = p →
    (x.state = .filling → (s.port p).holdsRequest (requestFrame 3 tag (u16 i)) = true →
      exec (.abandonImage p tag i) s =
        .next (((s.begin.imageLost i .abandoned).answer p 3 tag
          (.good (flag ((s.begin.imageLost i .abandoned).image? i).isNone))).settle) ∧
      ∃ u, exec (.abandonImage p tag i) s = .next u ∧
        let naming (j : Job) : Prop := j.discImage = some i ∨ j.labelImage = some i
        let kept := if s.ipt.writing then 1 else 0
        u.ipt = { s.ipt with
          fifo := s.ipt.fifo.take kept ++ (s.ipt.fifo.drop kept).filter (fun b => b.image != i) } ∧
        (∀ y, u.image? i = some y → y.state = .lost ∧ y.loss = some .abandoned ∧
          (x.source = .intake → y.accepted = x.ingested + u.ipt.fifo.countP (fun b => b.image == i))) ∧
        (∀ k j, s.jobsSafe → s.job? k = some j → naming j → j.live = true →
          (∃ v, u.job? k = some v ∧ v.holds.imageLost = true ∧ (v.state = .held ∨ v.state.terminal = true)) ∧
          (j.holds.imageLost = false → s.told u { kind := .jobHeld, subject := .job k, detail := .hold .imageLost })) ∧
        (∀ k j, s.job? k = some j → j.live = false → ∃ v, u.job? k = some v ∧ v.holds = j.holds) ∧
        (∀ n y, x.kind = .disc → s.stream n = some y → y.image = i → u.stream n = none) ∧
        (∀ q ∈ u.jsc.masters, q.image ≠ i) ∧
        s.told u { kind := .imageLost, subject := .image i, detail := .loss .abandoned }) ∧
    ((s.port p).holdsRequest (requestFrame 4 tag (u16 i)) = true →
      (x.state = .ready → x.refs ≠ 0 ∨ x.accesses ≠ 0 →
        exec (.deleteImage p tag i) s =
          .next ((s.begin.modImage i (fun y => { y with state := .doomed })).answer p 4 tag (.good (u8 3)))) ∧
      (x.state = .ready ∨ x.state = .lost → x.refs = 0 → x.accesses = 0 →
        exec (.deleteImage p tag i) s =
          .next ({ s.begin with cat.images := s.cat.images.filter (fun y => y.number != i) : State }.answer p 4 tag
            (.good (u8 255)))) ∧
      (x.state = .lost → x.refs = 0 → x.accesses ≠ 0 →
        exec (.deleteImage p tag i) s = .next (s.begin.answer p 4 tag (.good (u8 4)))) ∧
      (x.state = .lost → 0 < x.refs →
        exec (.deleteImage p tag i) s = .next (s.begin.answer p 4 tag (.refused .inUse []))) ∧
      (x.state = .filling ∨ x.state = .doomed →
        exec (.deleteImage p tag i) s = .next (s.begin.answer p 4 tag (.refused .wrongState []))))

/-! ### Requests on jobs -/

/-- An accepted SUBMIT-JOB enters its job with the next number and sequence value, the hold set and state of R24 and R25,
and a reference on each image it names; a pass follows (R22 to R25, R20). -/
def Obligations.SubmitEntersTheJob : Prop :=
  ∀ (s : State) (p : PortId) (tag : Nat) (params : SubmitParams) (parsed : Job),
    submitParse params p = some parsed → s.submitRefusal p parsed = none →
    (s.port p).holdsRequest (requestFrame 7 tag (submitBytes params)) = true →
    ∃ j : Job, j.number = s.jsc.nextJob ∧ j.seq = s.jsc.seqCounter ∧ j.holds = s.submitHolds parsed ∧
      j.state = (if j.holds.nonempty then .held else if s.imagesMet j then .active else .waitingImage) ∧
      j = { parsed with number := j.number, seq := j.seq, holds := j.holds, state := j.state } ∧
      exec (.submitJob p tag params) s =
        .next (((forEach (j.discImage.toList ++ j.labelImage.toList) State.addRef
          { s.begin with
            jsc.jobs := s.jsc.jobs ++ [j], jsc.jobCounter := nextNumber j.number
            jsc.seqCounter := (s.jsc.seqCounter + 1) % 4294967296 }).duePass.answer p 7 tag (.good j.submitBytes)).settle)

/-- HOLD-JOB adds BY-CLIENT, with JOB-HELD when the cause is new; RELEASE-JOB removes BY-CLIENT, REJECT-HOLD and CLEARED
(R29, R30, R27). -/
def Obligations.HoldingAndReleasingAJob : Prop :=
  ∀ (s : State) (p : PortId) (tag job : Nat) (j : Job), s.job? job = some j → j.live = true →
    j.owner = p ∨ s.holds p .manage = true →
    ((s.port p).holdsRequest (requestFrame 8 tag (u16 job)) = true →
      (j.holds.byClient = true →
        exec (.holdJob p tag job) s = .next (s.begin.answer p 8 tag (.good (u8 j.state.code)))) ∧
      (j.holds.byClient = false →
        exec (.holdJob p tag job) s =
          .next (((s.begin.modJob job (fun x => { x with holds.byClient := true, state := .held })).deliver
            { kind := .jobHeld, subject := .job job, detail := .hold .byClient }).answer p 8 tag (.good (u8 3))))) ∧
    ((s.port p).holdsRequest (requestFrame 9 tag (u16 job)) = true →
      (j.holds.imageLost = true ∨ j.holds.serialEnd = true →
        exec (.releaseJob p tag job) s = .next (s.begin.answer p 9 tag (.refused .wrongState []))) ∧
      (j.holds.imageLost = false → j.holds.serialEnd = false →
        ∃ t u : State, t = ((s.begin.removeHold .byClient job).removeHold .rejectHold job).removeHold .cleared job ∧
          t.job? job = some { j with
            holds.byClient := false, holds.rejectHold := false, holds.cleared := false
            state :=
              if j.holds.byClient || j.holds.rejectHold || j.holds.cleared then
                (if j.holds.noBlanks || j.holds.spindleSuspect then .held
                 else if s.imagesMet j then .active else .waitingImage)
              else j.state } ∧
          u = t.answer p 9 tag (.good (t.stateBytes job ++
            u8 (setBits [false, j.holds.noBlanks, false, false, false, false, j.holds.spindleSuspect]))) ∧
          exec (.releaseJob p tag job) s = .next u.settle))

/-- CANCEL-JOB (R34): a job that is not draining begins to drain, a SOFT or FAIL drain is raised to HARD, and a job that
drains so already is left as it is. When a drain begins the job's LOADs that the arm has not selected leave the queue
(R36), and the job is DRAINING while a record of it is left and CANCELLED when none is and no load is pending (R26).
Each record of the job is treated by the row of R35 for its position, SOFT or HARD: a blank in a bay before WRITING
becomes SPARE, a disc in hand goes on or, under HARD, is rejected CANCELLED with ABORT on a bay that works, a stalled
disc is rejected (R184), and a print in hand goes on. A record's place is taken to be its own, and a record at ARM that
of the current move. -/
def Obligations.CancellingAJob : Prop :=
  ∀ (s : State) (p : PortId) (tag job code : Nat) (k : DrainKind) (j : Job), s.job? job = some j →
    j.owner = p ∨ s.holds p .manage = true → j.state.terminal = false → drainOf code = some k →
    (s.port p).holdsRequest (requestFrame 10 tag (u16 job ++ u8 code)) = true →
    let treated (u : State) (hard : Prop) : Prop :=
      (∀ c x m, s.disc c = some x → x.location = .arm → s.tsq.arm.move = some m → m.entry.disc = some c) →
      ∀ d r, s.disc d = some r → r.job = some job → (∀ c x, c ≠ d → s.disc c = some x → x.location ≠ r.location) →
        let kept := u.disc d = some r
        let ended := (u.disc d).map Disc.verdict = some .reject ∧ (u.disc d).bind Disc.cause = some .cancelled
        let blank := r.steps.isEmpty = true
        let stalled := s.psc.state = .loaded ∧ (s.psc.step = some .stalledSerial ∨ s.psc.step = some .stalledArtwork)
        (r.verdict ≠ .pending → kept) ∧
        (r.verdict = .pending →
          (r.location = .arm → (blank ∨ ¬hard → kept) ∧ (¬blank → hard → ended)) ∧
          (r.location = .printer →
            (s.psc.state = .printing → kept) ∧
            (s.psc.state ≠ .printing → blank ∨ hard ∨ stalled → ended) ∧
            (s.psc.state ≠ .printing → ¬blank → ¬hard → ¬stalled → kept)) ∧
          (∀ n, r.location = .bay n →
            let st := (s.bay n).state
            let working := st = .writing ∨ st = .closing ∨ st = .verifying
            (blank → st = .trayOut ∨ st = .probing ∨ st = .grantWait ∨ st = .prefill →
              (u.disc d).map Disc.purpose = some .spare ∧ (u.disc d).bind Disc.job = none) ∧
            (¬blank ∨ working → (¬hard → kept) ∧ (hard → ended)) ∧
            (working → hard → .bay n .abort ∈ u.sent)))
    (j.drain = none →
      let u := s.begin.startDrain job k
      exec (.cancelJob p tag job code) s = .next ((u.answer p 10 tag (.good (u.stateBytes job))).settle) ∧
        (u.job? job).map Job.drain = some (some k) ∧
        ((∃ d r, u.disc d = some r ∧ r.job = some job) → (u.job? job).map Job.state = some .draining) ∧
        ((∀ d r, u.disc d = some r → r.job ≠ some job) → (u.job? job).map Job.loads = some 0 →
          (u.job? job).map Job.state = some .cancelled) ∧
        (∀ e ∈ u.tsq.queue, e.cls = .load → e.job ≠ some job) ∧
        (∀ e ∈ s.tsq.queue, e.cls = .load → e.job ≠ some job → e ∈ u.tsq.queue) ∧ treated u (k = .hard)) ∧
    (j.drain = some .soft ∨ j.drain = some .fail → k = .hard →
      let u := s.begin.hardenDrain job
      exec (.cancelJob p tag job code) s = .next ((u.answer p 10 tag (.good (u.stateBytes job))).settle) ∧
        (u.job? job).map Job.drain = some (some .hard) ∧ treated u True) ∧
    (j.drain = some .hard ∨ (j.drain.isSome ∧ k = .soft) →
      exec (.cancelJob p tag job code) s = .next (s.begin.answer p 10 tag (.good (u8 j.state.code))))

/-- RETIRE-JOB (R37). -/
def Obligations.RetiringAJob : Prop :=
  ∀ (s : State) (p : PortId) (tag job : Nat), (s.port p).holdsRequest (requestFrame 11 tag (u16 job)) = true →
    (s.job? job = none → exec (.retireJob p tag job) s = .next (s.begin.answer p 11 tag (.refused .noSuch []))) ∧
    (∀ j, s.job? job = some j → j.owner ≠ p → s.holds p .manage = false →
      exec (.retireJob p tag job) s = .next (s.begin.answer p 11 tag (.refused .notOwner []))) ∧
    (∀ j, s.job? job = some j → j.owner = p ∨ s.holds p .manage = true →
      (j.state ≠ .complete → j.state ≠ .cancelled → j.state ≠ .failed →
        exec (.retireJob p tag job) s = .next (s.begin.answer p 11 tag (.refused .wrongState []))) ∧
      (j.state = .complete ∨ j.state = .cancelled ∨ j.state = .failed →
        ∃ t, exec (.retireJob p tag job) s = .next t ∧
          t = { s.begin with jsc.jobs := s.jsc.jobs.filter (fun x => x.number != job) : State }.answer p 11 tag (.good []) ∧
          t.job? job = none ∧ job ∉ t.jsc.jobs.map Job.number))

/-! ### Requests on the mechanisms -/

/-- BAY-OFFLINE of a bay at work marks it and is answered PENDING; of an idle bay, or one in FAULT with no disc and no
errand, it takes effect at once; of a bay in SPARE it ends the spare hold (R128, R127, R44). BAY-ONLINE clears the fault
count and the mark, and brings an OFFLINE bay, or one in FAULT with no disc, back to EMPTY; one in FAULT with a disc
goes to HOLDING with the disc's CLEAR (R129, R12). What becomes of the errand, the timers and a MOVING tray of a bay
that goes OFFLINE is the model's (notes/assumptions/19.md), as are the codes of the replies (notes/assumptions/21.md). -/
def Obligations.TakingABayOffAndOn : Prop :=
  ∀ (s : State) (p : PortId) (tag : Nat) (n : BayId), (s.bay n).state ≠ .absent →
    ((s.port p).holdsRequest (requestFrame 15 tag (u8 n.val)) = true →
      ((s.bay n).state = .offline →
        exec (.bayOffline p tag n.val) s = .next (s.begin.answer p 15 tag (.good (u8 2 ++ u8 1)))) ∧
      ((s.bay n).state ≠ .offline → (s.bay n).offline.isSome →
        exec (.bayOffline p tag n.val) s = .next (s.begin.answer p 15 tag (.good (u8 (s.bay n).state.code ++ u8 2)))) ∧
      ((s.bay n).state ≠ .offline → (s.bay n).offline = none → s.offlineReady n = false → (s.bay n).state ≠ .spare →
        exec (.bayOffline p tag n.val) s =
          .next ((s.begin.modBay n (fun b => { b with offline := some .client })).answer p 15 tag
            (.good (u8 (s.bay n).state.code ++ u8 2)))) ∧
      ((s.bay n).offline = none → s.offlineReady n = true →
        exec (.bayOffline p tag n.val) s =
          .next ((((s.begin.modBay n (fun b =>
            { b with
              state := .offline, offline := none, errand := .none, timers := {}
              tray := if b.tray = .moving then .unknown else b.tray })).deliver
            { kind := .bayOffline, subject := .bay n, detail := .offline .client }).dueSweep.answer p 15 tag
            (.good (u8 2 ++ u8 1))).settle)) ∧
      (∀ d r, (s.bay n).state = .spare → (s.bay n).offline = none → s.discAt (.bay n) = some d → s.disc d = some r →
        r.purpose = .spare → r.verdict = .pending →
        ∃ u : State, exec (.bayOffline p tag n.val) s = .next ((u.answer p 15 tag (.good (u8 15 ++ u8 2))).settle) ∧
          (u.bay n).state = .holding ∧ (u.bay n).offline = some .client ∧ u.jsc.spareHold[n] = none ∧
          (u.disc d).map Disc.verdict = some .reject ∧ (u.disc d).bind Disc.cause = some .cancelled)) ∧
    ((s.port p).holdsRequest (requestFrame 16 tag (u8 n.val)) = true →
      ((s.bay n).state ≠ .offline → (s.bay n).state ≠ .fault →
        exec (.bayOnline p tag n.val) s =
          .next ((s.begin.modBay n (fun b => { b with faults := 0, offline := none })).answer p 16 tag
            (.good (u8 (s.bay n).state.code)))) ∧
      ((s.bay n).state = .offline ∨ ((s.bay n).state = .fault ∧ s.discAt (.bay n) = none) →
        exec (.bayOnline p tag n.val) s =
          .next (((s.begin.modBay n (fun b => { b with faults := 0, offline := none, state := .empty })).dueBoth.answer
            p 16 tag (.good (u8 3))).settle)) ∧
      (∀ d r, (s.bay n).state = .fault → s.discAt (.bay n) = some d → s.disc d = some r →
        ∃ u : State, exec (.bayOnline p tag n.val) s = .next ((u.answer p 16 tag (.good (u8 15))).settle) ∧
          u.bay n = { s.bay n with faults := 0, offline := none, state := .holding } ∧ u.discs = s.discs ∧
          u.tsq.queue = s.tsq.queue ++
            (if (r.purpose = .master ∧ r.verdict = .pending) ∨ s.hasEntry d = true then []
             else
              (s.requiredDest r).toList.map (fun dest =>
                ({ cls := .clear, source := .bay n, dest := dest, disc := some d, time := s.tsq.clock } : Entry)))))

/-- SET-SPINDLE keeps the class and the count, at most the capacity, and the state they give; the jobs are then evaluated
(R164, R28). A spindle that turns EMPTY by it is treated as R163 gives, which the second clause leaves to
State.turnEmpty. -/
def Obligations.SettingASpindle : Prop :=
  ∀ (s : State) (p : PortId) (tag code cls count : Nat) (x : Spindle) (c : Option MediaClass) (k : Option Nat),
    spindleOf code = some x → declaredClassOf cls = some c → spindleCountOf count = some k →
    (s.port p).holdsRequest (requestFrame 17 tag (u8 code ++ u8 cls ++ u8 count)) = true →
    let kept := k.map (fun v => min v (s.spindle x).capacity)
    let u := s.begin.modSpindle x (fun r =>
      { r with cls := c, count := kept, wrong := 0, state := if kept = some 0 then .empty else .normal })
    (kept ≠ some 0 ∨ (s.spindle x).state = .empty →
      exec (.setSpindle p tag code cls count) s =
        .next ((u.evalSpindles.clearSuspectHolds.dueBoth.answer p 17 tag
          (.good (u.evalSpindles.clearSuspectHolds.dueBoth.spindle x).bytes)).settle)) ∧
    (kept = some 0 → (s.spindle x).state ≠ .empty →
      exec (.setSpindle p tag code cls count) s =
        .next ((((u.turnEmpty x).evalSpindles.clearSuspectHolds.dueBoth).answer p 17 tag
          (.good ((u.turnEmpty x).evalSpindles.clearSuspectHolds.dueBoth.spindle x).bytes)).settle))

/-- SPINDLE-EMPTIED (R166): refused BAD-PARAMETER for a place that is not OUT or REJ; otherwise the count becomes 0, full
reported clears, the reservations stay, the reply carries count and reservations, and a selection follows. That a free port
without MANAGE is answered NO-RIGHT in the step of the request's row is the model's (notes/assumptions/1.md). -/
def Obligations.EmptyingOutOrRej : Prop :=
  ∀ (s : State) (p : PortId) (tag place : Nat),
    ((s.port p).free = true → s.holds p .manage = false → place < 256 → tag < 65536 →
      exec (.spindleEmptied p tag place) s = .next (s.begin.answer p 18 tag (.refused .noRight []))) ∧
    ((s.port p).holdsRequest (requestFrame 18 tag (u8 place)) = true →
      (place ≠ 3 → place ≠ 4 →
        exec (.spindleEmptied p tag place) s = .next (s.begin.answer p 18 tag (.refused .badParameter []))) ∧
      (place = 3 → exec (.spindleEmptied p tag place) s =
        .next (({ s.begin with tsq.out.count := 0, tsq.out.full := false : State }.dueSelect.answer p 18 tag
          (.good (u8 0 ++ u8 s.tsq.out.reserved))).settle)) ∧
      (place = 4 → exec (.spindleEmptied p tag place) s =
        .next (({ s.begin with tsq.rej.count := 0, tsq.rej.full := false : State }.dueSelect.answer p 18 tag
          (.good (u8 0 ++ u8 s.tsq.rej.reserved))).settle)))

/-- CLEAR-TOWER leaves no grant, no waiting entry and no stream, no transport entry, no move and no reservation, no load
pending, and a sweep that begins with the arm, which is halted unless it was STOPPED (R171, R87, R104). Each bay that is not
ABSENT sends ABORT if it works, and is torn down; it is HOLDING with a disc and EMPTY without one, but for HOLDING, FAULT and
OFFLINE, which are kept (R130). Every PENDING record is rejected CLEARED, a final one is kept (R18, R171, R130, R187), and a
master at a bay is rejected IMAGE-LOST with the abort of its read, unless that was reported complete (R130, R126, R68). Each
job that is neither DRAINING nor terminal gains CLEARED, with JOB-HELD for a cause that is new; DRAINING jobs keep their
drain kind and hold set, no budget reject is counted, no master-read request stays assigned and no spare hold runs (R46).
The station goes to LEAVING from LOADED and to VACANT from RESERVED, and is kept otherwise (R187). Four clauses are the
model's, and no rule's: that no bay has an errand afterwards, and that the queue is empty also where R126 has a FAULT bay
queue the CLEAR of its master (notes/assumptions/20.md); that a master whose image is already LOST is rejected as well
(notes/assumptions/31.md); and that a pending offline takes effect at once (notes/assumptions/56.md). -/
def Obligations.ClearTowerEmptiesTheTower : Prop :=
  ∀ (s : State) (p : PortId) (tag : Nat), (s.port p).holdsRequest (requestFrame 20 tag []) = true →
    ∃ t, exec (.clearTower p tag) s = .next t ∧ (∀ n, t.grant n = none) ∧ t.rgu.queue = [] ∧
      (∀ n, t.stream n = none) ∧ t.tsq.phase = .sweeping .arm ∧ t.tsq.queue = [] ∧ t.tsq.arm.move = none ∧
      t.tsq.tenure = none ∧ t.tsq.out.reserved = 0 ∧ t.tsq.rej.reserved = 0 ∧ (∀ n, t.bayRes n = none) ∧
      (∀ j ∈ t.jsc.jobs, j.loads = 0) ∧ t.psc.reservedFor = none ∧
      t.tsq.arm.state = (if s.tsq.door = .closed then .homing else .stopped) ∧
      t.tsq.arm.motion = (if s.tsq.door = .closed then some .home else none) ∧ t.tsq.door = s.tsq.door ∧
      t.mem = s.mem ∧ t.sst = s.sst ∧ t.tsq.inA = s.tsq.inA ∧ t.tsq.inB = s.tsq.inB ∧
      t.tsq.arm.fault = none ∧ (.arm .halt ∈ t.sent ↔ s.tsq.arm.state ≠ .stopped) ∧
      (∀ n, let b := s.bay n
        let disc := (s.discAt (.bay n)).isSome
        (t.bay n).state = (match b.state with
          | .absent | .offline | .holding => b.state
          | .fault => if disc = false ∧ b.offline.isSome then .offline else .fault
          | _ => if disc then .holding else if b.offline.isSome then .offline else .empty) ∧
        (.bay n .abort ∈ t.sent ↔ b.state.working = true) ∧
        (b.state ≠ .absent →
          (t.bay n).fifo = [] ∧ (t.bay n).holding = [] ∧ (t.bay n).engine = {} ∧ (t.bay n).wantCredit = 0 ∧
          (t.bay n).sentBlocks = 0 ∧ (t.bay n).refillHold = false ∧ (t.bay n).speedPending = false ∧
          (t.bay n).imageLostMark = false ∧ (t.bay n).errand = .none ∧ (t.bay n).faults = b.faults ∧
          ((t.bay n).state ≠ .offline →
            (t.bay n).timers = { tray := b.timers.tray } ∧ (t.bay n).offline = b.offline))) ∧
      (∀ d r, s.disc d = some r →
        (r.verdict ≠ .pending → t.disc d = some r) ∧
        (r.verdict = .pending → r.purpose ≠ .master ∨ r.location = .arm →
          t.disc d = some { r with verdict := .reject, cause := some .cleared }) ∧
        (∀ n i x, r.verdict = .pending → r.purpose = .master → r.location = .bay n → s.discAt (.bay n) = some d →
          r.image = some i → s.masterOf i = some d → s.image? i = some x → x.kind = .disc →
          t.disc d = some (if x.state = .lost ∨ x.readDone = false
            then { r with verdict := .reject, cause := some .imageLost } else r))) ∧
      (∀ k j, s.job? k = some j → ∃ v, t.job? k = some v ∧ v.good = j.good ∧ v.budgetRejects = j.budgetRejects ∧
        (j.live = true → s.jobsSafe →
          v.holds.cleared = true ∧ (v.state = .held ∨ v.state.terminal = true) ∧
          (j.holds.cleared = false → s.told t { kind := .jobHeld, subject := .job k, detail := .hold .cleared })) ∧
        (j.live = false → v.holds = j.holds ∧ v.drain = j.drain)) ∧
      (∀ q ∈ t.jsc.masters, q.assigned = false) ∧ t.jsc.spareHold = Vector.replicate 12 none ∧
      (s.psc.state = .loaded → t.psc.state = .loaded ∧ t.psc.step = some .leaving) ∧
      (s.psc.state = .reserved → t.psc.state = .vacant) ∧
      (s.psc.state ≠ .loaded → s.psc.state ≠ .reserved → t.psc.state = s.psc.state)

/-! ### Notices -/

/-- BOOK-NOTICE takes the lowest-numbered free slot; DROP-BOOKING frees one slot or, with 255, all (R195, R196). -/
def Obligations.BookingsComeAndGo : Prop :=
  ∀ (s : State) (p : PortId) (tag : Nat),
    (∀ event scope btag action k a, eventKindOf event = some k → actionOf action = some a →
      (s.port p).holdsRequest (requestFrame 23 tag (u8 event ++ u16 scope ++ u16 btag ++ u8 action)) = true →
      (scope ≠ 0 → 6 < k.code → exec (.bookNotice p tag event scope btag action) s =
        .next (s.begin.answer p 23 tag (.refused .badParameter []))) ∧
      (scope = 0 ∨ k.code ≤ 6 →
        ((∀ i : Fin 8, (s.port p).bookings[i].isSome) → exec (.bookNotice p tag event scope btag action) s =
          .next (s.begin.answer p 23 tag (.refused .tableFull []))) ∧
        (∀ i : Fin 8, (s.port p).bookings[i] = none → (∀ h < i, (s.port p).bookings[h].isSome) →
          exec (.bookNotice p tag event scope btag action) s =
            .next ((s.begin.modPort p (fun x =>
              { x with
                bookings := x.bookings.set i
                  (some { kind := k, scope := if scope = 0 then none else some scope, tag := btag, action := a }) })).answer
              p 23 tag (.good (u8 i.val)))))) ∧
    (∀ slot, (s.port p).holdsRequest (requestFrame 24 tag (u8 slot)) = true →
      (slot = 255 → exec (.dropBooking p tag slot) s =
        .next ((s.begin.modPort p (fun x => { x with bookings := Vector.replicate 8 none })).answer p 24 tag
          (.good (u8 (s.port p).booked.length)))) ∧
      (7 < slot → slot ≠ 255 → exec (.dropBooking p tag slot) s =
        .next (s.begin.answer p 24 tag (.refused .badParameter []))) ∧
      (∀ i : Fin 8, slot = i.val → (s.port p).bookings[i] = none → exec (.dropBooking p tag slot) s =
        .next (s.begin.answer p 24 tag (.refused .noSuch []))) ∧
      (∀ i : Fin 8, slot = i.val → (s.port p).bookings[i].isSome → exec (.dropBooking p tag slot) s =
        .next ((s.begin.modPort p (fun x => { x with bookings := x.bookings.set i none })).answer p 24 tag (.good []))))

/-- FETCH-NOTICE takes the oldest notice and clears the overflow flag; SET-ATTENTION sets the enable or keeps it (R199,
R200). The tag bytes of NONE (notes/assumptions/53.md), ATTN as a flag (notes/assumptions/21.md) and the eight booking slots
without a count byte (notes/assumptions/69.md) are the model's. -/
def Obligations.NoticesAreFetchedInOrder : Prop :=
  ∀ (s : State) (p : PortId) (tag : Nat),
    ((s.port p).holdsRequest (requestFrame 25 tag []) = true →
      exec (.fetchNotice p tag) s =
        .next ((s.begin.modPort p (fun x => { x with notices := x.notices.drop 1, overflow := false })).answer p 25 tag
          (.good (noticeBytes (s.port p).notices.head? (s.port p).overflow ((s.port p).notices.length - 1))))) ∧
    (∀ setting on, (setting = 1 ∧ on = true) ∨ (setting = 2 ∧ on = false) ∨ (setting = 3 ∧ on = (s.port p).attention) →
      (s.port p).holdsRequest (requestFrame 26 tag (u8 setting)) = true →
      exec (.setAttention p tag setting) s =
        .next ((s.begin.modPort p (fun x => { x with attention := on })).answer p 26 tag
          (.good ({ s.port p with attention := on : Port }.attentionBytes (s.sst.working.rights p)))))

/-- A notice joins the tail of a port's queue while it holds fewer than sixteen; at sixteen it is dropped and the
overflow flag is set (R197). Of several bookings that match one event each makes its notice, in slot order. A
COPY-REJECTED event that matches a NOTIFY-HOLD booking of the job's owner, or of a port with MANAGE, adds REJECT-HOLD to
a job that is neither DRAINING nor terminal, which is then HELD, and a JOB-HELD event follows when the cause is new;
without such a booking the job stays as it is (R198, R27). -/
def Obligations.AFullNoticeQueueDropsTheNewest : Prop :=
  (∀ (e : Event) (s : State) (p : PortId) (b : Booking), (s.port p).booked = [b] → b.matchesEvent e = true →
    ((s.port p).notices.length < 16 →
      (s.deliver e).port p = { s.port p with
        notices := (s.port p).notices ++ [{ kind := e.kind, tag := b.tag, subject := e.subject, detail := e.detail }] }) ∧
    (16 ≤ (s.port p).notices.length → (s.deliver e).port p = { s.port p with overflow := true })) ∧
  (∀ (e : Event) (s : State) (p : PortId),
    let xs : List Notice := ((s.port p).booked.filter (fun b => b.matchesEvent e)).map (fun b =>
      { kind := e.kind, tag := b.tag, subject := e.subject, detail := e.detail })
    (s.deliver e).port p = { s.port p with
      notices := (s.port p).notices ++ xs.take (16 - (s.port p).notices.length)
      overflow := (s.port p).overflow || (!xs.isEmpty && decide (16 < (s.port p).notices.length + xs.length)) }) ∧
  (∀ (s : State) (k : Nat) (c : RejectCause) (j : Job), s.job? k = some j →
    let told := ∃ (p : PortId) (b : Booking), b ∈ (s.port p).booked ∧ b.kind = .copyRejected ∧
      (b.scope = none ∨ b.scope = some k) ∧ b.action = .notifyHold ∧ (j.owner = p ∨ s.holds p .manage = true)
    (told → j.live = true → j.holds.rejectHold = false →
      (s.handClu k c).job? k = some { j with holds.rejectHold := true, state := .held } ∧
      ∀ q b, (s.port q).booked = [b] → b.kind = .jobHeld → b.scope = none ∨ b.scope = some k →
        (s.port q).notices.length < 16 →
        { kind := .jobHeld, tag := b.tag, subject := .job k, detail := .hold .rejectHold } ∈
          ((s.handClu k c).port q).notices) ∧
    (¬told ∨ j.live = false ∨ j.holds.rejectHold = true → (s.handClu k c).job? k = some j))

/-! ### Settings -/

/-- WRITE-SETTINGS keeps a value as 11.3 gives and sets the unsaved flag; a write of item 1 or 2 is refused BUSY while the
ledger holds an entry, and a write of a port's rights frees its bookings (R203, R194, R72). That the value kept goes back
in four bytes and V in two is the model's (notes/assumptions/21.md, 54.md). -/
def Obligations.WritingASetting : Prop :=
  ∀ (s : State) (p : PortId) (tag item value : Nat),
    (s.port p).holdsRequest (requestFrame 28 tag (u8 item ++ u32 value)) = true →
    (s.sst.working.put item value = none →
      exec (.writeSettings p tag item value) s = .next (s.begin.answer p 28 tag (.refused .badParameter []))) ∧
    (∀ x, s.sst.working.put item value = some x →
      ((item = 1 ∨ item = 2) → s.rgu.idle = false →
        exec (.writeSettings p tag item value) s = .next (s.begin.answer p 28 tag (.refused .busy []))) ∧
      (3 ≤ item → item ≤ 12 →
        exec (.writeSettings p tag item value) s =
          .next ({ s.begin with
            sst.working := x, sst.unsaved := true
            sst.save := s.sst.save.map (fun v => { v with dirty := true }) : State }.answer p 28 tag
              (.good (u8 item ++ u32 (x.item item))))) ∧
      (∀ q : PortId, item = 13 + q.val →
        exec (.writeSettings p tag item value) s =
          .next (({ s.begin with
            sst.working := x, sst.unsaved := true
            sst.save := s.sst.save.map (fun v => { v with dirty := true }) : State }.modPort q (fun y =>
              { y with bookings := Vector.replicate 8 none })).answer p 28 tag (.good (u8 item ++ u32 (x.item item))))) ∧
      (item = 1 → s.rgu.idle = true →
        exec (.writeSettings p tag item value) s =
          .next ({ s.begin with
            sst.working := x, sst.unsaved := true
            sst.save := s.sst.save.map (fun v => { v with dirty := true }) : State }.answer p 28 tag
              (.good (u8 1 ++ u32 x.budget ++ u16 x.reserve)))) ∧
      (item = 2 → s.rgu.idle = true →
        exec (.writeSettings p tag item value) s =
          .next ({ s.begin with
            sst.working := x, sst.unsaved := true
            sst.save := s.sst.save.map (fun v => { v with dirty := true }) : State }.answer p 28 tag
              (.good (u8 2 ++ u32 x.reserve)))))

/-- SAVE-SETTINGS begins a save for which its port waits, or is refused BUSY; the save ends with its read-back or its timer,
and the port is answered; a save writes the copy that was not the last (R204). What the next load finds of a copy whose
read-back failed, or that ended on the timer, is the model's (notes/assumptions/32.md), as are the result codes
(notes/assumptions/21.md). -/
def Obligations.ASaveEndsWithItsAnswer : Prop :=
  ∀ (s : State),
    (∀ p tag, (s.port p).holdsRequest (requestFrame 29 tag []) = true →
      (s.sst.save.isSome → exec (.saveSettings p tag) s = .next (s.begin.answer p 29 tag (.refused .busy []))) ∧
      (s.sst.save = none → exec (.saveSettings p tag) s =
        .next ({ s.begin with
          sst.save := some
            { snapshot := s.sst.working, number := (s.sst.number + 1) % 65536, port := p, timer := some 1000
              dirty := false } : State }.modPort p (fun x => { x with waiting := true })))) ∧
    (∀ v : Save, s.sst.save = some v → s.sst.last = .B → (s.port v.port).waiting = true →
      exec (.saveReadbackDone true) s =
        .next ({ s.begin with
          sst.copyA := .good v.number v.snapshot, sst.last := .A, sst.number := v.number, sst.defaulted := false
          sst.unsaved := s.sst.unsaved && v.dirty, sst.save := none : State }.answer v.port 29 (s.port v.port).frameTag
            (.good (u8 1 ++ u16 v.number))) ∧
      exec (.saveReadbackDone false) s =
        .next ({ s.begin with sst.copyA := .bad, sst.save := none : State }.answer v.port 29 (s.port v.port).frameTag
          (.good (u8 2))) ∧
      exec .saveTimerExpiry s =
        .next ({ s.begin with sst.copyA := .unsure v.number v.snapshot, sst.save := none : State }.answer v.port 29
          (s.port v.port).frameTag (.good (u8 2)))) ∧
    (∀ v : Save, s.sst.save = some v → s.sst.last = .A → (s.port v.port).waiting = true →
      exec (.saveReadbackDone true) s =
        .next ({ s.begin with
          sst.copyB := .good v.number v.snapshot, sst.last := .B, sst.number := v.number, sst.defaulted := false
          sst.unsaved := s.sst.unsaved && v.dirty, sst.save := none : State }.answer v.port 29 (s.port v.port).frameTag
            (.good (u8 1 ++ u16 v.number))) ∧
      exec (.saveReadbackDone false) s =
        .next ({ s.begin with sst.copyB := .bad, sst.save := none : State }.answer v.port 29 (s.port v.port).frameTag
          (.good (u8 2))) ∧
      exec .saveTimerExpiry s =
        .next ({ s.begin with sst.copyB := .unsure v.number v.snapshot, sst.save := none : State }.answer v.port 29
          (s.port v.port).frameTag (.good (u8 2))))

/-! ### Staging and the Feeder -/

/-- BLOCK-FRAME (R61, R62): a short frame, a full FIFO, or a frame that names no FILLING intake image or lies outside its
length is a stray; one below the accepted count is dropped, one above it is a gap, and the one at it is accepted and,
with no write outstanding, issued (R63) and served (R69). That a frame of more than 1,027 words is taken as whole is the
model's (notes/assumptions/61.md). -/
def Obligations.BlockFramesAreAcceptedInOrder : Prop :=
  ∀ (s : State) (words image index : Nat) (data : BlockData),
    (words < 1027 ∨ 32 ≤ s.ipt.fifo.length ∨ s.image? image = none →
      exec (.blockFrame words image index data) s =
        .next { s.begin with ipt.strays := min 65535 (s.ipt.strays + 1) }) ∧
    (∀ x, 1027 ≤ words → s.ipt.fifo.length < 32 → s.image? image = some x →
      (x.state ≠ .filling ∨ x.source ≠ .intake ∨ x.length ≤ index →
        exec (.blockFrame words image index data) s =
          .next { s.begin with ipt.strays := min 65535 (s.ipt.strays + 1) }) ∧
      (x.state = .filling → x.source = .intake → index < x.length →
        (index < x.accepted → exec (.blockFrame words image index data) s = .next s.begin) ∧
        (x.accepted < index → exec (.blockFrame words image index data) s =
          .next ((s.begin.modImage image (fun y => { y with gaps := min 65535 (y.gaps + 1) })).deliver
            { kind := .imageGap, subject := .image image, detail := .index x.accepted })) ∧
        (index = x.accepted → exec (.blockFrame words image index data) s =
          .next (({ s.begin with
            ipt.fifo := s.ipt.fifo ++ [{ image := image, index := index, data := data }] : State }.modImage image
              (fun y => { y with accepted := y.accepted + 1 })).intakeIssue).smcServe)))

/-- An intake or master write completes: its block, and no other byte of staging memory, is stored at the place of R50
(R63, R68, R70). While the image of a master write is still being read, or is LOST, the block leaves the holding buffer of
the bay whose master the image is, and a bay that sent READ-HOLD sends READ-GO once a slot is free, one that has reported
the read complete too; a bay with another image's master, or with none, is left as it is (R125, R126). -/
def Obligations.AWriteStoresItsBlock : Prop :=
  ∀ (s : State) (w : BlockWrite) (x : Image) (e : Nat), s.image? w.image = some x →
    x.extents[w.index / 4096]? = some e →
    (s.smc.serving = some (.intake w) → x.readDone = false →
      ∃ t, exec .intakeWriteDone s = .next t ∧
        t.mem = s.mem.writeBlock ((e * 4096 + w.index % 4096) * 2048) w.data ∧ t.ipt.fifo = s.ipt.fifo.drop 1) ∧
    (s.smc.serving = some (.master w) →
      (∃ t, exec .masterWriteDone s = .next t ∧
        t.mem = s.mem.writeBlock ((e * 4096 + w.index % 4096) * 2048) w.data) ∧
      (x.state ≠ .filling ∨ x.readDone = false ∨ 1 < x.accesses →
        ∃ u : State, exec .masterWriteDone s = .next u.settle ∧
          let reads (n : BayId) : Prop :=
            x.source = .master (some n) ∧ (s.bay n).state = .masterRead ∧ s.masterImageAt n = some w.image
          (∀ n, reads n →
            let left := (s.bay n).holding.filter (fun (b : HeldBlock) => b.index != w.index)
            let go := (s.bay n).masterHeld = true ∧ left.length < 2
            u.bay n = { s.bay n with holding := left, masterHeld := if go then false else (s.bay n).masterHeld } ∧
              u.sent = if go then [.bay n .readGo] else []) ∧
          (∀ n, ¬ reads n → u.bay n = s.bay n) ∧ ((∀ n, ¬ reads n) → u.sent = [])))

/-- Each feed period raises every stream's credit by its rate, to 16,000 at most; what a stream is served it pays for at
1,000 a block (R92, R97), and the period issues no more blocks than its limit P (R93). That the clock of the entry times
counts the periods is the model's (notes/assumptions/7.md). -/
def Obligations.APeriodPaysForWhatItIssues : Prop :=
  ∀ s : State, ∃ t, exec .feedPeriodTimerExpiry s = .next t ∧ t.tsq.clock = s.tsq.clock + 1 ∧ t.mem = s.mem ∧
    (∀ n x, s.stream n = some x → x.reread = none →
      ∃ y, t.stream n = some y ∧ x.inFlight ≤ y.inFlight ∧
        y.credit + 1000 * (y.inFlight - x.inFlight) = min (x.credit + x.rate) 16000) ∧
    (∀ n x i, s.stream n = some x → x.reread = some i →
      ∃ y, t.stream n = some y ∧ y.credit = min (x.credit + x.rate) 16000 ∧ y.reread = some i) ∧
    (∀ n, s.stream n = none → t.stream n = none) ∧
    (13000 ≤ s.sst.working.budget → t.feedBlocks ≤ s.feedBlocks + s.sst.working.budget / 1000)

/-- A burst with no bad block puts its blocks, as staging memory holds them, at the tail of the feed FIFO in index order
(R98), while the image is FILLING, READY or DOOMED. A bay in PREFILL stays there below the threshold; the delivery that
brings the occupancy to it sends BURN-START with the declared length, the bay enters WRITING, and the want credit it has
gathered is spent from the head of the FIFO (R113, R114). A bay in WRITING goes on sending, and one under refill hold does so
once the resume threshold is met (R115, R114); the last block sent brings BURN-FINISH and CLOSING (R114). In a bay in
VERIFYING the entries that wait are judged as their blocks come to the head of the FIFO, with READ-GO for a slot that becomes
free (R138), a mismatch taken by the verify mode (R142 to R144), and the verify ended with its last block (R146). When the
burst holds the last block of the stream, the stream leaves the table and its grant is released, with a scan (R98, R86). Of a
burst with a bad block the blocks before it are delivered; it becomes the pending re-read, and the stream goes back to it;
the blocks after it are discarded, and so will be those of the stream's reads still waiting, each with 1,000 of credit given
back up to 16,000 (R98, R99). Three clauses on VERIFYING are the model's: that the verify ends with its last block also in
READING (notes/assumptions/14.md), that the read inactivity timer starts at 10,000 as a retry enters HALTING (R140;
notes/assumptions/51.md), and that a first mismatch is kept only for a block its field can hold (notes/assumptions/36.md). -/
def Obligations.ABurstReachesTheFifoInOrder : Prop :=
  ∀ (s : State) (r : FeedRead) (n : BayId) (x : Stream) (y : Image) (damage : List WordDamage),
    s.smc.serving = some (.feed r) → r.user = .stream n → r.fate = .deliver → s.readInside r = true →
    s.stream n = some x → s.image? r.image = some y → y.state ≠ .filling ∨ y.readDone = false →
    let b := s.bay n
    let blocks (k : Nat) : List FeedBlock := (List.range k).map (fun i =>
      { index := r.first + i, data := s.loadBlock r.image (r.first + i) })
    let last : Bool := decide (x.stop ≤ x.next ∧ x.inFlight ≤ r.count ∧ x.reread = none)
    let freed : State := if last then s.begin.release n else s.begin
    let out (bay : Bay) (sent : List OutMsg) (records : State) : Prop :=
      ∃ t, exec (.feedReadDone damage) s = .next t ∧ t.mem = s.mem ∧ t.sent = sent ++ freed.sent ∧ t.bay n = bay ∧
        t.stream n = (if last then none else some { x with inFlight := x.inFlight - r.count }) ∧
        t.rgu = freed.rgu ∧ (last = true → t.grant n = none) ∧ t.discs = records.discs ∧
        ∀ m, m ≠ n → t.bay m = freed.bay m ∧ t.stream m = s.stream m
    let ends (after : State → Prop) : Prop := ∃ u : State, exec (.feedReadDone damage) s = .next u.settle ∧ after u
    ((∀ w ∈ damage, w ≠ .twoBits) → (last = true → s.waits n = false) →
      s.burnDelivery n (blocks r.count) out ∧ s.verifyDelivery n (blocks r.count) out ends) ∧
    (r.count = 1 → damage = [.twoBits] →
      ∃ t, exec (.feedReadDone damage) s = .next t ∧ t.mem = s.mem ∧ t.sent = [] ∧ (∀ m, t.bay m = s.bay m) ∧
        t.stream n = some { x with inFlight := x.inFlight - 1, reread := some r.first, next := r.first }) ∧
    (∀ k, k < r.count → damage.getD k .clean = .twoBits → (∀ i, i < k → damage.getD i .clean ≠ .twoBits) →
      b.state = .prefill → b.fifo.length + k < min 48 (s.lengthAt n) →
      ∃ t, exec (.feedReadDone damage) s = .next t ∧ t.mem = s.mem ∧ t.sent = [] ∧
        t.bay n = { b with fifo := b.fifo ++ blocks k } ∧
        t.stream n = some { x with
          inFlight := x.inFlight - r.count, reread := some (r.first + k), next := r.first + k
          credit := if k + 1 < r.count then min 16000 (x.credit + 1000 * (r.count - (k + 1))) else x.credit } ∧
        (∀ q, q ∈ t.smc.feedQueue ∨ t.smc.serving = some (.feed q) → q.user = .stream n → q.fate ≠ .deliver) ∧
        ∀ m, m ≠ n → t.bay m = s.bay m ∧ t.stream m = s.stream m)

/-- The re-read of a stream's block. GOOD, and it is placed in the FIFO, where a bay in PREFILL, WRITING or VERIFYING acts on
it as on any delivery (R113 to R115, R138), and the stream goes on, or ends with its grant released (R100, R98, R86);
UNCORRECTABLE, and the image turns LOST with reason MEMORY (R100). Three clauses on VERIFYING are the model's: that the verify
ends with its last block also in READING (notes/assumptions/14.md), that the read inactivity timer starts at 10,000 as a retry
enters HALTING (R140; notes/assumptions/51.md), and that a first mismatch is kept only for a block its field can hold
(notes/assumptions/36.md). -/
def Obligations.ARereadDecidesTheBlock : Prop :=
  ∀ (s : State) (r : FeedRead) (n : BayId) (x : Stream) (y : Image) (w : WordDamage),
    s.smc.serving = some (.feed r) → r.user = .reread n → r.fate = .deliver → s.readInside r = true →
    s.stream n = some x → s.image? r.image = some y → y.state ≠ .filling ∨ y.readDone = false →
    let last : Bool := decide (x.stop ≤ x.next ∧ x.inFlight ≤ 1)
    let freed : State := if last then s.begin.release n else s.begin
    let out (bay : Bay) (sent : List OutMsg) (records : State) : Prop :=
      ∃ t, exec (.rereadDone w) s = .next t ∧ t.mem = s.mem ∧ t.sent = sent ++ freed.sent ∧ t.bay n = bay ∧
        t.stream n = (if last then none else some { x with inFlight := x.inFlight - 1, reread := none }) ∧
        t.rgu = freed.rgu ∧ (last = true → t.grant n = none) ∧ t.discs = records.discs ∧
        ∀ m, m ≠ n → t.bay m = freed.bay m ∧ t.stream m = s.stream m
    let ends (after : State → Prop) : Prop := ∃ u : State, exec (.rereadDone w) s = .next u.settle ∧ after u
    let block : FeedBlock := { index := r.first, data := s.loadBlock r.image r.first }
    (w ≠ .twoBits → (last = true → s.waits n = false) →
      s.burnDelivery n [block] out ∧ s.verifyDelivery n [block] out ends) ∧
    (w = .twoBits →
      exec (.rereadDone w) s =
        .next ((((s.begin.modStream n (fun x => { x with inFlight := x.inFlight - 1 })).imageLost r.image
          .memory).readServed r.image).settle))

/-- A burst of the artwork transfer is handed to the printer block by block in index order; the last one leaves the station
waiting for ARTWORK-OK under the print timer (R103, R102, R178). -/
def Obligations.ArtworkGoesToThePrinterInOrder : Prop :=
  ∀ (s : State) (r : FeedRead) (x : Transfer) (y : Image) (damage : List WordDamage),
    s.smc.serving = some (.feed r) → r.user = .artwork → r.fate = .deliver → s.readInside r = true →
    s.fdr.artwork = some x → x.reread = none → s.image? r.image = some y → y.state = .ready →
    (∀ w ∈ damage, w ≠ .twoBits) →
    ∃ t, exec (.artworkReadDone damage) s = .next t ∧ t.mem = s.mem ∧
      t.sent = (List.range r.count).map (fun k => .printer (.artworkBlock (s.loadBlock r.image (r.first + k)))) ∧
      (x.next < x.length →
        t.fdr.artwork = some { x with inFlight := x.inFlight - r.count } ∧ t.psc = s.psc) ∧
      (x.length ≤ x.next → x.inFlight = r.count → s.psc.state = .loaded → s.psc.step = some .transfer →
        t.fdr.artwork = none ∧ t.psc = { s.psc with step := some .artworkWait, timer := some 60000 })

/-! ### Bays -/

/-- A tray that opens for the current move is OPEN and reported ready: an arm on its way keeps the report, one that waits at
the bay grips or releases (R107, R108, R154, R158). A tray that closes over a PENDING copy, spare or master is probed under
the probe timer (R107, R110, R124); one that closes over no disc leaves the bay idle or OFFLINE, and one in FAULT there
(R107, R108, R127). A bay at which the sweep waits senses its tray (R131). A motion whose errand has failed, and a bay that
goes OFFLINE with a tray motion in hand, are treated as the model chooses (notes/assumptions/52.md, 19.md). -/
def Obligations.TrayMotionsEnd : Prop :=
  ∀ (s : State) (n : BayId),
    ((s.bay n).state = .absent ∨ (s.bay n).state = .offline → exec (.trayDone n) s = .next s.begin) ∧
    ((s.bay n).state ≠ .absent → (s.bay n).state ≠ .offline →
      ((s.bay n).tray ≠ .moving → (s.bay n).timers.tray = none → exec (.trayDone n) s = .next s.begin) ∧
      ((s.bay n).tray ≠ .moving → (s.bay n).timers.tray.isSome →
        exec (.trayDone n) s = .next (s.begin.modBay n (fun b => { b with timers.tray := none }))) ∧
      ((s.bay n).tray = .moving → s.tsq.phase = .sweeping (.bay n) → (s.bay n).state ≠ .fault →
        ((s.bay n).traysIn = false →
          exec (.trayDone n) s = .next ((s.begin.toBay n .trayClose).modBay n (fun b =>
            { b with tray := .moving, traysIn := true, errand := .sense, timers.tray := some 4000 }))) ∧
        ((s.bay n).traysIn = true →
          exec (.trayDone n) s = .next ((s.begin.toBay n .probe).modBay n (fun b =>
            { b with tray := .closed, errand := .sense, timers.tray := none, timers.probe := some 20000 })))) ∧
      ((s.bay n).tray = .moving → s.tsq.phase ≠ .sweeping (.bay n) ∨ (s.bay n).state = .fault →
        let opened := s.begin.modBay n (fun b => { b with tray := .opened, timers.tray := none })
        let shut := s.begin.modBay n (fun b => { b with tray := .closed, timers.tray := none, errand := .none })
        (∀ m, (s.bay n).traysIn = false → (s.bay n).errand = .place ∨ (s.bay n).errand = .pick →
          s.tsq.arm.move = some m → m.entry.source = .bay n ∧ m.gripped = false ∨ m.entry.dest = .bay n ∧ m.gripped = true →
          (s.tsq.arm.motion.isSome →
            exec (.trayDone n) s = .next { opened with tsq.arm.trayReady := true }) ∧
          (m.gripped = false → s.tsq.arm.state = .toSource → s.tsq.arm.motion = none → s.tsq.arm.position = .bay n →
            m.returning = false → s.masterGone m.entry = false →
            exec (.trayDone n) s =
              .next { opened with
                sent := [.arm .grip], tsq.arm.trayReady := true, tsq.arm.state := .picking
                tsq.arm.motion := some .grip, tsq.arm.lastCmd := some .grip, tsq.arm.timer := some 6000
                tsq.arm.move := some { m with cmd := some .grip } }) ∧
          (m.gripped = true → s.tsq.arm.state = .toDest → s.tsq.arm.motion = none → s.tsq.arm.position = .bay n →
            m.reserved ≠ .none → s.mustReroute m = false →
            exec (.trayDone n) s =
              .next { opened with
                sent := [.arm .release], tsq.arm.trayReady := true, tsq.arm.state := .placing
                tsq.arm.motion := some .release, tsq.arm.lastCmd := some .release, tsq.arm.timer := some 6000
                tsq.arm.move := some { m with cmd := some .release } })) ∧
        ((s.bay n).traysIn = true → (s.bay n).state ≠ .fault →
          (∀ d r, (s.bay n).errand = .place → s.discAt (.bay n) = some d → s.disc d = some r → r.verdict = .pending →
            r.purpose ≠ .master ∨ (∃ i x, r.image = some i ∧ s.image? i = some x ∧ x.state ≠ .lost) →
            exec (.trayDone n) s = .next ((shut.toBay n .probe).modBay n (fun b =>
              { b with state := .probing, timers.probe := some 20000 }))) ∧
          ((s.bay n).errand = .place ∨ (s.bay n).errand = .pick → s.discAt (.bay n) = none →
            ((s.bay n).offline = none ∨ (s.bayRes n).isSome →
              exec (.trayDone n) s = .next ((shut.modBay n (fun b =>
                { b with state := if (s.bayRes n).isSome then .reserved else .empty })).dueBoth).settle) ∧
            (∀ c, (s.bay n).offline = some c → s.bayRes n = none →
              exec (.trayDone n) s = .next (((shut.modBay n (fun b =>
                { b with state := .offline, offline := none, timers := {} })).deliver
                  { kind := .bayOffline, subject := .bay n, detail := .offline c }).dueSweep.dueBoth).settle)) ∧
          (∀ d, (s.bay n).errand = .pick → s.discAt (.bay n) = some d →
            ∃ u : State, exec (.trayDone n) s = .next u.settle ∧ u.discs = s.discs ∧
              u.bay n = { s.bay n with state := .holding, tray := .closed, timers.tray := none, errand := .none })) ∧
        ((s.bay n).traysIn = true → (s.bay n).state = .fault → (s.bay n).offline = none →
          exec (.trayDone n) s = .next (shut.dueBoth).settle)))

/-- The probe of a copy: its media report is written, its class test handed over, and it is rejected by the first case
of R110 that applies or goes toward its grant (R110, R111, R112). A blank spare makes the bay SPARE, one that is not
blank is rejected (R123). A master's report goes to its image: LOST when there is nothing to read or too much, and
otherwise the read of the written length (R124, R125, R67). No media is a FAULT with code NO-MEDIA: the record is rejected LOST, with its job told,
and deleted, and a master's read has failed, so its image turns LOST with reason ABORTED (R110, R17, R124). That a reject
of R110 sends no ABORT, and that NO-MEDIA does, is the model's (notes/assumptions/43.md). -/
def Obligations.ProbesJudgeTheMedia : Prop :=
  ∀ (s : State) (n : BayId) (report : Option MediaReport),
    ((s.bay n).state ≠ .probing → (s.bay n).errand ≠ .sense → exec (.probeReport n report) s = .next s.begin) ∧
    (∀ d r, (s.bay n).state = .probing → (s.bay n).errand ≠ .sense → s.discAt (.bay n) = some d → s.disc d = some r →
      let quiet := s.begin.modTimers n (fun t => { t with probe := none })
      (report = none → r.purpose = .copy ∨ r.purpose = .spare →
        exec (.probeReport n report) s = .next ((quiet.bayFault n .noMedia false).settle)) ∧
      (report = none →
        ∃ u : State, exec (.probeReport n report) s = .next u.settle ∧ u.disc d = none ∧
          (u.bay n).lastFault = some .noMedia ∧ .bay n .abort ∈ u.sent ∧
          ((s.bay n).offline = none → (u.bay n).state = .fault) ∧
          (∀ k j, r.purpose = .copy → r.verdict = .pending → r.job = some k → s.job? k = some j →
            ∃ v, u.job? k = some v ∧ v.rejected = min 65535 (j.rejected + 1) ∧ v.budgetRejects = j.budgetRejects ∧
              (j.log.length < 16 → v.log = j.log ++ [{
                attempt := r.attempt.getD 0, workBay := r.workBay, cause := .lost
                firstMismatch := r.firstMismatch }]) ∧
              (16 ≤ j.log.length → v.log = j.log)) ∧
          (∀ i x, r.purpose = .master → r.image = some i → s.image? i = some x → x.state ≠ .lost →
            x.readDone = false → ∀ y, u.image? i = some y → y.state = .lost ∧ y.loss = some .aborted)) ∧
      (∀ m, report = some m →
        let told := quiet.modDisc d (fun r => { r with media := some m })
        (∀ j, r.purpose = .copy → s.jobOf r = some j →
          let u := told.handClassTest r j m
          let reject (c : RejectCause) : Host.Outcome State Fault Refusal := .next ((u.verdict d (some c)).hold n).settle
          (m.blank = false → exec (.probeReport n report) s = reject .notBlank) ∧
          (m.blank = true → m.cls ≠ j.cls → exec (.probeReport n report) s = reject .wrongMedia) ∧
          (m.blank = true → m.cls = j.cls → m.capacity < u.copyLength r →
            exec (.probeReport n report) s = reject .tooSmall) ∧
          (m.blank = true → m.cls = j.cls → u.copyLength r ≤ m.capacity →
            exec (.probeReport n report) s = .next (u.towardGrant n .write).settle)) ∧
        (r.purpose = .spare →
          (m.blank = true → (s.bay n).offline = none →
            exec (.probeReport n report) s =
              .next ((told.modBay n (fun b => { b with state := .spare })).dueBoth).settle) ∧
          (m.blank = false → r.verdict = .pending →
            ∃ u : State, exec (.probeReport n report) s = .next u.settle ∧ (u.bay n).state = .holding ∧
              (u.disc d).map Disc.verdict = some .reject ∧ (u.disc d).bind Disc.cause = some .notBlank)) ∧
        (∀ i x, r.purpose = .master → r.image = some i → s.image? i = some x → x.state ≠ .lost →
          (m.blank = false → m.capacity ≠ 0 → m.capacity ≤ x.length →
            exec (.probeReport n report) s =
              .next (((told.modImage i (fun y =>
                { y with length := m.capacity, extents := y.extents.take ((m.capacity + 4095) / 4096) })).toBay n
                  (.readStart 0 m.capacity)).modBay n (fun b =>
                { b with
                  state := .masterRead, masterNext := 0, masterHeld := false, masterReported := false, holding := []
                  timers.read := some 10000 }))) ∧
          (∀ why, (m.blank = true ∨ m.capacity = 0) ∧ why = .blankMaster ∨
              (m.blank = false ∧ x.length < m.capacity) ∧ why = .tooLarge →
            x.kind = .disc → s.masterOf i = some d →
            ∃ u : State, exec (.probeReport n report) s = .next u.settle ∧ (u.bay n).state = .holding ∧
              (u.disc d).map Disc.verdict = some .reject ∧ (u.disc d).bind Disc.cause = some .imageLost ∧
              ∀ y, u.image? i = some y → y.state = .lost ∧ y.loss = some why))))

/-- A SPEED-REPORT of the granted step settles a write grant: the ledger entry is SETTLED, the bay's stream opens at its
rate and the bay enters PREFILL (R83, R84, R91, R112). One that was not asked for is discarded. The step reported is
rounded up to a listed one: a lower one shrinks the grant, whose rate falls in the total before a scan (R84), and a
higher one that fits, the grant's own rate taken as free, grows it (R85). A verify grant settles so too, and the bay
enters VERIFYING with READ-START of its first range under the read inactivity timer (R117, R135, R140). A higher one
that does not fit goes back to the head of the wait queue for exactly that step, and a scan follows (R85). -/
def Obligations.ASpeedReportSettlesTheGrant : Prop :=
  ∀ (s : State) (n : BayId) (step : Nat),
    ((s.bay n).speedPending = false → exec (.speedReport n step) s = .next s.begin) ∧
    (∀ g d r j m y, (s.bay n).speedPending = true → (s.bay n).state = .grantWait → s.grant n = some g →
      g.phase = .speedPending → g.kind = .write → roundUp .write g.cls step = g.step →
      s.copyAt n = some (d, r, j, m) → s.discImageOf j = some y → y.state ≠ .lost →
      ∃ t, exec (.speedReport n step) s = .next t ∧
        t.grant n = some { g with rate := stepRate g.cls g.step, phase := .settled } ∧
        t.stream n = some
          { image := y.number, kind := .write, next := 0, stop := y.length, sampleK := none
            rate := stepRate g.cls g.step, credit := 8000, inFlight := 0, reread := none } ∧
        t.bay n = { s.bay n with
          speedPending := false, timers.speed := none, state := .prefill, fifo := [], wantCredit := 0, sentBlocks := 0
          refillHold := false } ∧
        t.rgu.queue = s.rgu.queue ∧ t.sent = [] ∧
        ∀ k, k ≠ n → t.bay k = s.bay k ∧ t.grant k = s.grant k ∧ t.stream k = s.stream k) ∧
    (∀ g, (s.bay n).speedPending = true → s.grant n = some g → g.phase = .speedPending →
      let a := roundUp g.kind g.cls step
      let rate := stepRate g.cls a
      let left := s.sst.working.budget - (s.rgu.committedTotal - g.rate)
      let free := if g.kind = .write then min (s.sst.working.ceiling - (s.rgu.committedWrite - g.rate)) left else left
      let told := s.begin.modBay n (fun b => { b with speedPending := false, timers.speed := none })
      (∀ d r j m y, s.copyAt n = some (d, r, j, m) → s.discImageOf j = some y → y.state ≠ .lost →
        let settled := (told.setGrant n (some { g with step := a, rate := rate, phase := .settled })).setStream n (some
          { image := y.number, kind := g.kind, next := 0, stop := y.length, rate := rate, credit := 8000, inFlight := 0
            reread := none, sampleK := if g.kind = .verify then j.sampleK else none })
        let filling := settled.modBay n (fun b =>
          { b with state := .prefill, fifo := [], wantCredit := 0, sentBlocks := 0, refillHold := false })
        let stop := if j.sampleK = none then y.length else groupEnd y.length 0
        let verifying := (settled.toBay n (.readStart 0 stop)).modBay n (fun b =>
          { b with
            state := .verifying, fifo := [], holding := [], timers.read := some 10000
            engine := { phase := .reading, rangeEnd := some stop
                        rangesLeft := (j.sampleK.map (fun k => furtherGroups k y.length)).getD 0 } })
        settled.rgu.committedTotal + g.rate = s.rgu.committedTotal + rate ∧
        ((s.bay n).state = .grantWait → g.kind = .write →
          (a < g.step → exec (.speedReport n step) s = .next filling.scan) ∧
          (a = g.step ∨ (g.step < a ∧ rate ≤ free) → exec (.speedReport n step) s = .next filling)) ∧
        ((s.bay n).state = .verifyWait → g.kind = .verify →
          (a < g.step → exec (.speedReport n step) s = .next verifying.scan) ∧
          (a = g.step ∨ (g.step < a ∧ rate ≤ free) → exec (.speedReport n step) s = .next verifying))) ∧
      (g.step < a → free < rate →
        exec (.speedReport n step) s =
          .next { told.setGrant n none with
            rgu.queue := { bay := n, kind := g.kind, cls := g.cls, requested := a, minimum := some a, passes := 0 }
              :: s.rgu.queue }.scan))

/-- WANT raises the want credit; a WRITING bay without refill hold sends blocks from the head of its FIFO while the credit
lasts, and BURN-FINISH after the last block of the image; in any other state it is discarded
(R113, R114, R105, R106). -/
def Obligations.WantSendsBlocks : Prop :=
  ∀ (s : State) (n : BayId) (k : Nat),
    let b := s.bay n
    let credit := min 4194304 (b.wantCredit + k)
    let q := min credit b.fifo.length
    (b.state ≠ .prefill → b.state ≠ .writing → exec (.want n k) s = .next s.begin) ∧
    (b.state = .prefill ∨ (b.state = .writing ∧ b.refillHold = true) →
      exec (.want n k) s = .next (s.begin.modBay n (fun b => { b with wantCredit := credit }))) ∧
    (b.state = .writing → b.refillHold = false → b.sentBlocks + q < s.lengthAt n →
      exec (.want n k) s =
        .next ({ s.begin with sent := (b.fifo.take q).map (fun x => .bay n (.block x.data)) : State }.modBay n (fun b =>
          { b with wantCredit := credit - q, fifo := b.fifo.drop q, sentBlocks := b.sentBlocks + q }))) ∧
    (b.state = .writing → b.refillHold = false → s.lengthAt n ≤ b.sentBlocks + q →
      exec (.want n k) s =
        .next ({ s.begin with
          sent := (b.fifo.take q).map (fun x => .bay n (.block x.data)) ++ [.bay n .burnFinish] : State }.modBay n
            (fun b =>
              { b with
                wantCredit := credit - q, fifo := b.fifo.drop q, sentBlocks := b.sentBlocks + q, state := .closing
                refillHold := false, timers.starve := none, timers.close := some 240000 })))

/-- PAUSED counts a pause of the record: within the limit the starve timer runs and a FIFO below the resume threshold holds
the sending; beyond it the copy is rejected STARVED. RESUMED stops the starve timer (R115). -/
def Obligations.PausesAreCounted : Prop :=
  ∀ (s : State) (n : BayId),
    ((s.bay n).state ≠ .writing → exec (.paused n) s = .next s.begin ∧ exec (.resumed n) s = .next s.begin) ∧
    ((s.bay n).state = .writing →
      exec (.resumed n) s = .next (s.begin.modBay n (fun b => { b with timers.starve := none })) ∧
      ∀ d r, s.discAt (.bay n) = some d → s.disc d = some r →
        let u := s.begin.modDisc d (fun r => { r with pauses := min 255 (r.pauses + 1) })
        (min 255 (r.pauses + 1) ≤ s.sst.working.pauseLimit →
          exec (.paused n) s = .next (u.modBay n (fun b =>
            { b with
              timers.starve := if b.timers.starve.isSome then b.timers.starve else some s.sst.working.starveMs
              refillHold := b.refillHold || decide (b.fifo.length < s.resumeAt n) }))) ∧
        (s.sst.working.pauseLimit < min 255 (r.pauses + 1) →
          exec (.paused n) s = .next (((u.verdict d (some .starved)).endEarly n true).settle)))

/-- BURN-DONE enters WRITE and sends the disc where its next step is (R116, R12); with the image-lost mark a verify is not
begun. That the reject at the image-lost mark sends no ABORT and makes none of R119's other steps is the model's
(notes/assumptions/43.md). -/
def Obligations.BurnDoneLeadsToTheNextStep : Prop :=
  ∀ (s : State) (n : BayId),
    ((s.bay n).state ≠ .closing → exec (.burnDone n) s = .next s.begin) ∧
    (∀ d r, (s.bay n).state = .closing → s.discAt (.bay n) = some d → s.disc d = some r →
      let u := (s.begin.modBay n (fun b => { b with imageLostMark := false, timers.close := none })).modDisc d (fun r =>
        { r with steps.write := true })
      (u.nextStepOf d = some .verify → (s.bay n).imageLostMark = true →
        exec (.burnDone n) s = .next (((u.writeVerdict d (some .imageLost)).hold n).settle)) ∧
      (u.nextStepOf d = some .verify → (s.bay n).imageLostMark = false →
        exec (.burnDone n) s = .next ((u.towardGrant n .verify).settle)) ∧
      (u.nextStepOf d = some .print → exec (.burnDone n) s = .next ((u.hold n).settle)) ∧
      (u.nextStepOf d = none → exec (.burnDone n) s = .next (((u.verdict d none).hold n).settle)))

/-- BURN-ERROR in WRITING or CLOSING rejects the disc WRITE-FAILED and ends the operation without ABORT, since the drive
has stopped: the bay goes to HOLDING with its buffers, its stop timers and its counts cleared (R120, R119). In any other
state it is discarded, and its code changes nothing. -/
def Obligations.BurnErrorRejectsTheDisc : Prop :=
  ∀ (s : State) (n : BayId) (code : Nat),
    ((s.bay n).state ≠ .writing → (s.bay n).state ≠ .closing → exec (.burnError n code) s = .next s.begin) ∧
    (∀ d, (s.bay n).state = .writing ∨ (s.bay n).state = .closing → s.discAt (.bay n) = some d →
      let u := (s.begin.verdict d (some .writeFailed)).endEarly n false
      exec (.burnError n code) s = .next u.settle ∧ .bay n .abort ∉ u.sent ∧ (u.bay n).state = .holding ∧
        (u.bay n).fifo = [] ∧ (u.bay n).wantCredit = 0 ∧ (u.bay n).sentBlocks = 0 ∧ (u.bay n).timers.starve = none ∧
        (u.bay n).timers.close = none ∧ (u.bay n).refillHold = false ∧ (u.bay n).imageLostMark = false ∧
        (s.waits n = false → u.grant n = none) ∧
        ∀ r, s.disc d = some r → r.verdict = .pending →
          (u.disc d).map Disc.verdict = some .reject ∧ (u.disc d).bind Disc.cause = some .writeFailed) ∧
    ∀ code', exec (.burnError n code) s = exec (.burnError n code') s

/-- A READ-BLOCK in READING that matches the image block at the FIFO head moves both positions on (R137, R138); the last
one ends the verify with its result (R146, R117; that the verify ends in READING is DEDUCED, notes/assumptions/14.md).
One that does not match ends a STOP verify with READ-HALT (R142), counts and goes on in COUNT and SAMPLE, or ends the
verify VERIFY-FAILED when it was the last (R143), and in RETRY starts the re-read of its block with READ-HALT (R144; the
timer it runs under is the model's, notes/assumptions/51.md). One whose image block has not come is held, and a full
buffer holds the drive (R137). In a master read the next block in order is held and written, and a full buffer holds the
drive; any other ends the read with READ-HALT and the loss of the image (R125, R68, R126); that a block at or above the
declared length counts as such is the model's choice (notes/assumptions/28.md). In HALTING a block restarts the timer
alone, in RE-READ the first of the attempt is judged against the block kept at the FIFO head, and in TAIL and when idle
it is discarded (R137, R145). Outside VERIFYING and MASTER-READ it is discarded. That a first mismatch is kept only for a
block its field can hold is the model's (notes/assumptions/36.md). -/
def Obligations.ReadBlocksAreCompared : Prop :=
  ∀ (s : State) (n : BayId) (index : Nat) (status : ReadStatus) (data : BlockData),
    let b := s.bay n
    let e : HeldBlock := { index := index, status := status, data := data }
    (b.state ≠ .verifying → b.state ≠ .masterRead → exec (.readBlock n index status data) s = .next s.begin) ∧
    (∀ v stop, b.state = .verifying → s.verifyCtx n = some v → b.engine.phase = .reading →
      b.engine.rangeEnd = some stop → b.engine.readPos < stop →
      (∀ x xs r, b.holding = [] → b.fifo = x :: xs → x.index = b.engine.comparePos → b.engine.held = false →
        s.disc v.disc = some r →
        let pos := b.engine.comparePos
        let next := nextInVerifySet v.sampleK v.stop pos
        let judged := s.begin.modBay n (fun b =>
          { b with
            fifo := xs, timers.read := some 10000
            engine := { b.engine with readPos := b.engine.readPos + 1, comparePos := next } })
        let counted := judged.modDisc v.disc (fun r =>
          { r with
            mismatches := r.mismatches + 1
            firstMismatch := if r.firstMismatch.isNone ∧ pos < 4194304 then some pos else r.firstMismatch })
        (index = pos → status = .ok → data = x.data →
          (next < v.stop → exec (.readBlock n index status data) s = .next judged) ∧
          (v.stop ≤ next → r.verdict = .pending →
            ∃ u : State, exec (.readBlock n index status data) s = .next u.settle ∧ (u.bay n).engine = {} ∧
              (u.bay n).fifo = [] ∧ (u.bay n).timers.read = none ∧
              (r.mismatches ≠ 0 → (u.bay n).state = .holding ∧ (u.disc v.disc).map Disc.verdict = some .reject ∧
                (u.disc v.disc).bind Disc.cause = some .verifyFailed) ∧
              (r.mismatches = 0 → v.mode = .retry → v.limit ≠ 255 → v.limit < r.marginals →
                (u.bay n).state = .holding ∧ (u.disc v.disc).map Disc.verdict = some .reject ∧
                (u.disc v.disc).bind Disc.cause = some .marginal) ∧
              (r.mismatches = 0 → v.mode ≠ .retry ∨ v.limit = 255 ∨ r.marginals ≤ v.limit →
                (u.disc v.disc).map (fun r => r.steps.verify) = some true ∧
                ((s.modDisc v.disc (fun r => { r with steps.verify := true })).nextStepOf v.disc = none →
                  (u.bay n).state = .holding ∧ (u.disc v.disc).map Disc.verdict = some .good)))) ∧
        (index ≠ pos ∨ status ≠ .ok ∨ data ≠ x.data →
          (v.mode = .stop →
            exec (.readBlock n index status data) s =
              .next (((((s.begin.modBay n (fun b =>
                { b with timers.read := some 10000, engine.readPos := b.engine.readPos + 1 })).modDisc v.disc
                (Disc.mismatch pos 1)).toBay n .readHalt).verifyReject n v.disc .verifyFailed).settle)) ∧
          (v.mode = .count ∨ (∃ k, v.mode = .sample k) → next < v.stop →
            exec (.readBlock n index status data) s = .next counted) ∧
          (v.mode = .count ∨ (∃ k, v.mode = .sample k) → v.stop ≤ next → r.verdict = .pending →
            ∃ u : State, exec (.readBlock n index status data) s = .next u.settle ∧ (u.bay n).engine = {} ∧
              (u.bay n).fifo = [] ∧ (u.bay n).timers.read = none ∧ (u.bay n).state = .holding ∧
              (u.disc v.disc).map Disc.verdict = some .reject ∧ (u.disc v.disc).bind Disc.cause = some .verifyFailed ∧
              (u.disc v.disc).map Disc.mismatches = some (r.mismatches + 1)) ∧
          (v.mode = .retry →
            exec (.readBlock n index status data) s =
              .next ((s.begin.modBay n (fun b =>
                { b with
                  timers.read := some 10000
                  engine := { b.engine with
                    readPos := pos, retryAttempt := 1, retryMatched := false, held := false
                    phase := .halting } })).toBay n .readHalt)))) ∧
      (b.fifo = [] → b.holding = [] →
        exec (.readBlock n index status data) s =
          .next (s.begin.modBay n (fun b =>
            { b with holding := [e], timers.read := some 10000, engine.readPos := b.engine.readPos + 1 }))) ∧
      (b.fifo = [] → b.holding.length = 1 →
        exec (.readBlock n index status data) s =
          .next ((s.begin.modBay n (fun b =>
            { b with
              holding := b.holding ++ [e], timers.read := none
              engine.readPos := b.engine.readPos + 1, engine.held := true })).toBay n .readHold))) ∧
    (∀ v, b.state = .verifying → s.verifyCtx n = some v →
      let timed := s.begin.modBay n (fun b => { b with timers.read := some 10000 })
      (b.engine.phase = .halting → exec (.readBlock n index status data) s = .next timed) ∧
      (b.engine.phase = .tail ∨ b.engine.phase = .idle → exec (.readBlock n index status data) s = .next s.begin) ∧
      (b.engine.phase = .reread → b.engine.attemptRead = true →
        exec (.readBlock n index status data) s = .next timed) ∧
      (∀ x xs, b.engine.phase = .reread → b.engine.attemptRead = false → b.fifo = x :: xs →
        exec (.readBlock n index status data) s =
          .next (timed.modBay n (fun b =>
            { b with engine := { b.engine with
                attemptRead := true
                retryMatched := decide (index = b.engine.comparePos ∧ status = .ok ∧ data = x.data) } })))) ∧
    (∀ i x, b.state = .masterRead → s.masterImageAt n = some i → b.masterReported = false → s.image? i = some x →
      (index = b.masterNext → status = .ok → index < x.length →
        let kept := (({ s.begin with
          smc.masterQueue := s.smc.masterQueue ++ [{ image := i, index := index, data := data }] : State }.modBay n
            (fun b =>
              { b with
                holding := b.holding ++ [e], masterNext := b.masterNext + 1, timers.read := some 10000 })).modImage i
            (fun y => { y with accesses := y.accesses + 1 })).smcServe
        (b.holding = [] → exec (.readBlock n index status data) s = .next kept) ∧
        (b.holding.length = 1 →
          exec (.readBlock n index status data) s =
            .next ((kept.toBay n .readHold).modBay n (fun b => { b with masterHeld := true })))) ∧
      (∀ d, index ≠ b.masterNext ∨ status ≠ .ok ∨ x.length ≤ index → s.discAt (.bay n) = some d →
        s.masterOf i = some d → x.state ≠ .lost → x.readDone = false → x.kind = .disc →
        ∃ u : State, exec (.readBlock n index status data) s = .next u.settle ∧ .bay n .readHalt ∈ u.sent ∧
          (u.bay n).state = .holding ∧ (u.disc d).map Disc.verdict = some .reject ∧
          (u.disc d).bind Disc.cause = some .imageLost ∧
          ∀ y, u.image? i = some y → y.state = .lost ∧ y.loss = some .unreadable))

/-- READ-END at the end of the last range leaves the engine in TAIL while blocks are still to be judged, and at the end of
another it starts the range of the next sampled group (R139, R134); before the end of its range it gives up the read, with
no READ-HALT as the model has it (R139, R141; notes/assumptions/41.md): the blocks of the verify set that are left count as
mismatches (at most one in STOP, notes/assumptions/36.md), and the disc is rejected VERIFY-FAILED. In HALTING it starts the
re-read of the block in hand (R144). In RE-READ it ends the attempt (R145): a match makes the block marginal, a miss with an
attempt left starts the next, and a miss of the last counts a mismatch; a block that is done resumes the read after it, and
the last one ends the verify with its result (R146). That retry matched is cleared with the block that is done is the
model's (notes/assumptions/66.md). In a master read it reports the read complete (R125, R68). -/
def Obligations.ReadEndsMoveTheEngine : Prop :=
  ∀ (s : State) (n : BayId),
    let b := s.bay n
    let ended (u : State) (d : DiscId) (c : RejectCause) : Prop :=
      (u.bay n).state = .holding ∧ (u.bay n).engine = {} ∧ (u.bay n).fifo = [] ∧ (u.bay n).holding = [] ∧
        (u.bay n).timers.read = none ∧ (u.disc d).map Disc.verdict = some .reject ∧ (u.disc d).bind Disc.cause = some c
    (b.state ≠ .verifying → b.state ≠ .masterRead → exec (.readEnd n) s = .next s.begin) ∧
    (∀ v, b.state = .verifying → s.verifyCtx n = some v →
      (b.engine.phase = .reading → b.engine.rangeEnd = some b.engine.readPos → b.engine.rangesLeft = 0 →
        b.engine.comparePos < v.stop →
        exec (.readEnd n) s = .next (s.begin.modBay n (fun b =>
          { b with timers.read := none, engine.held := false, engine.phase := .tail }))) ∧
      (∀ k, b.engine.phase = .reading → b.engine.rangeEnd = some b.engine.readPos → 0 < b.engine.rangesLeft →
        v.sampleK = some k →
        let first := nextGroupStart k v.stop (groupOf (b.engine.readPos - 1))
        let stop := groupEnd v.stop (groupOf first)
        exec (.readEnd n) s = .next ((s.begin.toBay n (.readStart first (stop - first))).modBay n (fun b =>
          { b with
            timers.read := some 10000
            engine := { b.engine with
              readPos := first, rangeEnd := some stop, rangesLeft := b.engine.rangesLeft - 1, held := false
              phase := .reading, attemptRead := false } }))) ∧
      (∀ r, b.engine.phase = .reading → b.engine.rangeEnd ≠ some b.engine.readPos → s.disc v.disc = some r →
        r.verdict = .pending →
        let rest := verifySetFrom v.sampleK v.stop b.engine.comparePos
        ∃ u : State, exec (.readEnd n) s = .next u.settle ∧ ended u v.disc .verifyFailed ∧ .bay n .readHalt ∉ u.sent ∧
          (u.disc v.disc).map Disc.mismatches = some (r.mismatches + if v.mode = .stop then min 1 rest else rest)) ∧
      (b.engine.phase = .reread → b.engine.retryMatched = false → b.engine.retryAttempt < 3 →
        exec (.readEnd n) s = .next ((s.begin.toBay n (.readStart b.engine.comparePos 1)).modBay n (fun b =>
          { b with
            timers.read := some 10000
            engine := { b.engine with retryAttempt := b.engine.retryAttempt + 1, attemptRead := false } }))) ∧
      (∀ r stop, b.engine.phase = .reread → b.engine.retryMatched = true ∨ 3 ≤ b.engine.retryAttempt →
        b.engine.rangeEnd = some stop → s.disc v.disc = some r →
        let pos := b.engine.comparePos
        let next := nextInVerifySet v.sampleK v.stop pos
        let judged : Disc :=
          if b.engine.retryMatched then { r with marginals := r.marginals + 1 }
          else
            { r with
              mismatches := r.mismatches + 1
              firstMismatch := if r.firstMismatch.isNone ∧ pos < 4194304 then some pos else r.firstMismatch }
        (next < stop →
          exec (.readEnd n) s =
            .next (((s.begin.modDisc v.disc (fun _ => judged)).toBay n (.readStart next (stop - next))).modBay n (fun b =>
              { b with
                fifo := b.fifo.drop 1, timers.read := some 10000
                engine := { b.engine with
                  comparePos := next, readPos := next, retryAttempt := 0, retryMatched := false, phase := .reading
                  attemptRead := false } }))) ∧
        (stop ≤ next → v.stop ≤ next → b.holding = [] → r.verdict = .pending →
          ∃ u : State, exec (.readEnd n) s = .next u.settle ∧ (u.bay n).engine = {} ∧
            (judged.mismatches ≠ 0 → ended u v.disc .verifyFailed) ∧
            (judged.mismatches = 0 → v.mode = .retry → v.limit ≠ 255 → v.limit < judged.marginals →
              ended u v.disc .marginal) ∧
            (judged.mismatches = 0 → v.mode ≠ .retry ∨ v.limit = 255 ∨ judged.marginals ≤ v.limit →
              (u.disc v.disc).map (fun r => r.steps.verify) = some true ∧
              ((s.modDisc v.disc (fun r => { r with steps.verify := true })).nextStepOf v.disc = none →
                (u.bay n).state = .holding ∧ (u.disc v.disc).map Disc.verdict = some .good)))) ∧
      (b.engine.phase = .halting →
        exec (.readEnd n) s = .next ((s.begin.toBay n (.readStart b.engine.comparePos 1)).modBay n (fun b =>
          { b with timers.read := some 10000, engine.phase := .reread, engine.attemptRead := false })))) ∧
    (∀ i, b.state = .masterRead → s.masterImageAt n = some i → b.masterReported = false →
      exec (.readEnd n) s =
        .next (((s.begin.modBay n (fun b => { b with masterReported := true, timers.read := none })).readComplete
          i).settle))

/-- FAULT and the expiries of the tray motion, probe, speed report and burn close timers put a bay in FAULT with their
code: a working drive is sent ABORT, the tray errand fails with the tray UNKNOWN, every timer but the tray motion timer
stops, and a PENDING copy or spare is rejected BAY-FAULT. A bay in FAULT takes the new code and fails its errand, an
OFFLINE one only keeps the code, an ABSENT one discards it (R121, R119, R109, R110, R112, R116). A bay without a disc
may leave FAULT for OFFLINE at once (R127). -/
def Obligations.BaysFault : Prop :=
  ∀ (s : State) (n : BayId) (code : Nat),
    let stays := (s.bay n).offline = none ∨ (s.discAt (.bay n)).isSome
    let faulted (u : State) (c : FaultCode) : Prop :=
      (u.bay n).lastFault = some c ∧ (stays → (u.bay n).state = .fault) ∧
        ((s.bay n).errand ≠ .none → (u.bay n).errand = .none ∧ (u.bay n).tray = .unknown)
    let ended (u : State) : Prop :=
      (u.bay n).timers.probe = none ∧ (u.bay n).timers.close = none ∧ (u.bay n).timers.read = none ∧
        (u.bay n).timers.starve = none ∧ (s.waits n = false → (u.bay n).timers.speed = none) ∧
        ∀ d r, s.discAt (.bay n) = some d → s.disc d = some r → r.purpose = .copy ∨ r.purpose = .spare →
          r.verdict = .pending →
          (u.disc d).map Disc.verdict = some .reject ∧ (u.disc d).bind Disc.cause = some .bayFault
    ((s.bay n).state = .absent → exec (.fault n code) s = .next s.begin) ∧
    ((s.bay n).state = .offline →
      exec (.fault n code) s = .next (s.begin.modBay n (fun b => { b with lastFault := some (.bridge code) }))) ∧
    ((s.bay n).state = .fault →
      ∃ u : State, exec (.fault n code) s = .next u.settle ∧ faulted u (.bridge code) ∧ u.discs = s.discs ∧
        (stays → (u.bay n).timers = (s.bay n).timers)) ∧
    ((s.bay n).state ≠ .absent → (s.bay n).state ≠ .offline → (s.bay n).state ≠ .fault →
      ∃ u : State, exec (.fault n code) s = .next u.settle ∧ faulted u (.bridge code) ∧ ended u ∧
        (stays → (u.bay n).timers.tray = (s.bay n).timers.tray) ∧
        ((s.bay n).state = .probing ∨ (s.bay n).state = .writing ∨ (s.bay n).state = .closing ∨
            (s.bay n).state = .verifying ∨ (s.bay n).state = .masterRead → .bay n .abort ∈ u.sent)) ∧
    ((s.bay n).state ≠ .fault →
      ((s.bay n).timers.tray.isSome →
        ∃ u : State, exec (.trayMotionTimerExpiry n) s = .next u.settle ∧ faulted u .trayTimeout ∧ ended u ∧
          (u.bay n).timers.tray = none ∧ (u.bay n).tray = .unknown) ∧
      ((s.bay n).timers.probe.isSome →
        ∃ u : State, exec (.probeTimerExpiry n) s = .next u.settle ∧ faulted u .probeTimeout ∧ ended u ∧
          .bay n .abort ∈ u.sent) ∧
      ((s.bay n).timers.speed.isSome →
        ∃ u : State, exec (.speedReportTimerExpiry n) s = .next u.settle ∧ faulted u .speedTimeout ∧ ended u ∧
          .bay n .abort ∈ u.sent) ∧
      ((s.bay n).timers.close.isSome →
        ∃ u : State, exec (.burnCloseTimerExpiry n) s = .next u.settle ∧ faulted u .closeTimeout ∧ ended u ∧
          .bay n .abort ∈ u.sent))

/-- The starve timer rejects the copy STARVED with ABORT (R115, R119). The read inactivity timer gives up a verify,
which counts the blocks of the verify set that are left and rejects the disc VERIFY-FAILED (R140, R141, R146), or ends a
master read with READ-HALT and the loss of the image, and the master is rejected IMAGE-LOST (R125, R68, R126). The spare
hold timer rejects the spare CANCELLED (R44). The bay is left in HOLDING (R118). A timer that does not run has no
expiry, as the model has it (notes/assumptions/6.md); that a STOP verify counts at most one block then, and that a first
mismatch is kept only for a block below the greatest length, is DEDUCED (notes/assumptions/36.md). -/
def Obligations.WaitsRunOut : Prop :=
  ∀ (s : State) (n : BayId),
    let rejected (u : State) (d : DiscId) (c : RejectCause) : Prop :=
      (u.bay n).state = .holding ∧ (u.disc d).map Disc.verdict = some .reject ∧ (u.disc d).bind Disc.cause = some c
    ((s.bay n).timers.starve = none → exec (.starveTimerExpiry n) s = .next s.begin) ∧
    ((s.bay n).timers.read = none → exec (.readInactivityTimerExpiry n) s = .next s.begin) ∧
    (s.jsc.spareHold[n] = none → exec (.spareHoldTimerExpiry n) s = .next s.begin) ∧
    (∀ d r, s.discAt (.bay n) = some d → s.disc d = some r → r.verdict = .pending →
      ((s.bay n).timers.starve.isSome → (s.bay n).state = .writing →
        ∃ u : State, exec (.starveTimerExpiry n) s = .next u.settle ∧ rejected u d .starved ∧ .bay n .abort ∈ u.sent ∧
          (u.bay n).fifo = [] ∧ (u.bay n).timers.starve = none) ∧
      (∀ v, (s.bay n).timers.read.isSome → (s.bay n).state = .verifying → s.verifyCtx n = some v →
        let pos := (s.bay n).engine.comparePos
        let left := if v.mode = .stop then min 1 (verifySetFrom v.sampleK v.stop pos)
          else verifySetFrom v.sampleK v.stop pos
        ∃ u : State, exec (.readInactivityTimerExpiry n) s = .next u.settle ∧ rejected u d .verifyFailed ∧
          (u.disc d).map Disc.mismatches = some (r.mismatches + left) ∧
          (r.firstMismatch = none → pos < 4194304 → (u.disc d).bind Disc.firstMismatch = some pos) ∧
          (v.sampleK = none → v.mode ≠ .stop → left = v.stop - pos) ∧
          (u.bay n).engine = {} ∧ (u.bay n).fifo = [] ∧ (u.bay n).holding = [] ∧ (u.bay n).timers.read = none ∧
          ((s.bay n).engine.phase = .reading → .bay n .readHalt ∈ u.sent)) ∧
      (∀ i x, (s.bay n).timers.read.isSome → (s.bay n).state = .masterRead → (s.bay n).masterReported = false →
        s.masterImageAt n = some i → s.masterOf i = some d → s.image? i = some x → x.state ≠ .lost →
        x.readDone = false → x.kind = .disc →
        ∃ u : State, exec (.readInactivityTimerExpiry n) s = .next u.settle ∧ rejected u d .imageLost ∧
          .bay n .readHalt ∈ u.sent ∧ (u.bay n).timers.read = none ∧
          ∀ y, u.image? i = some y → y.state = .lost ∧ y.loss = some .unreadable) ∧
      (s.jsc.spareHold[n].isSome → r.purpose = .spare → (s.bay n).state = .spare →
        ∃ u : State, exec (.spareHoldTimerExpiry n) s = .next u.settle ∧ rejected u d .cancelled ∧
          u.jsc.spareHold[n] = none))

/-! ### The arm -/

/-- The door opens: an arm at work is halted to STOPPED and keeps its move, one in FAULT stays there, and DOOR-OPEN is
delivered (R167); it closes: a STOPPED arm homes (R168). -/
def Obligations.TheDoorStopsTheArm : Prop :=
  ∀ s : State,
    (s.tsq.door = .closed → s.tsq.arm.state ≠ .stopped → s.tsq.arm.state ≠ .fault →
      exec .doorLineOpen s =
        .next ({ s.begin with
          sent := [.arm .halt], tsq.door := .opened, tsq.arm.state := .stopped, tsq.arm.motion := none
          tsq.arm.timer := none : State }.deliver { kind := .doorOpen, subject := .none, detail := .none })) ∧
    (s.tsq.door = .closed → s.tsq.arm.state = .stopped ∨ s.tsq.arm.state = .fault →
      exec .doorLineOpen s =
        .next ({ s.begin with tsq.door := .opened : State }.deliver
          { kind := .doorOpen, subject := .none, detail := .none })) ∧
    (s.tsq.door = .opened → s.tsq.arm.state = .stopped →
      exec .doorLineClosed s =
        .next { s.begin with
          sent := [.arm .home], tsq.door := .closed, tsq.arm.state := .homing, tsq.arm.motion := some .home
          tsq.arm.lastCmd := some .home, tsq.arm.timer := some 6000 }) ∧
    (s.tsq.door = .opened → s.tsq.arm.state ≠ .stopped →
      exec .doorLineClosed s = .next { s.begin with tsq.door := .closed })

/-- ARRIVED at a spindle grips (R154); at OUT, REJ or the printer, or at a bay whose tray is ready, it releases (R158). An
ARRIVED that answers no GOTO is discarded (R149). -/
def Obligations.TheArmArrives : Prop :=
  ∀ s : State,
    ((∀ p, s.tsq.arm.motion ≠ some (.goto p)) → exec .arrived s = .next s.begin) ∧
    (∀ p m, s.tsq.arm.motion = some (.goto p) → s.tsq.arm.move = some m →
      (∀ x, s.tsq.arm.state = .toSource → m.entry.source = .spindle x → m.entry.source.position = some p →
        m.returning = false → s.masterGone m.entry = false →
        exec .arrived s =
          .next { s.begin with
            sent := [.arm .grip], tsq.arm.position := p, tsq.arm.state := .picking, tsq.arm.motion := some .grip
            tsq.arm.lastCmd := some .grip, tsq.arm.timer := some 6000, tsq.arm.move := some { m with cmd := some .grip } }) ∧
      (s.tsq.arm.state = .toDest → m.entry.dest.position = p → m.reserved ≠ .none → s.mustReroute m = false →
        (∀ n, m.entry.dest = .bay n → s.tsq.arm.trayReady = true) →
        exec .arrived s =
          .next { s.begin with
            sent := [.arm .release], tsq.arm.position := p, tsq.arm.state := .placing, tsq.arm.motion := some .release
            tsq.arm.lastCmd := some .release, tsq.arm.timer := some 6000
            tsq.arm.move := some { m with cmd := some .release } }) ∧
      (∀ n, s.tsq.arm.state = .toDest → m.entry.dest = .bay n → p = .bay n → s.mustReroute m = false →
        s.tsq.arm.trayReady = false →
        exec .arrived s =
          .next { s.begin with tsq.arm.position := p, tsq.arm.motion := none, tsq.arm.timer := none }))

/-- GRIPPED at a spindle enters a record for the disc in the lowest free slot, located at the arm (R155, R5, R1); at a
bay or the printer the disc's record moves to the arm, a record that has become REJECT bound for REJ (R157, R9, R159),
and the station is free again (R185). GRIP-EMPTY at a spindle finds it EMPTY, and the LOAD turns to the other spindle or
is given up (R155, R163). GRIP-DOUBLE at a spindle is tried again twice, and then the pair is a record REJECT
DOUBLE-PICK on its way to REJ (R156, R6), with the fields of its entry as the model has them
(notes/assumptions/71.md). GRIP-EMPTY and GRIP-DOUBLE at a bay or the printer are a SENSE-DISAGREE fault
(R157). An answer to no GRIP is discarded (R149). -/
def Obligations.GripsMoveTheRecord : Prop :=
  ∀ s : State,
    (s.tsq.arm.motion ≠ some .grip →
      exec .gripped s = .next s.begin ∧ exec .gripEmpty s = .next s.begin ∧ exec .gripDouble s = .next s.begin) ∧
    (∀ m, s.tsq.arm.motion = some .grip → s.tsq.arm.move = some m →
      (∀ x, m.entry.source = .spindle x →
        (∀ d, s.disc d = none → (∀ c, c < d → (s.disc c).isSome) →
          (∃ u : State, exec .gripped s = .next u.settle ∧
            u.disc d = some
              { purpose := m.entry.purpose.getD .copy, job := m.entry.job, attempt := m.entry.attempt
                image := m.entry.image, source := some x, location := .arm, dest := some m.entry.dest } ∧
            ∀ c, c ≠ d → u.disc c = s.disc c) ∧
          (2 ≤ m.retries →
            ∃ u : State, exec .gripDouble s = .next u.settle ∧
              u.disc d = some
                { purpose := m.entry.purpose.getD .copy, job := m.entry.job, attempt := m.entry.attempt
                  image := m.entry.image, source := some x, location := .arm, dest := some .rej, verdict := .reject
                  cause := some .doublePick } ∧
              (∀ c, c ≠ d → u.disc c = s.disc c) ∧
              u.tsq.arm.move.map Move.entry = some
                { cls := .clear, source := .arm, dest := .rej, disc := some d, time := m.entry.time })) ∧
        (m.retries < 2 →
          exec .gripDouble s =
            .next { s.begin with
              sent := [.arm .release], tsq.arm.motion := some .release, tsq.arm.lastCmd := some .release
              tsq.arm.timer := some 6000, tsq.arm.move := some { m with cmd := some .release } }) ∧
        (∃ u : State, exec .gripEmpty s = .next u.settle ∧ u.discs = s.discs ∧ (u.spindle x).state = .empty ∧
          (u.spindle x).count = some 0 ∧
          (u.tsq.arm.move = none ∨ u.tsq.arm.move.map (fun v => v.entry.source) = some (.spindle x.other)))) ∧
      (∀ d r, m.entry.disc = some d → s.disc d = some r →
        let moved := some { r with
          location := .arm
          dest := some (if r.verdict = .reject ∧ r.purpose ≠ .master then .rej else m.entry.dest) }
        (∀ n, m.entry.source = .bay n →
          ∃ u : State, exec .gripped s = .next u.settle ∧ u.disc d = moved ∧ ∀ c, c ≠ d → u.disc c = s.disc c) ∧
        (m.entry.source = .printer →
          ∃ u : State, exec .gripped s = .next u.settle ∧ u.disc d = moved ∧ (∀ c, c ≠ d → u.disc c = s.disc c) ∧
            (s.psc.state = .loaded ∨ s.psc.state = .printed → u.psc.state = .vacant ∧ u.psc.step = none) ∧
            (s.psc.state = .inkOut ∨ s.psc.state = .jammed → u.psc.state = s.psc.state))) ∧
      ((∀ x, m.entry.source ≠ .spindle x) →
        let disagree : Host.Outcome State Fault Refusal :=
          .next ({ s.begin with
            tsq.arm.motion := none, tsq.arm.timer := none, tsq.arm.state := .fault
            tsq.arm.fault := some .senseDisagree : State }.deliver
              { kind := .armFault, subject := .none, detail := .arm .senseDisagree })
        exec .gripEmpty s = disagree ∧ exec .gripDouble s = disagree))

/-- RELEASED over a spindle in a retry grips again, a retry used (R156), or, for a master that is gone, gives the LOAD
up (R161; the bay is freed as the model chooses, notes/assumptions/42.md); at OUT or REJ the count rises, by two for a
pair, and the record's slot is free (R160, R16; for a pair at OUT notes/assumptions/29.md). At a bay or the printer the
record is there, with the bay as its work bay, the move is over, the bay closes its tray (R9, R107), and the station
acts on the disc or, in INK-OUT and JAMMED, keeps its state (R176, R178); a disc rejected between RELEASE and RELEASED
is gripped again for REJ instead, with the place as its source as the model has it (R160; notes/assumptions/55.md). A
RELEASED that answers no RELEASE is discarded (R149). -/
def Obligations.ReleasesPlaceTheDisc : Prop :=
  ∀ s : State,
    (s.tsq.arm.motion ≠ some .release → exec .released s = .next s.begin) ∧
    (∀ m, s.tsq.arm.motion = some .release → s.tsq.arm.move = some m →
      (∀ i, s.tsq.arm.state = .picking → s.masterGone m.entry = true → m.entry.image = some i →
        exec .released s = .next (((s.begin.motionEnds.giveUp).dropResOf (.master i)).settle) ∧
        (s.begin.motionEnds.giveUp).tsq.arm.state = .parked ∧ (s.begin.motionEnds.giveUp).tsq.arm.move = none ∧
        (s.begin.motionEnds.giveUp).sent = []) ∧
      (s.tsq.arm.state = .picking → m.returning = false → s.masterGone m.entry = false →
        exec .released s =
          .next { s.begin with
            sent := [.arm .grip], tsq.arm.motion := some .grip, tsq.arm.lastCmd := some .grip
            tsq.arm.timer := some 6000
            tsq.arm.move := some { m with retries := m.retries + 1, cmd := some .grip } }) ∧
      (∀ d r, s.tsq.arm.state = .placing → m.entry.disc = some d → s.disc d = some r →
        m.entry.dest = .out ∨ m.entry.dest = .rej →
        exec .released s = .next ((s.begin.motionEnds.placeReleased).settle) ∧
        (s.begin.motionEnds.placeReleased).disc d = none ∧
        (s.begin.motionEnds.placeReleased).tsq.out.count =
          s.tsq.out.count + (if m.entry.dest = .out then r.places else 0) ∧
        (s.begin.motionEnds.placeReleased).tsq.rej.count =
          s.tsq.rej.count + (if m.entry.dest = .rej then r.places else 0)) ∧
      (∀ d r, s.tsq.arm.state = .placing → m.entry.disc = some d → s.disc d = some r →
        let again (set : Disc) (src : Source) : State :=
          { s.begin.modDisc d (fun _ => set) with
            sent := [.arm .grip], tsq.arm.state := .picking, tsq.arm.motion := some .grip, tsq.arm.lastCmd := some .grip
            tsq.arm.timer := some 6000
            tsq.arm.move := some { m with
              entry := { m.entry with cls := .clear, source := src, dest := .rej }, gripped := false, reserved := .none
              cmd := some .grip } }
        let parked (u : State) (set : Disc) : Prop :=
          u.disc d = some set ∧ (∀ c, c ≠ d → u.disc c = s.disc c) ∧ u.tsq.arm.state = .parked ∧ u.tsq.arm.move = none
        (∀ n, m.entry.dest = .bay n →
          let set : Disc := { r with location := .bay n, workBay := some n, dest := none }
          (r.verdict = .reject → r.purpose ≠ .master → exec .released s = .next (again set (.bay n))) ∧
          (r.verdict ≠ .reject ∨ r.purpose = .master → (∀ j, s.jobOf r = some j → j.state ≠ .draining) →
            (s.bay n).state = .trayOut → (s.bay n).errand = .place → (s.bay n).tray = .opened →
            ∃ u : State, exec .released s = .next u.settle ∧ parked u set ∧ u.sent = [.bay n .trayClose] ∧
              u.bay n = { s.bay n with tray := .moving, traysIn := true, timers.tray := some 4000 } ∧
              u.bayRes n = none ∧
              (∀ k, m.entry.cls = .clear → m.entry.source = .bay k → u.tsq.tenure = some k))) ∧
        (m.entry.dest = .printer →
          let set : Disc := { r with location := .printer, dest := none }
          (r.verdict = .reject → r.purpose ≠ .master → exec .released s = .next (again set .printer)) ∧
          (r.verdict ≠ .reject → (∀ j, s.jobOf r = some j → j.state ≠ .draining) →
            ∃ u : State, exec .released s = .next u.settle ∧ parked u set ∧ u.psc.reservedFor = none ∧
              (s.psc.state = .inkOut ∨ s.psc.state = .jammed → u.psc.state = s.psc.state ∧ u.psc.step = s.psc.step) ∧
              (s.psc.state ≠ .inkOut → s.psc.state ≠ .jammed →
                (r.verdict = .good ∨ (s.jobOf r).bind (fun j => nextStep j r) ≠ some .print →
                  u.psc.state = .loaded ∧ u.psc.step = some .leaving) ∧
                (∀ j i x, r.verdict = .pending → s.jobOf r = some j → nextStep j r = some .print →
                  j.labelImage = some i → s.image? i = some x → x.state ≠ .lost → s.psc.cacheTag ≠ some x.number →
                  u.psc.state = .loaded ∧ u.psc.step = some .transfer ∧ u.psc.cacheTag = none ∧
                  .printer (.artwork x.number x.length) ∈ u.sent ∧
                  u.fdr.artwork = some { image := x.number, length := x.length }))))) ∧
      (s.tsq.arm.state = .placing → m.entry.dest ≠ .out → m.entry.dest ≠ .rej →
        exec .released s = .next ((s.begin.motionEnds.placeReleased).settle)))

/-- HOMED in a sweep that is at the arm reconciles the arm, parks it and goes on to the bays (R172); in a sweep past the
arm it reconciles and parks the arm again, and the sweep stays where it is, as the model chooses
(notes/assumptions/30.md); in RUNNING it is a recovery, and a move that had not gripped is run again from its spindle
(R168). A HOMED that answers no HOME is discarded (R149). The sweep reconciles a place by R7: a disc without a record
becomes a FOUND record cleared to REJ, a record without a disc is deleted (R17), and one with its disc is cleared to the
place R7 gives, PENDING ones rejected CLEARED. -/
def Obligations.HomedSweepsOrRecovers : Prop :=
  (∀ (s : State) (holding : Bool),
    let home : State := { s.begin with tsq.arm.motion := none, tsq.arm.timer := none, tsq.arm.position := .home }
    (s.tsq.arm.motion ≠ some .home → exec (.homed holding) s = .next s.begin) ∧
    (s.tsq.arm.motion = some .home → s.tsq.phase = .sweeping .arm →
      exec (.homed holding) s = .next ((home.sweepArm holding).settle) ∧
        (home.sweepArm holding).tsq.arm.state = .parked ∧ (home.sweepArm holding).tsq.arm.move = none ∧
        (home.sweepArm holding).tsq.phase ≠ .sweeping .arm ∧ (home.sweepArm holding).tsq.phase ≠ .running) ∧
    (∀ place, s.tsq.arm.motion = some .home → s.tsq.phase = .sweeping place → place ≠ .arm →
      exec (.homed holding) s =
        .next ({ home.reconcile .arm holding with tsq.arm.state := .parked : State }.settle)) ∧
    (∀ m x, s.tsq.arm.motion = some .home → s.tsq.phase = .running → holding = false → s.discAt .arm = none →
      s.tsq.arm.move = some m → m.entry.source = .spindle x →
      exec (.homed holding) s =
        .next { s.begin with
          sent := [.arm (.goto (match x with | .inA => .inA | .inB => .inB))], tsq.arm.position := .home
          tsq.arm.state := .toSource, tsq.arm.trayReady := false
          tsq.arm.motion := some (.goto (match x with | .inA => .inA | .inB => .inB))
          tsq.arm.lastCmd := some .goto, tsq.arm.timer := some 6000
          tsq.arm.move := some { m with returning := false, cmd := some .goto } })) ∧
  (∀ (s : State) (l : Location),
    let clear (d : DiscId) (dest : Dest) : Entry :=
      { cls := .clear, source := match l with | .arm => .arm | .bay n => .bay n | .printer => .printer
        dest := dest, disc := some d, time := s.tsq.clock }
    (s.discAt l = none → s.reconcile l false = s) ∧
    (∀ d, s.discAt l = none → s.disc d = none → (∀ c, c < d → (s.disc c).isSome) →
      (s.reconcile l true).disc d = some
        { purpose := .found, location := l, verdict := .reject, cause := some .found
          dest := if l = .arm then some .rej else none
          workBay := match l with | .bay n => some n | _ => none } ∧
      (∀ c, c ≠ d → (s.reconcile l true).disc c = s.disc c) ∧
      (s.hasEntry d = false → (s.reconcile l true).tsq.queue = s.tsq.queue ++ [clear d .rej])) ∧
    (∀ d r, s.discAt l = some d → s.disc d = some r →
      (s.reconcile l false).disc d = none ∧ (∀ c, c ≠ d → (s.reconcile l false).disc c = s.disc c) ∧
      (∀ j k, r.job = some k → s.job? k = some j → r.verdict = .pending →
        ((s.reconcile l false).job? k).map Job.rejected = some (min 65535 (j.rejected + 1))) ∧
      (r.purpose ≠ .spare ∨ r.verdict ≠ .good →
        let dest : Dest := if r.purpose = .master ∨ (r.purpose = .copy ∧ r.verdict = .good) then .out else .rej
        ((s.reconcile l true).disc d) = some { r with
          verdict := if r.verdict = .pending ∧ r.purpose ≠ .master then .reject else r.verdict
          cause := if r.verdict = .pending ∧ r.purpose ≠ .master then some .cleared else r.cause
          dest := if l = .arm then some dest else r.dest } ∧
        (s.hasEntry d = false → (s.reconcile l true).tsq.queue = s.tsq.queue ++ [clear d dest]))))

/-- MOTION-FAULT and the expiry of the arm motion timer put the arm in FAULT with their detail and deliver ARM-FAULT; a
MOTION-FAULT taken in FAULT is discarded (R169, R149). ARM-RESUME of an arm in FAULT with the door closed clears the fault
and homes; otherwise it is refused WRONG-STATE (R170). -/
def Obligations.ArmFaultsAreReportedAndResumed : Prop :=
  (∀ (s : State) (p : PortId) (tag : Nat), (s.port p).holdsRequest (requestFrame 19 tag []) = true →
    (s.tsq.arm.state ≠ .fault ∨ s.tsq.door = .opened →
      exec (.armResume p tag) s = .next (s.begin.answer p 19 tag (.refused .wrongState []))) ∧
    (s.tsq.arm.state = .fault → s.tsq.door = .closed →
      exec (.armResume p tag) s =
        .next ({ s.begin with
          sent := [.arm .home], tsq.arm.fault := none, tsq.arm.state := .homing, tsq.arm.motion := some .home
          tsq.arm.lastCmd := some .home, tsq.arm.timer := some 6000 : State }.answer p 19 tag (.good [])))) ∧
  (∀ s : State,
    (s.tsq.arm.state = .fault → exec .motionFault s = .next s.begin) ∧
    (s.tsq.arm.state ≠ .fault →
      exec .motionFault s =
        .next ({ s.begin with
          tsq.arm.motion := none, tsq.arm.timer := none, tsq.arm.state := .fault
          tsq.arm.fault := some .motionFault : State }.deliver
            { kind := .armFault, subject := .none, detail := .arm .motionFault })) ∧
    (s.tsq.arm.timer.isSome →
      exec .armMotionTimerExpiry s =
        .next ({ s.begin with
          tsq.arm.motion := none, tsq.arm.timer := none, tsq.arm.state := .fault
          tsq.arm.fault := some .timeout : State }.deliver
            { kind := .armFault, subject := .none, detail := .arm .timeout })))

/-- A selection without tenure starts a CLEAR whenever some CLEAR can go, whatever LOADs wait (R152). An assignment pass
assigns nothing in a sweep; it takes the oldest master-read request that can be assigned before any job, and of the jobs
that can be assigned the one of highest priority, the oldest among equals (R40); a job that writes first takes the spare
in the lowest bay (R43), and otherwise a blank from its spindle to the lowest free bay (R41, R42). A scan of the wait
queue grants each entry the greatest step that fits, stops at a blocking entry that fits none, and counts a pass for an
entry it skips when a later one is granted (R77, R78, R80, R81, R112). -/
def Obligations.ClearsGoBeforeLoads : Prop :=
  (∀ (s : State) (e : Entry), s.tsq.arm.state = .parked → s.tsq.phase = .running → s.tsq.door = .closed →
    s.tsq.tenure = none → e ∈ s.tsq.queue → e.cls = .clear → s.mayMove e = true → s.reservable e = true →
    ∃ m, s.select.tsq.arm.move = some m ∧ m.entry.cls = .clear) ∧
  (∀ s : State,
    (s.tsq.phase ≠ .running → s.pass = s) ∧
    (s.tsq.phase = .running → s.assignOne = none → s.pass = s) ∧
    (∀ t, s.tsq.phase = .running → s.assignOne = some t → t.assignOne = none → s.pass = t) ∧
    (∀ q t, q ∈ s.jsc.masters → s.assignMaster q = some t →
      (∀ o ∈ s.jsc.masters, o ≠ q → (s.assignMaster o).isSome → q.seq < o.seq) → s.assignOne = some t) ∧
    (∀ j t, (∀ q ∈ s.jsc.masters, s.assignMaster q = none) → j ∈ s.jsc.jobs → s.assignCopy j = some t →
      (∀ o ∈ s.jsc.jobs, o ≠ j → (s.assignCopy o).isSome →
        o.priority < j.priority ∨ (o.priority = j.priority ∧ j.seq < o.seq)) → s.assignOne = some t)) ∧
  (∀ (s : State) (j : Job), j.order = .burnThenPrint ∨ j.order = .burnOnly →
    (j.state ≠ .active ∨ j.copies ≤ j.good + s.active j.number + j.loads ∨ 65535 ≤ j.attempts ∨
      (j.order = .burnThenPrint ∧ s.psc.blocked = true) → s.assignCopy j = none) ∧
    (j.state = .active → j.good + s.active j.number + j.loads < j.copies → j.attempts < 65535 →
      j.order = .burnOnly ∨ s.psc.blocked = false →
      (∀ n d, s.spareFits j n = true → (∀ k, k < n → s.spareFits j k = false) → s.discAt (.bay n) = some d →
        s.assignCopy j = some ((((s.modJob j.number (fun x => { x with attempts := j.attempts + 1 })).modDisc d (fun r =>
          { r with purpose := .copy, job := some j.number, attempt := some (j.attempts + 1) })).setSpareHold n
            none).towardGrant n .write)) ∧
      ((∀ n, s.spareFits j n = false) →
        ((∀ n, s.freeBay n = false) ∨ 24 ≤ s.tsq.queue.length ∨ (∀ x, s.usableFor j x = false) →
          s.assignCopy j = none) ∧
        (∀ n x, s.freeBay n = true → (∀ k, k < n → s.freeBay k = false) → s.tsq.queue.length < 24 →
          s.usableFor j x = true → x = .inA ∨ s.usableFor j .inA = false →
          s.assignCopy j = some
            ({ ((s.setBayRes n (some (.copy j.number (j.attempts + 1)))).modBay n (fun b =>
                  { b with state := .reserved })).modJob j.number (fun y =>
                  { y with attempts := j.attempts + 1, loads := y.loads + 1 }) with
                tsq.queue := s.tsq.queue ++
                  [{ cls := .load, source := .spindle x, dest := .bay n, purpose := some .copy, job := some j.number
                     attempt := some (j.attempts + 1), time := s.tsq.clock }] : State }.dueSelect))))) ∧
  (∀ s : State,
    let fits (w : WaitEntry) (m : Nat) : Prop :=
      m ∈ listedSteps w.kind w.cls ∧ m ≤ w.requested ∧ (∀ lo, w.minimum = some lo → lo ≤ m) ∧
        stepRate w.cls m ≤ s.freeRate w.kind
    (s.rgu.queue = [] → s.scan = s) ∧
    (∀ w ws, s.rgu.queue = w :: ws →
      let rest : State := { s with rgu.queue := ws }
      (∀ m, fits w m → (∀ k, fits w k → k ≤ m) →
        s.scan = (((rest.setGrant w.bay (some
          { kind := w.kind, cls := w.cls, step := m, rate := stepRate w.cls m, phase := .speedPending })).toBay w.bay
            (.speed m w.kind)).modBay w.bay (fun b => { b with speedPending := true, timers.speed := some 2000 })).scan) ∧
      ((∀ m, ¬fits w m) → 4 ≤ w.passes → s.scan = s) ∧
      ((∀ m, ¬fits w m) → w.passes < 4 →
        s.scan = { rest.scan with
          rgu.queue :=
            { w with passes := if rest.scan.rgu.queue.length < ws.length then w.passes + 1 else w.passes }
              :: rest.scan.rgu.queue })))

/-! ### The station -/

/-- ARTWORK-OK sends MERGE with the job's text and next serial, and PRINT (R178, R179); PRINT-DONE assigns the serial, takes
the ink level and enters PRINT, with GOOD when no step is left (R180, R181). For a job that drains HARD the record is rejected
CANCELLED instead, and its CLEAR goes to REJ (R181, R35). Each is discarded in any other state. -/
def Obligations.APrintRunsToItsEnd : Prop :=
  ∀ s : State,
    (s.psc.state ≠ .loaded ∨ s.psc.step ≠ some .artworkWait → exec .artworkOk s = .next s.begin) ∧
    (∀ d r j p, s.psc.state = .loaded → s.psc.step = some .artworkWait → s.discAt .printer = some d →
      s.disc d = some r → s.jobOf r = some j → j.serial = some p → p.atEnd = false →
      exec .artworkOk s =
        .next { s.begin with
          sent := [.printer (.merge (mergeText p.text { lot := p.nextLot, unit := p.nextUnit })), .printer .print]
          psc.cacheTag := j.labelImage, psc.state := .printing, psc.step := none, psc.timer := some 60000 }) ∧
    (∀ ink, s.psc.state ≠ .printing → exec (.printDone ink) s = .next s.begin) ∧
    (∀ ink d, s.psc.state = .printing → s.discAt .printer = some d →
      let u := (({ s.begin with psc.timer := none : State }.assignSerial d).takeInk ink).modDisc d (fun r =>
        { r with steps.print := true })
      (u.drainsHard d = false → u.nextStepOf d = none → exec (.printDone ink) s =
        .next ((((u.verdict d none).stationTo .printed).clearFromPrinter.proceedSense).settle)) ∧
      (u.drainsHard d = false → u.nextStepOf d ≠ none → exec (.printDone ink) s =
        .next (((u.stationTo .printed).clearFromPrinter.proceedSense).settle)) ∧
      (∀ r, u.drainsHard d = true → s.disc d = some r →
        let v := ((u.writeVerdict d (some .cancelled)).stationTo .printed).clearFromPrinter.proceedSense
        exec (.printDone ink) s = .next v.settle ∧ v.psc.state = .printed ∧
          (v.disc d).map (fun r => r.steps.print) = some true ∧
          (r.verdict ≠ .pending → (v.disc d).map Disc.verdict = some r.verdict) ∧
          (r.verdict = .pending →
            (v.disc d).map Disc.verdict = some .reject ∧ (v.disc d).bind Disc.cause = some .cancelled ∧
            (s.tsq.phase = .running → r.purpose = .copy → s.hasEntry d = false →
              v.tsq.queue = s.tsq.queue ++
                [{ cls := .clear, source := .printer, dest := .rej, disc := some d, time := s.tsq.clock }]))))

/-- INK-OUT in PRINTING stops the print and is reported with the job (R182). JAM jams the station unless it is jammed,
and so does the print timer in PRINTING and in ARTWORK-WAIT, with the detail TIMEOUT (R178; that an expiry of a timer
that is stopped changes nothing is the model's, notes/assumptions/6.md): the timer stops, the printer's artwork is
unknown, PRINTER-JAM is delivered, and the disc is treated by the state the station was in: a print in hand has used its
serial and the disc is rejected PRINT-FAILED, an artwork transfer is withdrawn and the disc is rejected so, any other
disc is left (R183, R180). -/
def Obligations.ThePrinterStops : Prop :=
  ∀ s : State,
    (s.psc.state ≠ .printing → exec .inkOut s = .next s.begin) ∧
    (∀ d r j job, s.psc.state = .printing → s.discAt .printer = some d → s.disc d = some r → r.job = some job →
      s.job? job = some j → j.state ≠ .draining → s.tsq.phase ≠ .sweeping .printer →
      exec .inkOut s =
        .next ({ s.begin with
          psc.state := .inkOut, psc.step := none, psc.timer := none, psc.ink := some 0, psc.inkLow := true : State
            }.deliver { kind := .inkOut, subject := .job job, detail := .none })) ∧
    (s.psc.state = .jammed → exec .jam s = .next s.begin) ∧
    (s.psc.timer = none → exec .printTimerExpiry s = .next s.begin) ∧
    (∀ c why, (c = .jam ∧ why = .jam ∧ s.psc.state ≠ .jammed) ∨
        (c = .printTimerExpiry ∧ why = .timeout ∧ s.psc.timer.isSome ∧
          (s.psc.state = .printing ∨
            (s.psc.state = .loaded ∧ s.psc.step = some .artworkWait ∧ s.psc.sense = none))) →
      ∃ u : State,
        exec c s = .next (if s.psc.state = .printing then u.proceedSense else u).settle ∧
        u.psc.state = .jammed ∧ u.psc.step = none ∧ u.psc.timer = none ∧ u.psc.cacheTag = none ∧
        (∀ p b, (s.port p).booked = [b] → b.kind = .printerJam → b.scope = none ∨ b.scope = s.printerJob →
          (s.port p).notices.length < 16 →
          { kind := .printerJam, tag := b.tag, detail := .jam why
            subject := match s.printerJob with | some j => .job j | none => .none } ∈ (u.port p).notices) ∧
        (∀ d r, s.discAt .printer = some d → s.disc d = some r → r.verdict = .pending →
          (s.psc.state = .printing →
            (u.disc d).map Disc.verdict = some .reject ∧ (u.disc d).bind Disc.cause = some .printFailed ∧
            ∀ j p, s.jobOf r = some j → j.serial = some p →
              (u.disc d).bind Disc.serial = some { lot := p.nextLot, unit := p.nextUnit }) ∧
          (s.psc.state = .loaded → s.psc.step = some .transfer ∨ s.psc.step = some .artworkWait →
            u.fdr.artwork = none ∧ (u.disc d).map Disc.verdict = some .reject ∧
            (u.disc d).bind Disc.cause = some .printFailed)) ∧
        (s.psc.state ≠ .printing →
          (s.psc.state ≠ .loaded ∨ (s.psc.step ≠ some .transfer ∧ s.psc.step ≠ some .artworkWait)) →
          u.discs = s.discs ∧ u.fdr = s.fdr))

/-- PRINTER-SERVICED with the station in INK-OUT or JAMMED and no sense pending sends TRAY-SENSE, and the port waits for
the report (R186). A report that disagrees with the disc table, and a sense that is not answered in JAMMED, leave the
station as it is and answer the port, while one not answered in INK-OUT jams it with PRINTER-JAM; one that agrees on a
disc takes it as at a placement: a REJECT leaves for REJ, also by a CLEAR queued before the jam, a GOOD one for OUT, and
one that awaits its print starts again with its artwork (R176, R178); one that agrees on an empty tray frees the station
(R186). A sweep's report reconciles the printer tray, the station settles by the disc table, and the sweep ends (R188,
R172); a sweep's sense that is not answered jams the station, which answers by the disc table (R188; that a jammed one
jams anew is DEDUCED, notes/assumptions/45.md). With no sense pending a report changes nothing. PRINTER-SERVICED is
taken so in every phase: that it is in a sweep before the sweep has asked for the sense is the model's
(notes/assumptions/57.md). The result codes are the model's (notes/assumptions/21.md). -/
def Obligations.ThePrinterIsServiced : Prop :=
  (∀ (s : State) (p : PortId) (tag : Nat), (s.port p).holdsRequest (requestFrame 22 tag []) = true →
    (s.psc.state ≠ .inkOut → s.psc.state ≠ .jammed →
      exec (.printerServiced p tag) s = .next (s.begin.answer p 22 tag (.refused .wrongState []))) ∧
    (s.psc.state = .inkOut ∨ s.psc.state = .jammed →
      (s.psc.sense.isSome →
        exec (.printerServiced p tag) s = .next (s.begin.answer p 22 tag (.refused .busy []))) ∧
      (s.psc.sense = none →
        exec (.printerServiced p tag) s =
          .next ({ s.begin with
            sent := [.printer .traySense], psc.cacheTag := none, psc.sense := some .service
            psc.timer := some 60000, psc.servicePort := some p : State }.modPort p (fun x => { x with waiting := true }))))) ∧
  (∀ (s : State) (present : Bool),
    (s.psc.sense = none → exec (.trayReport present) s = .next s.begin) ∧
    (∀ p, s.psc.sense = some .service → s.psc.servicePort = some p → (s.port p).waiting = true →
      s.tsq.phase = .running →
      ((s.discAt .printer).isSome ≠ present →
        exec (.trayReport present) s =
          .next ({ s.begin with psc.sense := none, psc.timer := none, psc.servicePort := none : State }.answer p 22
            (s.port p).frameTag (.good (u8 s.psc.state.code ++ u8 2)))) ∧
      (s.discAt .printer = none → present = false → s.psc.reservedFor = none →
        exec (.trayReport present) s =
          .next ({ s.begin with
            psc.sense := none, psc.timer := none, psc.servicePort := none, psc.state := .vacant
            psc.step := none : State }.dueBoth.answer p 22 (s.port p).frameTag (.good (u8 1 ++ u8 1))).settle) ∧
      (s.psc.state = .jammed → s.psc.timer.isSome →
        exec .printTimerExpiry s =
          .next ({ s.begin with psc.sense := none, psc.timer := none, psc.servicePort := none : State }.answer p 22
            (s.port p).frameTag (.good (u8 7 ++ u8 3)))) ∧
      (s.psc.state = .inkOut → s.psc.timer.isSome →
        exec .printTimerExpiry s =
          .next ((({ s.begin with
            psc.sense := none, psc.timer := none, psc.servicePort := none, psc.state := .jammed, psc.step := none
            psc.cacheTag := none : State }.deliver
              { kind := .printerJam, detail := .jam .timeout
                subject := match s.printerJob with | some j => .job j | none => .none }).duePass.answer p 22
            (s.port p).frameTag (.good (u8 7 ++ u8 3))).settle)) ∧
      (∀ d r, s.psc.state = .inkOut ∨ s.psc.state = .jammed → present = true → s.discAt .printer = some d →
        s.disc d = some r → r.purpose = .copy →
        let agreed (u : State) : Prop :=
          exec (.trayReport present) s = .next u.settle ∧ u.discs = s.discs ∧ u.psc.state = .loaded ∧
            u.psc.sense = none ∧ u.psc.timer = none ∧ u.psc.servicePort = none ∧ u.psc.reservedFor = none ∧
            (u.port p).reply = replyBytes 22 (s.port p).frameTag (.good (u8 3 ++ u8 1))
        (r.verdict = .reject → (∀ m, s.tsq.arm.move = some m → m.entry.disc ≠ some d) →
          (∀ e ∈ s.tsq.queue, e.disc = some d → e.cls = .clear) →
          ∃ u : State, agreed u ∧ u.psc.step = some .leaving ∧
            (∃ e ∈ u.tsq.queue, e.disc = some d ∧ e.cls = .clear) ∧
            ∀ e ∈ u.tsq.queue, e.disc = some d → e.dest = .rej) ∧
        (r.verdict = .good → s.hasEntry d = false →
          ∃ u : State, agreed u ∧ u.psc.step = some .leaving ∧
            u.tsq.queue = s.tsq.queue ++
              [{ cls := .clear, source := .printer, dest := .out, disc := some d, time := s.tsq.clock }]) ∧
        (∀ j i x, r.verdict = .pending → s.jobOf r = some j → nextStep j r = some .print → j.labelImage = some i →
          s.image? i = some x → x.state ≠ .lost → s.psc.cacheTag ≠ some x.number →
          ∃ u : State, agreed u ∧ u.psc.step = some .transfer ∧ .printer (.artwork x.number x.length) ∈ u.sent ∧
            u.fdr.artwork = some { image := x.number, length := x.length }))) ∧
    (s.psc.sense = some .sweep → s.psc.state ≠ .printing →
      let idle : State := { s.begin with psc.sense := none, psc.timer := none, psc.servicePort := none }
      exec (.trayReport present) s = .next ((idle.printerAnswered present).settle) ∧
        (idle.printerAnswered present).tsq.phase = .running ∧
        (idle.printerAnswered present).discs = (idle.reconcile .printer present).discs ∧
        (idle.printerAnswered present).psc.sense = none ∧ (idle.printerAnswered present).psc.timer = none ∧
        (s.psc.state = .inkOut ∨ s.psc.state = .jammed → (idle.printerAnswered present).psc.state = s.psc.state) ∧
        (s.psc.state ≠ .inkOut → s.psc.state ≠ .jammed →
          (((idle.reconcile .printer present).discAt .printer).isSome →
            (idle.printerAnswered present).psc.state = .loaded ∧
            (idle.printerAnswered present).psc.step = some .leaving) ∧
          ((idle.reconcile .printer present).discAt .printer = none →
            (idle.printerAnswered present).psc.state = .vacant ∧ (idle.printerAnswered present).psc.step = none)) ∧
        (s.psc.timer.isSome →
          let jammed := idle.jam .timeout
          let settled := jammed.printerAnswered (jammed.discAt .printer).isSome
          exec .printTimerExpiry s = .next settled.settle ∧ settled.psc.state = .jammed ∧ settled.psc.cacheTag = none ∧
            settled.psc.sense = none ∧ settled.psc.timer = none ∧ settled.tsq.phase = .running ∧
            settled.discs = (jammed.reconcile .printer (jammed.discAt .printer).isSome).discs)))
end

