-- ==== Sys2Proof/Laws/Bytes.lean ====
section
/-! SUPPORT. Laws of the byte forms of 11.1 and of the request frames. -/

namespace Sys2Proof.Machine

@[simp] theorem u8_length (n : Nat) : (u8 n).length = 1 := rfl
@[simp] theorem u16_length (n : Nat) : (u16 n).length = 2 := rfl
@[simp] theorem u32_length (n : Nat) : (u32 n).length = 4 := rfl

/-- A two-byte number reads back. -/
theorem be16_ofNat {n : Nat} (h : n < 65536) : be16 (BitVec.ofNat 8 (n / 256)) (BitVec.ofNat 8 n) = n := by
  rw [be16, BitVec.toNat_ofNat, BitVec.toNat_ofNat]; omega

theorem submitBytes_length (p : SubmitParams) : (submitBytes p).length = 25 + p.text.length := by
  simp only [submitBytes, textOf, List.length_append, u8_length, u16_length]; omega

/-- The text length byte of SUBMIT-JOB is its 25th parameter byte (11.1). -/
theorem submitBytes_textLength (p : SubmitParams) : (submitBytes p).getD 24 0 = BitVec.ofNat 8 p.text.length := by
  simp only [submitBytes, textOf, u16, u8, List.cons_append, List.nil_append, List.getD_cons_succ,
    List.getD_cons_zero]

/-- SUBMIT-JOB's parameters pass the count test exactly when the text has at most twelve characters. -/
theorem submitBytes_ok {p : SubmitParams} (h : p.text.length < 256) :
    paramCountOk 7 (submitBytes p) = decide (p.text.length ≤ 12) := by
  simp only [paramCountOk, submitBytes_length, submitBytes_textLength, BitVec.toNat_ofNat]
  rw [Nat.mod_eq_of_lt h]
  by_cases h : p.text.length ≤ 12 <;> simp [h] <;> omega

/-! ### The frame of a request -/

theorem requestFrame_cons (kind tag : Nat) (params : List Byte) :
    requestFrame kind tag params =
      BitVec.ofNat 8 ((3 + params.length) / 256) :: BitVec.ofNat 8 (3 + params.length) :: BitVec.ofNat 8 kind ::
        BitVec.ofNat 8 (tag / 256) :: BitVec.ofNat 8 tag :: params := rfl

@[simp] theorem requestFrame_length (kind tag : Nat) (params : List Byte) :
    (requestFrame kind tag params).length = 5 + params.length := by
  simp [requestFrame_cons]; omega

/-- What the assembler reads from a request frame: length, kind, tag and parameters (R192, 11.1). -/
theorem requestFrame_fields {kind tag : Nat} {params : List Byte} (hk : kind < 256) (ht : tag < 65536)
    (hp : params.length < 1000) (x : Port) (hx : x.frame = requestFrame kind tag params) :
    x.frameLength = 3 + params.length ∧ x.frameKind = kind ∧ x.frameTag = tag ∧ x.frame.drop 5 = params := by
  simp only [Port.frameLength, Port.frameKind, Port.frameTag, hx, requestFrame_cons]
  refine ⟨be16_ofNat (by omega), ?_, be16_ofNat ht, rfl⟩
  simp [BitVec.toNat_ofNat, Nat.mod_eq_of_lt hk]

end Sys2Proof.Machine
end

