-- ==== Sys2Proof/Laws/State.lean ====
section
/-! SUPPORT. One lemma for each field and each update of the state, so that no proof unfolds a record update; and what
the tables read after a change of one of their places. -/

namespace Sys2Proof.Machine

/-! ### emit -/

@[simp] theorem State.emit_pending (m : OutMsg) (s : State) : (State.emit m s).pending = s.pending := rfl
@[simp] theorem State.emit_due (m : OutMsg) (s : State) : (State.emit m s).due = s.due := rfl
@[simp] theorem State.emit_ports (m : OutMsg) (s : State) : (State.emit m s).ports = s.ports := rfl
@[simp] theorem State.emit_sst (m : OutMsg) (s : State) : (State.emit m s).sst = s.sst := rfl
@[simp] theorem State.emit_jsc (m : OutMsg) (s : State) : (State.emit m s).jsc = s.jsc := rfl
@[simp] theorem State.emit_discs (m : OutMsg) (s : State) : (State.emit m s).discs = s.discs := rfl
@[simp] theorem State.emit_cat (m : OutMsg) (s : State) : (State.emit m s).cat = s.cat := rfl
@[simp] theorem State.emit_ipt (m : OutMsg) (s : State) : (State.emit m s).ipt = s.ipt := rfl
@[simp] theorem State.emit_smc (m : OutMsg) (s : State) : (State.emit m s).smc = s.smc := rfl
@[simp] theorem State.emit_mem (m : OutMsg) (s : State) : (State.emit m s).mem = s.mem := rfl
@[simp] theorem State.emit_rgu (m : OutMsg) (s : State) : (State.emit m s).rgu = s.rgu := rfl
@[simp] theorem State.emit_fdr (m : OutMsg) (s : State) : (State.emit m s).fdr = s.fdr := rfl
@[simp] theorem State.emit_bays (m : OutMsg) (s : State) : (State.emit m s).bays = s.bays := rfl
@[simp] theorem State.emit_tsq (m : OutMsg) (s : State) : (State.emit m s).tsq = s.tsq := rfl
@[simp] theorem State.emit_psc (m : OutMsg) (s : State) : (State.emit m s).psc = s.psc := rfl

/-! ### toBay -/

@[simp] theorem State.toBay_pending (n : BayId) (m : BayMsg) (s : State) : (State.toBay n m s).pending = s.pending := rfl
@[simp] theorem State.toBay_due (n : BayId) (m : BayMsg) (s : State) : (State.toBay n m s).due = s.due := rfl
@[simp] theorem State.toBay_ports (n : BayId) (m : BayMsg) (s : State) : (State.toBay n m s).ports = s.ports := rfl
@[simp] theorem State.toBay_sst (n : BayId) (m : BayMsg) (s : State) : (State.toBay n m s).sst = s.sst := rfl
@[simp] theorem State.toBay_jsc (n : BayId) (m : BayMsg) (s : State) : (State.toBay n m s).jsc = s.jsc := rfl
@[simp] theorem State.toBay_discs (n : BayId) (m : BayMsg) (s : State) : (State.toBay n m s).discs = s.discs := rfl
@[simp] theorem State.toBay_cat (n : BayId) (m : BayMsg) (s : State) : (State.toBay n m s).cat = s.cat := rfl
@[simp] theorem State.toBay_ipt (n : BayId) (m : BayMsg) (s : State) : (State.toBay n m s).ipt = s.ipt := rfl
@[simp] theorem State.toBay_smc (n : BayId) (m : BayMsg) (s : State) : (State.toBay n m s).smc = s.smc := rfl
@[simp] theorem State.toBay_mem (n : BayId) (m : BayMsg) (s : State) : (State.toBay n m s).mem = s.mem := rfl
@[simp] theorem State.toBay_rgu (n : BayId) (m : BayMsg) (s : State) : (State.toBay n m s).rgu = s.rgu := rfl
@[simp] theorem State.toBay_fdr (n : BayId) (m : BayMsg) (s : State) : (State.toBay n m s).fdr = s.fdr := rfl
@[simp] theorem State.toBay_bays (n : BayId) (m : BayMsg) (s : State) : (State.toBay n m s).bays = s.bays := rfl
@[simp] theorem State.toBay_tsq (n : BayId) (m : BayMsg) (s : State) : (State.toBay n m s).tsq = s.tsq := rfl
@[simp] theorem State.toBay_psc (n : BayId) (m : BayMsg) (s : State) : (State.toBay n m s).psc = s.psc := rfl

/-! ### toArm -/

@[simp] theorem State.toArm_pending (m : ArmMsg) (s : State) : (State.toArm m s).pending = s.pending := rfl
@[simp] theorem State.toArm_due (m : ArmMsg) (s : State) : (State.toArm m s).due = s.due := rfl
@[simp] theorem State.toArm_ports (m : ArmMsg) (s : State) : (State.toArm m s).ports = s.ports := rfl
@[simp] theorem State.toArm_sst (m : ArmMsg) (s : State) : (State.toArm m s).sst = s.sst := rfl
@[simp] theorem State.toArm_jsc (m : ArmMsg) (s : State) : (State.toArm m s).jsc = s.jsc := rfl
@[simp] theorem State.toArm_discs (m : ArmMsg) (s : State) : (State.toArm m s).discs = s.discs := rfl
@[simp] theorem State.toArm_cat (m : ArmMsg) (s : State) : (State.toArm m s).cat = s.cat := rfl
@[simp] theorem State.toArm_ipt (m : ArmMsg) (s : State) : (State.toArm m s).ipt = s.ipt := rfl
@[simp] theorem State.toArm_smc (m : ArmMsg) (s : State) : (State.toArm m s).smc = s.smc := rfl
@[simp] theorem State.toArm_mem (m : ArmMsg) (s : State) : (State.toArm m s).mem = s.mem := rfl
@[simp] theorem State.toArm_rgu (m : ArmMsg) (s : State) : (State.toArm m s).rgu = s.rgu := rfl
@[simp] theorem State.toArm_fdr (m : ArmMsg) (s : State) : (State.toArm m s).fdr = s.fdr := rfl
@[simp] theorem State.toArm_bays (m : ArmMsg) (s : State) : (State.toArm m s).bays = s.bays := rfl
@[simp] theorem State.toArm_tsq (m : ArmMsg) (s : State) : (State.toArm m s).tsq = s.tsq := rfl
@[simp] theorem State.toArm_psc (m : ArmMsg) (s : State) : (State.toArm m s).psc = s.psc := rfl

/-! ### toPrinter -/

@[simp] theorem State.toPrinter_pending (m : PrinterMsg) (s : State) : (State.toPrinter m s).pending = s.pending := rfl
@[simp] theorem State.toPrinter_due (m : PrinterMsg) (s : State) : (State.toPrinter m s).due = s.due := rfl
@[simp] theorem State.toPrinter_ports (m : PrinterMsg) (s : State) : (State.toPrinter m s).ports = s.ports := rfl
@[simp] theorem State.toPrinter_sst (m : PrinterMsg) (s : State) : (State.toPrinter m s).sst = s.sst := rfl
@[simp] theorem State.toPrinter_jsc (m : PrinterMsg) (s : State) : (State.toPrinter m s).jsc = s.jsc := rfl
@[simp] theorem State.toPrinter_discs (m : PrinterMsg) (s : State) : (State.toPrinter m s).discs = s.discs := rfl
@[simp] theorem State.toPrinter_cat (m : PrinterMsg) (s : State) : (State.toPrinter m s).cat = s.cat := rfl
@[simp] theorem State.toPrinter_ipt (m : PrinterMsg) (s : State) : (State.toPrinter m s).ipt = s.ipt := rfl
@[simp] theorem State.toPrinter_smc (m : PrinterMsg) (s : State) : (State.toPrinter m s).smc = s.smc := rfl
@[simp] theorem State.toPrinter_mem (m : PrinterMsg) (s : State) : (State.toPrinter m s).mem = s.mem := rfl
@[simp] theorem State.toPrinter_rgu (m : PrinterMsg) (s : State) : (State.toPrinter m s).rgu = s.rgu := rfl
@[simp] theorem State.toPrinter_fdr (m : PrinterMsg) (s : State) : (State.toPrinter m s).fdr = s.fdr := rfl
@[simp] theorem State.toPrinter_bays (m : PrinterMsg) (s : State) : (State.toPrinter m s).bays = s.bays := rfl
@[simp] theorem State.toPrinter_tsq (m : PrinterMsg) (s : State) : (State.toPrinter m s).tsq = s.tsq := rfl
@[simp] theorem State.toPrinter_psc (m : PrinterMsg) (s : State) : (State.toPrinter m s).psc = s.psc := rfl

/-! ### duePass -/

@[simp] theorem State.duePass_pending (s : State) : (State.duePass s).pending = s.pending := rfl
@[simp] theorem State.duePass_sent (s : State) : (State.duePass s).sent = s.sent := rfl
@[simp] theorem State.duePass_ports (s : State) : (State.duePass s).ports = s.ports := rfl
@[simp] theorem State.duePass_sst (s : State) : (State.duePass s).sst = s.sst := rfl
@[simp] theorem State.duePass_jsc (s : State) : (State.duePass s).jsc = s.jsc := rfl
@[simp] theorem State.duePass_discs (s : State) : (State.duePass s).discs = s.discs := rfl
@[simp] theorem State.duePass_cat (s : State) : (State.duePass s).cat = s.cat := rfl
@[simp] theorem State.duePass_ipt (s : State) : (State.duePass s).ipt = s.ipt := rfl
@[simp] theorem State.duePass_smc (s : State) : (State.duePass s).smc = s.smc := rfl
@[simp] theorem State.duePass_mem (s : State) : (State.duePass s).mem = s.mem := rfl
@[simp] theorem State.duePass_rgu (s : State) : (State.duePass s).rgu = s.rgu := rfl
@[simp] theorem State.duePass_fdr (s : State) : (State.duePass s).fdr = s.fdr := rfl
@[simp] theorem State.duePass_bays (s : State) : (State.duePass s).bays = s.bays := rfl
@[simp] theorem State.duePass_tsq (s : State) : (State.duePass s).tsq = s.tsq := rfl
@[simp] theorem State.duePass_psc (s : State) : (State.duePass s).psc = s.psc := rfl

/-! ### dueSelect -/

@[simp] theorem State.dueSelect_pending (s : State) : (State.dueSelect s).pending = s.pending := rfl
@[simp] theorem State.dueSelect_sent (s : State) : (State.dueSelect s).sent = s.sent := rfl
@[simp] theorem State.dueSelect_ports (s : State) : (State.dueSelect s).ports = s.ports := rfl
@[simp] theorem State.dueSelect_sst (s : State) : (State.dueSelect s).sst = s.sst := rfl
@[simp] theorem State.dueSelect_jsc (s : State) : (State.dueSelect s).jsc = s.jsc := rfl
@[simp] theorem State.dueSelect_discs (s : State) : (State.dueSelect s).discs = s.discs := rfl
@[simp] theorem State.dueSelect_cat (s : State) : (State.dueSelect s).cat = s.cat := rfl
@[simp] theorem State.dueSelect_ipt (s : State) : (State.dueSelect s).ipt = s.ipt := rfl
@[simp] theorem State.dueSelect_smc (s : State) : (State.dueSelect s).smc = s.smc := rfl
@[simp] theorem State.dueSelect_mem (s : State) : (State.dueSelect s).mem = s.mem := rfl
@[simp] theorem State.dueSelect_rgu (s : State) : (State.dueSelect s).rgu = s.rgu := rfl
@[simp] theorem State.dueSelect_fdr (s : State) : (State.dueSelect s).fdr = s.fdr := rfl
@[simp] theorem State.dueSelect_bays (s : State) : (State.dueSelect s).bays = s.bays := rfl
@[simp] theorem State.dueSelect_tsq (s : State) : (State.dueSelect s).tsq = s.tsq := rfl
@[simp] theorem State.dueSelect_psc (s : State) : (State.dueSelect s).psc = s.psc := rfl

/-! ### dueBoth -/

@[simp] theorem State.dueBoth_pending (s : State) : (State.dueBoth s).pending = s.pending := rfl
@[simp] theorem State.dueBoth_sent (s : State) : (State.dueBoth s).sent = s.sent := rfl
@[simp] theorem State.dueBoth_ports (s : State) : (State.dueBoth s).ports = s.ports := rfl
@[simp] theorem State.dueBoth_sst (s : State) : (State.dueBoth s).sst = s.sst := rfl
@[simp] theorem State.dueBoth_jsc (s : State) : (State.dueBoth s).jsc = s.jsc := rfl
@[simp] theorem State.dueBoth_discs (s : State) : (State.dueBoth s).discs = s.discs := rfl
@[simp] theorem State.dueBoth_cat (s : State) : (State.dueBoth s).cat = s.cat := rfl
@[simp] theorem State.dueBoth_ipt (s : State) : (State.dueBoth s).ipt = s.ipt := rfl
@[simp] theorem State.dueBoth_smc (s : State) : (State.dueBoth s).smc = s.smc := rfl
@[simp] theorem State.dueBoth_mem (s : State) : (State.dueBoth s).mem = s.mem := rfl
@[simp] theorem State.dueBoth_rgu (s : State) : (State.dueBoth s).rgu = s.rgu := rfl
@[simp] theorem State.dueBoth_fdr (s : State) : (State.dueBoth s).fdr = s.fdr := rfl
@[simp] theorem State.dueBoth_bays (s : State) : (State.dueBoth s).bays = s.bays := rfl
@[simp] theorem State.dueBoth_tsq (s : State) : (State.dueBoth s).tsq = s.tsq := rfl
@[simp] theorem State.dueBoth_psc (s : State) : (State.dueBoth s).psc = s.psc := rfl

/-! ### dueSweep -/

@[simp] theorem State.dueSweep_pending (s : State) : (State.dueSweep s).pending = s.pending := rfl
@[simp] theorem State.dueSweep_sent (s : State) : (State.dueSweep s).sent = s.sent := rfl
@[simp] theorem State.dueSweep_ports (s : State) : (State.dueSweep s).ports = s.ports := rfl
@[simp] theorem State.dueSweep_sst (s : State) : (State.dueSweep s).sst = s.sst := rfl
@[simp] theorem State.dueSweep_jsc (s : State) : (State.dueSweep s).jsc = s.jsc := rfl
@[simp] theorem State.dueSweep_discs (s : State) : (State.dueSweep s).discs = s.discs := rfl
@[simp] theorem State.dueSweep_cat (s : State) : (State.dueSweep s).cat = s.cat := rfl
@[simp] theorem State.dueSweep_ipt (s : State) : (State.dueSweep s).ipt = s.ipt := rfl
@[simp] theorem State.dueSweep_smc (s : State) : (State.dueSweep s).smc = s.smc := rfl
@[simp] theorem State.dueSweep_mem (s : State) : (State.dueSweep s).mem = s.mem := rfl
@[simp] theorem State.dueSweep_rgu (s : State) : (State.dueSweep s).rgu = s.rgu := rfl
@[simp] theorem State.dueSweep_fdr (s : State) : (State.dueSweep s).fdr = s.fdr := rfl
@[simp] theorem State.dueSweep_bays (s : State) : (State.dueSweep s).bays = s.bays := rfl
@[simp] theorem State.dueSweep_tsq (s : State) : (State.dueSweep s).tsq = s.tsq := rfl
@[simp] theorem State.dueSweep_psc (s : State) : (State.dueSweep s).psc = s.psc := rfl

/-! ### modBay -/

@[simp] theorem State.modBay_pending (n : BayId) (f : Bay → Bay) (s : State) : (State.modBay n f s).pending = s.pending := rfl
@[simp] theorem State.modBay_sent (n : BayId) (f : Bay → Bay) (s : State) : (State.modBay n f s).sent = s.sent := rfl
@[simp] theorem State.modBay_due (n : BayId) (f : Bay → Bay) (s : State) : (State.modBay n f s).due = s.due := rfl
@[simp] theorem State.modBay_ports (n : BayId) (f : Bay → Bay) (s : State) : (State.modBay n f s).ports = s.ports := rfl
@[simp] theorem State.modBay_sst (n : BayId) (f : Bay → Bay) (s : State) : (State.modBay n f s).sst = s.sst := rfl
@[simp] theorem State.modBay_jsc (n : BayId) (f : Bay → Bay) (s : State) : (State.modBay n f s).jsc = s.jsc := rfl
@[simp] theorem State.modBay_discs (n : BayId) (f : Bay → Bay) (s : State) : (State.modBay n f s).discs = s.discs := rfl
@[simp] theorem State.modBay_cat (n : BayId) (f : Bay → Bay) (s : State) : (State.modBay n f s).cat = s.cat := rfl
@[simp] theorem State.modBay_ipt (n : BayId) (f : Bay → Bay) (s : State) : (State.modBay n f s).ipt = s.ipt := rfl
@[simp] theorem State.modBay_smc (n : BayId) (f : Bay → Bay) (s : State) : (State.modBay n f s).smc = s.smc := rfl
@[simp] theorem State.modBay_mem (n : BayId) (f : Bay → Bay) (s : State) : (State.modBay n f s).mem = s.mem := rfl
@[simp] theorem State.modBay_rgu (n : BayId) (f : Bay → Bay) (s : State) : (State.modBay n f s).rgu = s.rgu := rfl
@[simp] theorem State.modBay_fdr (n : BayId) (f : Bay → Bay) (s : State) : (State.modBay n f s).fdr = s.fdr := rfl
@[simp] theorem State.modBay_tsq (n : BayId) (f : Bay → Bay) (s : State) : (State.modBay n f s).tsq = s.tsq := rfl
@[simp] theorem State.modBay_psc (n : BayId) (f : Bay → Bay) (s : State) : (State.modBay n f s).psc = s.psc := rfl

/-! ### bayTo -/

@[simp] theorem State.bayTo_pending (n : BayId) (x : BayState) (s : State) : (State.bayTo n x s).pending = s.pending := rfl
@[simp] theorem State.bayTo_sent (n : BayId) (x : BayState) (s : State) : (State.bayTo n x s).sent = s.sent := rfl
@[simp] theorem State.bayTo_due (n : BayId) (x : BayState) (s : State) : (State.bayTo n x s).due = s.due := rfl
@[simp] theorem State.bayTo_ports (n : BayId) (x : BayState) (s : State) : (State.bayTo n x s).ports = s.ports := rfl
@[simp] theorem State.bayTo_sst (n : BayId) (x : BayState) (s : State) : (State.bayTo n x s).sst = s.sst := rfl
@[simp] theorem State.bayTo_jsc (n : BayId) (x : BayState) (s : State) : (State.bayTo n x s).jsc = s.jsc := rfl
@[simp] theorem State.bayTo_discs (n : BayId) (x : BayState) (s : State) : (State.bayTo n x s).discs = s.discs := rfl
@[simp] theorem State.bayTo_cat (n : BayId) (x : BayState) (s : State) : (State.bayTo n x s).cat = s.cat := rfl
@[simp] theorem State.bayTo_ipt (n : BayId) (x : BayState) (s : State) : (State.bayTo n x s).ipt = s.ipt := rfl
@[simp] theorem State.bayTo_smc (n : BayId) (x : BayState) (s : State) : (State.bayTo n x s).smc = s.smc := rfl
@[simp] theorem State.bayTo_mem (n : BayId) (x : BayState) (s : State) : (State.bayTo n x s).mem = s.mem := rfl
@[simp] theorem State.bayTo_rgu (n : BayId) (x : BayState) (s : State) : (State.bayTo n x s).rgu = s.rgu := rfl
@[simp] theorem State.bayTo_fdr (n : BayId) (x : BayState) (s : State) : (State.bayTo n x s).fdr = s.fdr := rfl
@[simp] theorem State.bayTo_tsq (n : BayId) (x : BayState) (s : State) : (State.bayTo n x s).tsq = s.tsq := rfl
@[simp] theorem State.bayTo_psc (n : BayId) (x : BayState) (s : State) : (State.bayTo n x s).psc = s.psc := rfl

/-! ### modPort -/

@[simp] theorem State.modPort_pending (p : PortId) (f : Port → Port) (s : State) : (State.modPort p f s).pending = s.pending := rfl
@[simp] theorem State.modPort_sent (p : PortId) (f : Port → Port) (s : State) : (State.modPort p f s).sent = s.sent := rfl
@[simp] theorem State.modPort_due (p : PortId) (f : Port → Port) (s : State) : (State.modPort p f s).due = s.due := rfl
@[simp] theorem State.modPort_sst (p : PortId) (f : Port → Port) (s : State) : (State.modPort p f s).sst = s.sst := rfl
@[simp] theorem State.modPort_jsc (p : PortId) (f : Port → Port) (s : State) : (State.modPort p f s).jsc = s.jsc := rfl
@[simp] theorem State.modPort_discs (p : PortId) (f : Port → Port) (s : State) : (State.modPort p f s).discs = s.discs := rfl
@[simp] theorem State.modPort_cat (p : PortId) (f : Port → Port) (s : State) : (State.modPort p f s).cat = s.cat := rfl
@[simp] theorem State.modPort_ipt (p : PortId) (f : Port → Port) (s : State) : (State.modPort p f s).ipt = s.ipt := rfl
@[simp] theorem State.modPort_smc (p : PortId) (f : Port → Port) (s : State) : (State.modPort p f s).smc = s.smc := rfl
@[simp] theorem State.modPort_mem (p : PortId) (f : Port → Port) (s : State) : (State.modPort p f s).mem = s.mem := rfl
@[simp] theorem State.modPort_rgu (p : PortId) (f : Port → Port) (s : State) : (State.modPort p f s).rgu = s.rgu := rfl
@[simp] theorem State.modPort_fdr (p : PortId) (f : Port → Port) (s : State) : (State.modPort p f s).fdr = s.fdr := rfl
@[simp] theorem State.modPort_bays (p : PortId) (f : Port → Port) (s : State) : (State.modPort p f s).bays = s.bays := rfl
@[simp] theorem State.modPort_tsq (p : PortId) (f : Port → Port) (s : State) : (State.modPort p f s).tsq = s.tsq := rfl
@[simp] theorem State.modPort_psc (p : PortId) (f : Port → Port) (s : State) : (State.modPort p f s).psc = s.psc := rfl

/-! ### modDisc -/

@[simp] theorem State.modDisc_pending (d : DiscId) (f : Disc → Disc) (s : State) : (State.modDisc d f s).pending = s.pending := rfl
@[simp] theorem State.modDisc_sent (d : DiscId) (f : Disc → Disc) (s : State) : (State.modDisc d f s).sent = s.sent := rfl
@[simp] theorem State.modDisc_due (d : DiscId) (f : Disc → Disc) (s : State) : (State.modDisc d f s).due = s.due := rfl
@[simp] theorem State.modDisc_ports (d : DiscId) (f : Disc → Disc) (s : State) : (State.modDisc d f s).ports = s.ports := rfl
@[simp] theorem State.modDisc_sst (d : DiscId) (f : Disc → Disc) (s : State) : (State.modDisc d f s).sst = s.sst := rfl
@[simp] theorem State.modDisc_jsc (d : DiscId) (f : Disc → Disc) (s : State) : (State.modDisc d f s).jsc = s.jsc := rfl
@[simp] theorem State.modDisc_cat (d : DiscId) (f : Disc → Disc) (s : State) : (State.modDisc d f s).cat = s.cat := rfl
@[simp] theorem State.modDisc_ipt (d : DiscId) (f : Disc → Disc) (s : State) : (State.modDisc d f s).ipt = s.ipt := rfl
@[simp] theorem State.modDisc_smc (d : DiscId) (f : Disc → Disc) (s : State) : (State.modDisc d f s).smc = s.smc := rfl
@[simp] theorem State.modDisc_mem (d : DiscId) (f : Disc → Disc) (s : State) : (State.modDisc d f s).mem = s.mem := rfl
@[simp] theorem State.modDisc_rgu (d : DiscId) (f : Disc → Disc) (s : State) : (State.modDisc d f s).rgu = s.rgu := rfl
@[simp] theorem State.modDisc_fdr (d : DiscId) (f : Disc → Disc) (s : State) : (State.modDisc d f s).fdr = s.fdr := rfl
@[simp] theorem State.modDisc_bays (d : DiscId) (f : Disc → Disc) (s : State) : (State.modDisc d f s).bays = s.bays := rfl
@[simp] theorem State.modDisc_tsq (d : DiscId) (f : Disc → Disc) (s : State) : (State.modDisc d f s).tsq = s.tsq := rfl
@[simp] theorem State.modDisc_psc (d : DiscId) (f : Disc → Disc) (s : State) : (State.modDisc d f s).psc = s.psc := rfl

/-! ### freeSlot -/

@[simp] theorem State.freeSlot_pending (d : DiscId) (s : State) : (State.freeSlot d s).pending = s.pending := rfl
@[simp] theorem State.freeSlot_sent (d : DiscId) (s : State) : (State.freeSlot d s).sent = s.sent := rfl
@[simp] theorem State.freeSlot_due (d : DiscId) (s : State) : (State.freeSlot d s).due = s.due := rfl
@[simp] theorem State.freeSlot_ports (d : DiscId) (s : State) : (State.freeSlot d s).ports = s.ports := rfl
@[simp] theorem State.freeSlot_sst (d : DiscId) (s : State) : (State.freeSlot d s).sst = s.sst := rfl
@[simp] theorem State.freeSlot_jsc (d : DiscId) (s : State) : (State.freeSlot d s).jsc = s.jsc := rfl
@[simp] theorem State.freeSlot_cat (d : DiscId) (s : State) : (State.freeSlot d s).cat = s.cat := rfl
@[simp] theorem State.freeSlot_ipt (d : DiscId) (s : State) : (State.freeSlot d s).ipt = s.ipt := rfl
@[simp] theorem State.freeSlot_smc (d : DiscId) (s : State) : (State.freeSlot d s).smc = s.smc := rfl
@[simp] theorem State.freeSlot_mem (d : DiscId) (s : State) : (State.freeSlot d s).mem = s.mem := rfl
@[simp] theorem State.freeSlot_rgu (d : DiscId) (s : State) : (State.freeSlot d s).rgu = s.rgu := rfl
@[simp] theorem State.freeSlot_fdr (d : DiscId) (s : State) : (State.freeSlot d s).fdr = s.fdr := rfl
@[simp] theorem State.freeSlot_bays (d : DiscId) (s : State) : (State.freeSlot d s).bays = s.bays := rfl
@[simp] theorem State.freeSlot_tsq (d : DiscId) (s : State) : (State.freeSlot d s).tsq = s.tsq := rfl
@[simp] theorem State.freeSlot_psc (d : DiscId) (s : State) : (State.freeSlot d s).psc = s.psc := rfl

/-! ### modJob -/

@[simp] theorem State.modJob_pending (j : Nat) (f : Job → Job) (s : State) : (State.modJob j f s).pending = s.pending := rfl
@[simp] theorem State.modJob_sent (j : Nat) (f : Job → Job) (s : State) : (State.modJob j f s).sent = s.sent := rfl
@[simp] theorem State.modJob_due (j : Nat) (f : Job → Job) (s : State) : (State.modJob j f s).due = s.due := rfl
@[simp] theorem State.modJob_ports (j : Nat) (f : Job → Job) (s : State) : (State.modJob j f s).ports = s.ports := rfl
@[simp] theorem State.modJob_sst (j : Nat) (f : Job → Job) (s : State) : (State.modJob j f s).sst = s.sst := rfl
@[simp] theorem State.modJob_discs (j : Nat) (f : Job → Job) (s : State) : (State.modJob j f s).discs = s.discs := rfl
@[simp] theorem State.modJob_cat (j : Nat) (f : Job → Job) (s : State) : (State.modJob j f s).cat = s.cat := rfl
@[simp] theorem State.modJob_ipt (j : Nat) (f : Job → Job) (s : State) : (State.modJob j f s).ipt = s.ipt := rfl
@[simp] theorem State.modJob_smc (j : Nat) (f : Job → Job) (s : State) : (State.modJob j f s).smc = s.smc := rfl
@[simp] theorem State.modJob_mem (j : Nat) (f : Job → Job) (s : State) : (State.modJob j f s).mem = s.mem := rfl
@[simp] theorem State.modJob_rgu (j : Nat) (f : Job → Job) (s : State) : (State.modJob j f s).rgu = s.rgu := rfl
@[simp] theorem State.modJob_fdr (j : Nat) (f : Job → Job) (s : State) : (State.modJob j f s).fdr = s.fdr := rfl
@[simp] theorem State.modJob_bays (j : Nat) (f : Job → Job) (s : State) : (State.modJob j f s).bays = s.bays := rfl
@[simp] theorem State.modJob_tsq (j : Nat) (f : Job → Job) (s : State) : (State.modJob j f s).tsq = s.tsq := rfl
@[simp] theorem State.modJob_psc (j : Nat) (f : Job → Job) (s : State) : (State.modJob j f s).psc = s.psc := rfl

/-! ### modImage -/

@[simp] theorem State.modImage_pending (i : Nat) (f : Image → Image) (s : State) : (State.modImage i f s).pending = s.pending := rfl
@[simp] theorem State.modImage_sent (i : Nat) (f : Image → Image) (s : State) : (State.modImage i f s).sent = s.sent := rfl
@[simp] theorem State.modImage_due (i : Nat) (f : Image → Image) (s : State) : (State.modImage i f s).due = s.due := rfl
@[simp] theorem State.modImage_ports (i : Nat) (f : Image → Image) (s : State) : (State.modImage i f s).ports = s.ports := rfl
@[simp] theorem State.modImage_sst (i : Nat) (f : Image → Image) (s : State) : (State.modImage i f s).sst = s.sst := rfl
@[simp] theorem State.modImage_jsc (i : Nat) (f : Image → Image) (s : State) : (State.modImage i f s).jsc = s.jsc := rfl
@[simp] theorem State.modImage_discs (i : Nat) (f : Image → Image) (s : State) : (State.modImage i f s).discs = s.discs := rfl
@[simp] theorem State.modImage_ipt (i : Nat) (f : Image → Image) (s : State) : (State.modImage i f s).ipt = s.ipt := rfl
@[simp] theorem State.modImage_smc (i : Nat) (f : Image → Image) (s : State) : (State.modImage i f s).smc = s.smc := rfl
@[simp] theorem State.modImage_mem (i : Nat) (f : Image → Image) (s : State) : (State.modImage i f s).mem = s.mem := rfl
@[simp] theorem State.modImage_rgu (i : Nat) (f : Image → Image) (s : State) : (State.modImage i f s).rgu = s.rgu := rfl
@[simp] theorem State.modImage_fdr (i : Nat) (f : Image → Image) (s : State) : (State.modImage i f s).fdr = s.fdr := rfl
@[simp] theorem State.modImage_bays (i : Nat) (f : Image → Image) (s : State) : (State.modImage i f s).bays = s.bays := rfl
@[simp] theorem State.modImage_tsq (i : Nat) (f : Image → Image) (s : State) : (State.modImage i f s).tsq = s.tsq := rfl
@[simp] theorem State.modImage_psc (i : Nat) (f : Image → Image) (s : State) : (State.modImage i f s).psc = s.psc := rfl

/-! ### setBayRes -/

@[simp] theorem State.setBayRes_pending (n : BayId) (r : Option BayRes) (s : State) : (State.setBayRes n r s).pending = s.pending := rfl
@[simp] theorem State.setBayRes_sent (n : BayId) (r : Option BayRes) (s : State) : (State.setBayRes n r s).sent = s.sent := rfl
@[simp] theorem State.setBayRes_due (n : BayId) (r : Option BayRes) (s : State) : (State.setBayRes n r s).due = s.due := rfl
@[simp] theorem State.setBayRes_ports (n : BayId) (r : Option BayRes) (s : State) : (State.setBayRes n r s).ports = s.ports := rfl
@[simp] theorem State.setBayRes_sst (n : BayId) (r : Option BayRes) (s : State) : (State.setBayRes n r s).sst = s.sst := rfl
@[simp] theorem State.setBayRes_discs (n : BayId) (r : Option BayRes) (s : State) : (State.setBayRes n r s).discs = s.discs := rfl
@[simp] theorem State.setBayRes_cat (n : BayId) (r : Option BayRes) (s : State) : (State.setBayRes n r s).cat = s.cat := rfl
@[simp] theorem State.setBayRes_ipt (n : BayId) (r : Option BayRes) (s : State) : (State.setBayRes n r s).ipt = s.ipt := rfl
@[simp] theorem State.setBayRes_smc (n : BayId) (r : Option BayRes) (s : State) : (State.setBayRes n r s).smc = s.smc := rfl
@[simp] theorem State.setBayRes_mem (n : BayId) (r : Option BayRes) (s : State) : (State.setBayRes n r s).mem = s.mem := rfl
@[simp] theorem State.setBayRes_rgu (n : BayId) (r : Option BayRes) (s : State) : (State.setBayRes n r s).rgu = s.rgu := rfl
@[simp] theorem State.setBayRes_fdr (n : BayId) (r : Option BayRes) (s : State) : (State.setBayRes n r s).fdr = s.fdr := rfl
@[simp] theorem State.setBayRes_bays (n : BayId) (r : Option BayRes) (s : State) : (State.setBayRes n r s).bays = s.bays := rfl
@[simp] theorem State.setBayRes_tsq (n : BayId) (r : Option BayRes) (s : State) : (State.setBayRes n r s).tsq = s.tsq := rfl
@[simp] theorem State.setBayRes_psc (n : BayId) (r : Option BayRes) (s : State) : (State.setBayRes n r s).psc = s.psc := rfl

/-! ### setSpareHold -/

@[simp] theorem State.setSpareHold_pending (n : BayId) (t : Timer) (s : State) : (State.setSpareHold n t s).pending = s.pending := rfl
@[simp] theorem State.setSpareHold_sent (n : BayId) (t : Timer) (s : State) : (State.setSpareHold n t s).sent = s.sent := rfl
@[simp] theorem State.setSpareHold_due (n : BayId) (t : Timer) (s : State) : (State.setSpareHold n t s).due = s.due := rfl
@[simp] theorem State.setSpareHold_ports (n : BayId) (t : Timer) (s : State) : (State.setSpareHold n t s).ports = s.ports := rfl
@[simp] theorem State.setSpareHold_sst (n : BayId) (t : Timer) (s : State) : (State.setSpareHold n t s).sst = s.sst := rfl
@[simp] theorem State.setSpareHold_discs (n : BayId) (t : Timer) (s : State) : (State.setSpareHold n t s).discs = s.discs := rfl
@[simp] theorem State.setSpareHold_cat (n : BayId) (t : Timer) (s : State) : (State.setSpareHold n t s).cat = s.cat := rfl
@[simp] theorem State.setSpareHold_ipt (n : BayId) (t : Timer) (s : State) : (State.setSpareHold n t s).ipt = s.ipt := rfl
@[simp] theorem State.setSpareHold_smc (n : BayId) (t : Timer) (s : State) : (State.setSpareHold n t s).smc = s.smc := rfl
@[simp] theorem State.setSpareHold_mem (n : BayId) (t : Timer) (s : State) : (State.setSpareHold n t s).mem = s.mem := rfl
@[simp] theorem State.setSpareHold_rgu (n : BayId) (t : Timer) (s : State) : (State.setSpareHold n t s).rgu = s.rgu := rfl
@[simp] theorem State.setSpareHold_fdr (n : BayId) (t : Timer) (s : State) : (State.setSpareHold n t s).fdr = s.fdr := rfl
@[simp] theorem State.setSpareHold_bays (n : BayId) (t : Timer) (s : State) : (State.setSpareHold n t s).bays = s.bays := rfl
@[simp] theorem State.setSpareHold_tsq (n : BayId) (t : Timer) (s : State) : (State.setSpareHold n t s).tsq = s.tsq := rfl
@[simp] theorem State.setSpareHold_psc (n : BayId) (t : Timer) (s : State) : (State.setSpareHold n t s).psc = s.psc := rfl

/-! ### setGrant -/

@[simp] theorem State.setGrant_pending (n : BayId) (g : Option Grant) (s : State) : (State.setGrant n g s).pending = s.pending := rfl
@[simp] theorem State.setGrant_sent (n : BayId) (g : Option Grant) (s : State) : (State.setGrant n g s).sent = s.sent := rfl
@[simp] theorem State.setGrant_due (n : BayId) (g : Option Grant) (s : State) : (State.setGrant n g s).due = s.due := rfl
@[simp] theorem State.setGrant_ports (n : BayId) (g : Option Grant) (s : State) : (State.setGrant n g s).ports = s.ports := rfl
@[simp] theorem State.setGrant_sst (n : BayId) (g : Option Grant) (s : State) : (State.setGrant n g s).sst = s.sst := rfl
@[simp] theorem State.setGrant_jsc (n : BayId) (g : Option Grant) (s : State) : (State.setGrant n g s).jsc = s.jsc := rfl
@[simp] theorem State.setGrant_discs (n : BayId) (g : Option Grant) (s : State) : (State.setGrant n g s).discs = s.discs := rfl
@[simp] theorem State.setGrant_cat (n : BayId) (g : Option Grant) (s : State) : (State.setGrant n g s).cat = s.cat := rfl
@[simp] theorem State.setGrant_ipt (n : BayId) (g : Option Grant) (s : State) : (State.setGrant n g s).ipt = s.ipt := rfl
@[simp] theorem State.setGrant_smc (n : BayId) (g : Option Grant) (s : State) : (State.setGrant n g s).smc = s.smc := rfl
@[simp] theorem State.setGrant_mem (n : BayId) (g : Option Grant) (s : State) : (State.setGrant n g s).mem = s.mem := rfl
@[simp] theorem State.setGrant_fdr (n : BayId) (g : Option Grant) (s : State) : (State.setGrant n g s).fdr = s.fdr := rfl
@[simp] theorem State.setGrant_bays (n : BayId) (g : Option Grant) (s : State) : (State.setGrant n g s).bays = s.bays := rfl
@[simp] theorem State.setGrant_tsq (n : BayId) (g : Option Grant) (s : State) : (State.setGrant n g s).tsq = s.tsq := rfl
@[simp] theorem State.setGrant_psc (n : BayId) (g : Option Grant) (s : State) : (State.setGrant n g s).psc = s.psc := rfl

/-! ### setStream -/

@[simp] theorem State.setStream_pending (n : BayId) (x : Option Stream) (s : State) : (State.setStream n x s).pending = s.pending := rfl
@[simp] theorem State.setStream_sent (n : BayId) (x : Option Stream) (s : State) : (State.setStream n x s).sent = s.sent := rfl
@[simp] theorem State.setStream_due (n : BayId) (x : Option Stream) (s : State) : (State.setStream n x s).due = s.due := rfl
@[simp] theorem State.setStream_ports (n : BayId) (x : Option Stream) (s : State) : (State.setStream n x s).ports = s.ports := rfl
@[simp] theorem State.setStream_sst (n : BayId) (x : Option Stream) (s : State) : (State.setStream n x s).sst = s.sst := rfl
@[simp] theorem State.setStream_jsc (n : BayId) (x : Option Stream) (s : State) : (State.setStream n x s).jsc = s.jsc := rfl
@[simp] theorem State.setStream_discs (n : BayId) (x : Option Stream) (s : State) : (State.setStream n x s).discs = s.discs := rfl
@[simp] theorem State.setStream_cat (n : BayId) (x : Option Stream) (s : State) : (State.setStream n x s).cat = s.cat := rfl
@[simp] theorem State.setStream_ipt (n : BayId) (x : Option Stream) (s : State) : (State.setStream n x s).ipt = s.ipt := rfl
@[simp] theorem State.setStream_smc (n : BayId) (x : Option Stream) (s : State) : (State.setStream n x s).smc = s.smc := rfl
@[simp] theorem State.setStream_mem (n : BayId) (x : Option Stream) (s : State) : (State.setStream n x s).mem = s.mem := rfl
@[simp] theorem State.setStream_rgu (n : BayId) (x : Option Stream) (s : State) : (State.setStream n x s).rgu = s.rgu := rfl
@[simp] theorem State.setStream_bays (n : BayId) (x : Option Stream) (s : State) : (State.setStream n x s).bays = s.bays := rfl
@[simp] theorem State.setStream_tsq (n : BayId) (x : Option Stream) (s : State) : (State.setStream n x s).tsq = s.tsq := rfl
@[simp] theorem State.setStream_psc (n : BayId) (x : Option Stream) (s : State) : (State.setStream n x s).psc = s.psc := rfl

/-! ### modStream -/

@[simp] theorem State.modStream_pending (n : BayId) (f : Stream → Stream) (s : State) : (State.modStream n f s).pending = s.pending := rfl
@[simp] theorem State.modStream_sent (n : BayId) (f : Stream → Stream) (s : State) : (State.modStream n f s).sent = s.sent := rfl
@[simp] theorem State.modStream_due (n : BayId) (f : Stream → Stream) (s : State) : (State.modStream n f s).due = s.due := rfl
@[simp] theorem State.modStream_ports (n : BayId) (f : Stream → Stream) (s : State) : (State.modStream n f s).ports = s.ports := rfl
@[simp] theorem State.modStream_sst (n : BayId) (f : Stream → Stream) (s : State) : (State.modStream n f s).sst = s.sst := rfl
@[simp] theorem State.modStream_jsc (n : BayId) (f : Stream → Stream) (s : State) : (State.modStream n f s).jsc = s.jsc := rfl
@[simp] theorem State.modStream_discs (n : BayId) (f : Stream → Stream) (s : State) : (State.modStream n f s).discs = s.discs := rfl
@[simp] theorem State.modStream_cat (n : BayId) (f : Stream → Stream) (s : State) : (State.modStream n f s).cat = s.cat := rfl
@[simp] theorem State.modStream_ipt (n : BayId) (f : Stream → Stream) (s : State) : (State.modStream n f s).ipt = s.ipt := rfl
@[simp] theorem State.modStream_smc (n : BayId) (f : Stream → Stream) (s : State) : (State.modStream n f s).smc = s.smc := rfl
@[simp] theorem State.modStream_mem (n : BayId) (f : Stream → Stream) (s : State) : (State.modStream n f s).mem = s.mem := rfl
@[simp] theorem State.modStream_rgu (n : BayId) (f : Stream → Stream) (s : State) : (State.modStream n f s).rgu = s.rgu := rfl
@[simp] theorem State.modStream_bays (n : BayId) (f : Stream → Stream) (s : State) : (State.modStream n f s).bays = s.bays := rfl
@[simp] theorem State.modStream_tsq (n : BayId) (f : Stream → Stream) (s : State) : (State.modStream n f s).tsq = s.tsq := rfl
@[simp] theorem State.modStream_psc (n : BayId) (f : Stream → Stream) (s : State) : (State.modStream n f s).psc = s.psc := rfl

/-! ### modDraining -/

@[simp] theorem State.modDraining_pending (n : BayId) (f : Nat → Nat) (s : State) : (State.modDraining n f s).pending = s.pending := rfl
@[simp] theorem State.modDraining_sent (n : BayId) (f : Nat → Nat) (s : State) : (State.modDraining n f s).sent = s.sent := rfl
@[simp] theorem State.modDraining_due (n : BayId) (f : Nat → Nat) (s : State) : (State.modDraining n f s).due = s.due := rfl
@[simp] theorem State.modDraining_ports (n : BayId) (f : Nat → Nat) (s : State) : (State.modDraining n f s).ports = s.ports := rfl
@[simp] theorem State.modDraining_sst (n : BayId) (f : Nat → Nat) (s : State) : (State.modDraining n f s).sst = s.sst := rfl
@[simp] theorem State.modDraining_jsc (n : BayId) (f : Nat → Nat) (s : State) : (State.modDraining n f s).jsc = s.jsc := rfl
@[simp] theorem State.modDraining_discs (n : BayId) (f : Nat → Nat) (s : State) : (State.modDraining n f s).discs = s.discs := rfl
@[simp] theorem State.modDraining_cat (n : BayId) (f : Nat → Nat) (s : State) : (State.modDraining n f s).cat = s.cat := rfl
@[simp] theorem State.modDraining_ipt (n : BayId) (f : Nat → Nat) (s : State) : (State.modDraining n f s).ipt = s.ipt := rfl
@[simp] theorem State.modDraining_smc (n : BayId) (f : Nat → Nat) (s : State) : (State.modDraining n f s).smc = s.smc := rfl
@[simp] theorem State.modDraining_mem (n : BayId) (f : Nat → Nat) (s : State) : (State.modDraining n f s).mem = s.mem := rfl
@[simp] theorem State.modDraining_rgu (n : BayId) (f : Nat → Nat) (s : State) : (State.modDraining n f s).rgu = s.rgu := rfl
@[simp] theorem State.modDraining_bays (n : BayId) (f : Nat → Nat) (s : State) : (State.modDraining n f s).bays = s.bays := rfl
@[simp] theorem State.modDraining_tsq (n : BayId) (f : Nat → Nat) (s : State) : (State.modDraining n f s).tsq = s.tsq := rfl
@[simp] theorem State.modDraining_psc (n : BayId) (f : Nat → Nat) (s : State) : (State.modDraining n f s).psc = s.psc := rfl

/-! ### modMove -/

@[simp] theorem State.modMove_pending (f : Move → Move) (s : State) : (State.modMove f s).pending = s.pending := rfl
@[simp] theorem State.modMove_sent (f : Move → Move) (s : State) : (State.modMove f s).sent = s.sent := rfl
@[simp] theorem State.modMove_due (f : Move → Move) (s : State) : (State.modMove f s).due = s.due := rfl
@[simp] theorem State.modMove_ports (f : Move → Move) (s : State) : (State.modMove f s).ports = s.ports := rfl
@[simp] theorem State.modMove_sst (f : Move → Move) (s : State) : (State.modMove f s).sst = s.sst := rfl
@[simp] theorem State.modMove_jsc (f : Move → Move) (s : State) : (State.modMove f s).jsc = s.jsc := rfl
@[simp] theorem State.modMove_discs (f : Move → Move) (s : State) : (State.modMove f s).discs = s.discs := rfl
@[simp] theorem State.modMove_cat (f : Move → Move) (s : State) : (State.modMove f s).cat = s.cat := rfl
@[simp] theorem State.modMove_ipt (f : Move → Move) (s : State) : (State.modMove f s).ipt = s.ipt := rfl
@[simp] theorem State.modMove_smc (f : Move → Move) (s : State) : (State.modMove f s).smc = s.smc := rfl
@[simp] theorem State.modMove_mem (f : Move → Move) (s : State) : (State.modMove f s).mem = s.mem := rfl
@[simp] theorem State.modMove_rgu (f : Move → Move) (s : State) : (State.modMove f s).rgu = s.rgu := rfl
@[simp] theorem State.modMove_fdr (f : Move → Move) (s : State) : (State.modMove f s).fdr = s.fdr := rfl
@[simp] theorem State.modMove_bays (f : Move → Move) (s : State) : (State.modMove f s).bays = s.bays := rfl
@[simp] theorem State.modMove_psc (f : Move → Move) (s : State) : (State.modMove f s).psc = s.psc := rfl

/-! ### armTo -/

@[simp] theorem State.armTo_pending (x : ArmState) (s : State) : (State.armTo x s).pending = s.pending := rfl
@[simp] theorem State.armTo_sent (x : ArmState) (s : State) : (State.armTo x s).sent = s.sent := rfl
@[simp] theorem State.armTo_due (x : ArmState) (s : State) : (State.armTo x s).due = s.due := rfl
@[simp] theorem State.armTo_ports (x : ArmState) (s : State) : (State.armTo x s).ports = s.ports := rfl
@[simp] theorem State.armTo_sst (x : ArmState) (s : State) : (State.armTo x s).sst = s.sst := rfl
@[simp] theorem State.armTo_jsc (x : ArmState) (s : State) : (State.armTo x s).jsc = s.jsc := rfl
@[simp] theorem State.armTo_discs (x : ArmState) (s : State) : (State.armTo x s).discs = s.discs := rfl
@[simp] theorem State.armTo_cat (x : ArmState) (s : State) : (State.armTo x s).cat = s.cat := rfl
@[simp] theorem State.armTo_ipt (x : ArmState) (s : State) : (State.armTo x s).ipt = s.ipt := rfl
@[simp] theorem State.armTo_smc (x : ArmState) (s : State) : (State.armTo x s).smc = s.smc := rfl
@[simp] theorem State.armTo_mem (x : ArmState) (s : State) : (State.armTo x s).mem = s.mem := rfl
@[simp] theorem State.armTo_rgu (x : ArmState) (s : State) : (State.armTo x s).rgu = s.rgu := rfl
@[simp] theorem State.armTo_fdr (x : ArmState) (s : State) : (State.armTo x s).fdr = s.fdr := rfl
@[simp] theorem State.armTo_bays (x : ArmState) (s : State) : (State.armTo x s).bays = s.bays := rfl
@[simp] theorem State.armTo_psc (x : ArmState) (s : State) : (State.armTo x s).psc = s.psc := rfl

/-! ### answer -/

@[simp] theorem State.answer_pending (p : PortId) (kind tag : Nat) (a : Answer) (s : State) : (State.answer p kind tag a s).pending = s.pending := rfl
@[simp] theorem State.answer_sent (p : PortId) (kind tag : Nat) (a : Answer) (s : State) : (State.answer p kind tag a s).sent = s.sent := rfl
@[simp] theorem State.answer_due (p : PortId) (kind tag : Nat) (a : Answer) (s : State) : (State.answer p kind tag a s).due = s.due := rfl
@[simp] theorem State.answer_sst (p : PortId) (kind tag : Nat) (a : Answer) (s : State) : (State.answer p kind tag a s).sst = s.sst := rfl
@[simp] theorem State.answer_jsc (p : PortId) (kind tag : Nat) (a : Answer) (s : State) : (State.answer p kind tag a s).jsc = s.jsc := rfl
@[simp] theorem State.answer_discs (p : PortId) (kind tag : Nat) (a : Answer) (s : State) : (State.answer p kind tag a s).discs = s.discs := rfl
@[simp] theorem State.answer_cat (p : PortId) (kind tag : Nat) (a : Answer) (s : State) : (State.answer p kind tag a s).cat = s.cat := rfl
@[simp] theorem State.answer_ipt (p : PortId) (kind tag : Nat) (a : Answer) (s : State) : (State.answer p kind tag a s).ipt = s.ipt := rfl
@[simp] theorem State.answer_smc (p : PortId) (kind tag : Nat) (a : Answer) (s : State) : (State.answer p kind tag a s).smc = s.smc := rfl
@[simp] theorem State.answer_mem (p : PortId) (kind tag : Nat) (a : Answer) (s : State) : (State.answer p kind tag a s).mem = s.mem := rfl
@[simp] theorem State.answer_rgu (p : PortId) (kind tag : Nat) (a : Answer) (s : State) : (State.answer p kind tag a s).rgu = s.rgu := rfl
@[simp] theorem State.answer_fdr (p : PortId) (kind tag : Nat) (a : Answer) (s : State) : (State.answer p kind tag a s).fdr = s.fdr := rfl
@[simp] theorem State.answer_bays (p : PortId) (kind tag : Nat) (a : Answer) (s : State) : (State.answer p kind tag a s).bays = s.bays := rfl
@[simp] theorem State.answer_tsq (p : PortId) (kind tag : Nat) (a : Answer) (s : State) : (State.answer p kind tag a s).tsq = s.tsq := rfl
@[simp] theorem State.answer_psc (p : PortId) (kind tag : Nat) (a : Answer) (s : State) : (State.answer p kind tag a s).psc = s.psc := rfl

/-! ### begin -/

@[simp] theorem State.begin_pending (s : State) : (State.begin s).pending = s.pending := rfl
@[simp] theorem State.begin_ports (s : State) : (State.begin s).ports = s.ports := rfl
@[simp] theorem State.begin_sst (s : State) : (State.begin s).sst = s.sst := rfl
@[simp] theorem State.begin_jsc (s : State) : (State.begin s).jsc = s.jsc := rfl
@[simp] theorem State.begin_discs (s : State) : (State.begin s).discs = s.discs := rfl
@[simp] theorem State.begin_cat (s : State) : (State.begin s).cat = s.cat := rfl
@[simp] theorem State.begin_ipt (s : State) : (State.begin s).ipt = s.ipt := rfl
@[simp] theorem State.begin_smc (s : State) : (State.begin s).smc = s.smc := rfl
@[simp] theorem State.begin_mem (s : State) : (State.begin s).mem = s.mem := rfl
@[simp] theorem State.begin_rgu (s : State) : (State.begin s).rgu = s.rgu := rfl
@[simp] theorem State.begin_fdr (s : State) : (State.begin s).fdr = s.fdr := rfl
@[simp] theorem State.begin_bays (s : State) : (State.begin s).bays = s.bays := rfl
@[simp] theorem State.begin_tsq (s : State) : (State.begin s).tsq = s.tsq := rfl
@[simp] theorem State.begin_psc (s : State) : (State.begin s).psc = s.psc := rfl

/-! ### modSpindle -/

@[simp] theorem State.modSpindle_pending (x : Spindle) (f : SpindleRec → SpindleRec) (s : State) : (State.modSpindle x f s).pending = s.pending := by cases x <;> rfl
@[simp] theorem State.modSpindle_sent (x : Spindle) (f : SpindleRec → SpindleRec) (s : State) : (State.modSpindle x f s).sent = s.sent := by cases x <;> rfl
@[simp] theorem State.modSpindle_due (x : Spindle) (f : SpindleRec → SpindleRec) (s : State) : (State.modSpindle x f s).due = s.due := by cases x <;> rfl
@[simp] theorem State.modSpindle_ports (x : Spindle) (f : SpindleRec → SpindleRec) (s : State) : (State.modSpindle x f s).ports = s.ports := by cases x <;> rfl
@[simp] theorem State.modSpindle_sst (x : Spindle) (f : SpindleRec → SpindleRec) (s : State) : (State.modSpindle x f s).sst = s.sst := by cases x <;> rfl
@[simp] theorem State.modSpindle_jsc (x : Spindle) (f : SpindleRec → SpindleRec) (s : State) : (State.modSpindle x f s).jsc = s.jsc := by cases x <;> rfl
@[simp] theorem State.modSpindle_discs (x : Spindle) (f : SpindleRec → SpindleRec) (s : State) : (State.modSpindle x f s).discs = s.discs := by cases x <;> rfl
@[simp] theorem State.modSpindle_cat (x : Spindle) (f : SpindleRec → SpindleRec) (s : State) : (State.modSpindle x f s).cat = s.cat := by cases x <;> rfl
@[simp] theorem State.modSpindle_ipt (x : Spindle) (f : SpindleRec → SpindleRec) (s : State) : (State.modSpindle x f s).ipt = s.ipt := by cases x <;> rfl
@[simp] theorem State.modSpindle_smc (x : Spindle) (f : SpindleRec → SpindleRec) (s : State) : (State.modSpindle x f s).smc = s.smc := by cases x <;> rfl
@[simp] theorem State.modSpindle_mem (x : Spindle) (f : SpindleRec → SpindleRec) (s : State) : (State.modSpindle x f s).mem = s.mem := by cases x <;> rfl
@[simp] theorem State.modSpindle_rgu (x : Spindle) (f : SpindleRec → SpindleRec) (s : State) : (State.modSpindle x f s).rgu = s.rgu := by cases x <;> rfl
@[simp] theorem State.modSpindle_fdr (x : Spindle) (f : SpindleRec → SpindleRec) (s : State) : (State.modSpindle x f s).fdr = s.fdr := by cases x <;> rfl
@[simp] theorem State.modSpindle_bays (x : Spindle) (f : SpindleRec → SpindleRec) (s : State) : (State.modSpindle x f s).bays = s.bays := by cases x <;> rfl
@[simp] theorem State.modSpindle_psc (x : Spindle) (f : SpindleRec → SpindleRec) (s : State) : (State.modSpindle x f s).psc = s.psc := by cases x <;> rfl

/-! ### motionEnds -/

@[simp] theorem State.motionEnds_pending (s : State) : (State.motionEnds s).pending = s.pending := rfl
@[simp] theorem State.motionEnds_sent (s : State) : (State.motionEnds s).sent = s.sent := rfl
@[simp] theorem State.motionEnds_due (s : State) : (State.motionEnds s).due = s.due := rfl
@[simp] theorem State.motionEnds_ports (s : State) : (State.motionEnds s).ports = s.ports := rfl
@[simp] theorem State.motionEnds_sst (s : State) : (State.motionEnds s).sst = s.sst := rfl
@[simp] theorem State.motionEnds_jsc (s : State) : (State.motionEnds s).jsc = s.jsc := rfl
@[simp] theorem State.motionEnds_discs (s : State) : (State.motionEnds s).discs = s.discs := rfl
@[simp] theorem State.motionEnds_cat (s : State) : (State.motionEnds s).cat = s.cat := rfl
@[simp] theorem State.motionEnds_ipt (s : State) : (State.motionEnds s).ipt = s.ipt := rfl
@[simp] theorem State.motionEnds_smc (s : State) : (State.motionEnds s).smc = s.smc := rfl
@[simp] theorem State.motionEnds_mem (s : State) : (State.motionEnds s).mem = s.mem := rfl
@[simp] theorem State.motionEnds_rgu (s : State) : (State.motionEnds s).rgu = s.rgu := rfl
@[simp] theorem State.motionEnds_fdr (s : State) : (State.motionEnds s).fdr = s.fdr := rfl
@[simp] theorem State.motionEnds_bays (s : State) : (State.motionEnds s).bays = s.bays := rfl
@[simp] theorem State.motionEnds_psc (s : State) : (State.motionEnds s).psc = s.psc := rfl

/-! ### served -/

@[simp] theorem State.served_pending (s : State) : (State.served s).pending = s.pending := rfl
@[simp] theorem State.served_sent (s : State) : (State.served s).sent = s.sent := rfl
@[simp] theorem State.served_due (s : State) : (State.served s).due = s.due := rfl
@[simp] theorem State.served_ports (s : State) : (State.served s).ports = s.ports := rfl
@[simp] theorem State.served_sst (s : State) : (State.served s).sst = s.sst := rfl
@[simp] theorem State.served_jsc (s : State) : (State.served s).jsc = s.jsc := rfl
@[simp] theorem State.served_discs (s : State) : (State.served s).discs = s.discs := rfl
@[simp] theorem State.served_cat (s : State) : (State.served s).cat = s.cat := rfl
@[simp] theorem State.served_ipt (s : State) : (State.served s).ipt = s.ipt := rfl
@[simp] theorem State.served_mem (s : State) : (State.served s).mem = s.mem := rfl
@[simp] theorem State.served_rgu (s : State) : (State.served s).rgu = s.rgu := rfl
@[simp] theorem State.served_fdr (s : State) : (State.served s).fdr = s.fdr := rfl
@[simp] theorem State.served_bays (s : State) : (State.served s).bays = s.bays := rfl
@[simp] theorem State.served_tsq (s : State) : (State.served s).tsq = s.tsq := rfl
@[simp] theorem State.served_psc (s : State) : (State.served s).psc = s.psc := rfl

/-! ### deliver -/

@[simp] theorem State.deliver_pending (e : Event) (s : State) : (State.deliver e s).pending = s.pending := rfl
@[simp] theorem State.deliver_sent (e : Event) (s : State) : (State.deliver e s).sent = s.sent := rfl
@[simp] theorem State.deliver_due (e : Event) (s : State) : (State.deliver e s).due = s.due := rfl
@[simp] theorem State.deliver_sst (e : Event) (s : State) : (State.deliver e s).sst = s.sst := rfl
@[simp] theorem State.deliver_jsc (e : Event) (s : State) : (State.deliver e s).jsc = s.jsc := rfl
@[simp] theorem State.deliver_discs (e : Event) (s : State) : (State.deliver e s).discs = s.discs := rfl
@[simp] theorem State.deliver_cat (e : Event) (s : State) : (State.deliver e s).cat = s.cat := rfl
@[simp] theorem State.deliver_ipt (e : Event) (s : State) : (State.deliver e s).ipt = s.ipt := rfl
@[simp] theorem State.deliver_smc (e : Event) (s : State) : (State.deliver e s).smc = s.smc := rfl
@[simp] theorem State.deliver_mem (e : Event) (s : State) : (State.deliver e s).mem = s.mem := rfl
@[simp] theorem State.deliver_rgu (e : Event) (s : State) : (State.deliver e s).rgu = s.rgu := rfl
@[simp] theorem State.deliver_fdr (e : Event) (s : State) : (State.deliver e s).fdr = s.fdr := rfl
@[simp] theorem State.deliver_bays (e : Event) (s : State) : (State.deliver e s).bays = s.bays := rfl
@[simp] theorem State.deliver_tsq (e : Event) (s : State) : (State.deliver e s).tsq = s.tsq := rfl
@[simp] theorem State.deliver_psc (e : Event) (s : State) : (State.deliver e s).psc = s.psc := rfl

/-! ### The places of the tables -/

@[simp] theorem State.begin_bay (n : BayId) (s : State) : s.begin.bay n = s.bay n := rfl
@[simp] theorem State.begin_port (p : PortId) (s : State) : s.begin.port p = s.port p := rfl
@[simp] theorem State.begin_disc (d : DiscId) (s : State) : s.begin.disc d = s.disc d := rfl
@[simp] theorem State.begin_sent (s : State) : s.begin.sent = [] := rfl
@[simp] theorem State.begin_due (s : State) : s.begin.due = {} := rfl

@[simp] theorem State.bay_modBay_self (n : BayId) (f : Bay → Bay) (s : State) : (s.modBay n f).bay n = f (s.bay n) := by
  simp [State.bay, State.modBay]
theorem State.bay_modBay_ne {m n : BayId} (h : m ≠ n) (f : Bay → Bay) (s : State) :
    (s.modBay n f).bay m = s.bay m := by
  have : n.val ≠ m.val := fun e => h (Fin.ext e.symm)
  simp [State.bay, State.modBay, this]
@[simp] theorem State.port_modPort_self (p : PortId) (f : Port → Port) (s : State) :
    (s.modPort p f).port p = f (s.port p) := by simp [State.port, State.modPort]
theorem State.port_modPort_ne {p q : PortId} (h : p ≠ q) (f : Port → Port) (s : State) :
    (s.modPort q f).port p = s.port p := by
  have : q.val ≠ p.val := fun e => h (Fin.ext e.symm)
  simp [State.port, State.modPort, this]
@[simp] theorem State.disc_modDisc_self (d : DiscId) (f : Disc → Disc) (s : State) :
    (s.modDisc d f).disc d = (s.disc d).map f := by simp [State.disc, State.modDisc]
theorem State.disc_modDisc_ne {c d : DiscId} (h : c ≠ d) (f : Disc → Disc) (s : State) :
    (s.modDisc d f).disc c = s.disc c := by
  have : d.val ≠ c.val := fun e => h (Fin.ext e.symm)
  simp [State.disc, State.modDisc, this]
@[simp] theorem State.grant_setGrant_self (n : BayId) (g : Option Grant) (s : State) : (s.setGrant n g).grant n = g := by
  simp [State.grant, State.setGrant]
theorem State.grant_setGrant_ne {m n : BayId} (h : m ≠ n) (g : Option Grant) (s : State) :
    (s.setGrant n g).grant m = s.grant m := by
  have : n.val ≠ m.val := fun e => h (Fin.ext e.symm)
  simp [State.grant, State.setGrant, this]
@[simp] theorem State.stream_setStream_self (n : BayId) (x : Option Stream) (s : State) :
    (s.setStream n x).stream n = x := by simp [State.stream, State.setStream]
theorem State.stream_setStream_ne {m n : BayId} (h : m ≠ n) (x : Option Stream) (s : State) :
    (s.setStream n x).stream m = s.stream m := by
  have : n.val ≠ m.val := fun e => h (Fin.ext e.symm)
  simp [State.stream, State.setStream, this]

/-- Two changes of one port are one. -/
@[simp] theorem State.modPort_modPort (p : PortId) (f g : Port → Port) (s : State) :
    (s.modPort p f).modPort p g = s.modPort p (fun x => g (f x)) := by simp [State.modPort]
/-- Two changes of one bay are one. -/
@[simp] theorem State.modBay_modBay (n : BayId) (f g : Bay → Bay) (s : State) :
    (s.modBay n f).modBay n g = s.modBay n (fun x => g (f x)) := by simp [State.modBay]

/-! ### The end of a step -/

/-- A step that makes nothing due ends as it is. -/
theorem State.settle_of_due_none {s : State} (h : s.due = {}) : s.settle = s := by
  obtain ⟨_, _, due, _⟩ := s
  subst h
  rfl

end Sys2Proof.Machine
end

