-- ==== Sys2Proof/Laws/Links.lean ====
section
/-! SUPPORT. What a request of the table does, by whether its port holds it, is free or is neither (R193;
notes/assumptions/1.md). -/

namespace Sys2Proof.Machine

/-- The port holds the request: its owner runs. -/
theorem request_of_holds {p : PortId} {kind tag : Nat} {params : List Byte} {owner : State → State} {s : State}
    (h : (s.port p).holdsRequest (requestFrame kind tag params) = true) :
    request p kind tag params owner s = (owner s.begin).settle := by
  simp [request, h]

/-- The port holds a request that its owner answers within the step. -/
theorem requestNow_of_holds {p : PortId} {kind tag : Nat} {params : List Byte} {owner : State → State × Answer}
    {s : State} (h : (s.port p).holdsRequest (requestFrame kind tag params) = true) :
    requestNow p kind tag params owner s =
      ((owner s.begin).1.answer p kind tag (owner s.begin).2).settle := by
  rw [requestNow, request_of_holds h]

/-- The port holds a request that reads: only the port changes. -/
theorem requestRead_of_holds {p : PortId} {kind tag : Nat} {params : List Byte} {owner : State → Answer} {s : State}
    (h : (s.port p).holdsRequest (requestFrame kind tag params) = true) :
    requestRead p kind tag params owner s = s.begin.answer p kind tag (owner s.begin) := by
  rw [requestRead, requestNow_of_holds h]
  exact State.settle_of_due_none rfl

end Sys2Proof.Machine
end

