-- ==== Sys2Proof/Laws/Memory.lean ====
section
/-! SUPPORT. Every operation on staging memory keeps its canonical form: addresses strictly rising, no byte equal to an
unlisted one. -/

namespace Sys2Proof.Machine

theorem Memory.wfFrom_cons {lo a : Nat} {b : Byte} {m : Memory} :
    Memory.wfFrom lo ((a, b) :: m) = true ↔ lo ≤ a ∧ b ≠ unlistedByte ∧ Memory.wfFrom (a + 1) m = true := by
  simp [Memory.wfFrom, and_assoc]

/-- A memory whose addresses begin at `hi` also begins at any lower one. -/
theorem Memory.wfFrom_mono {lo hi : Nat} {m : Memory} (h : Memory.wfFrom hi m = true) (le : lo ≤ hi) :
    Memory.wfFrom lo m = true := by
  cases m with
  | nil => rfl
  | cons c m => rw [Memory.wfFrom_cons] at h ⊢; exact ⟨le.trans h.1, h.2⟩

theorem Memory.wfFrom_le {lo : Nat} {m : Memory} (h : Memory.wfFrom lo m = true) : ∀ c ∈ m, lo ≤ c.1 := by
  induction m generalizing lo with
  | nil => simp
  | cons c m ih =>
    rw [Memory.wfFrom_cons] at h
    intro d hd
    rcases List.mem_cons.1 hd with rfl | hd
    · exact h.1
    · exact (h.1.trans (Nat.le_succ _)).trans (ih h.2.2 d hd)

/-- Leaving cells out keeps the form. -/
theorem Memory.wfFrom_filter {lo : Nat} {m : Memory} (p : Host.Cell → Bool) (h : Memory.wfFrom lo m = true) :
    Memory.wfFrom lo (m.filter p) = true := by
  induction m generalizing lo with
  | nil => rfl
  | cons c m ih =>
    rw [Memory.wfFrom_cons] at h
    rw [List.filter_cons]
    split
    · exact Memory.wfFrom_cons.2 ⟨h.1, h.2.1, ih h.2.2⟩
    · exact Memory.wfFrom_mono (ih h.2.2) (h.1.trans (Nat.le_succ _))

/-- The cells from an address on begin there. -/
theorem Memory.wfFrom_filter_ge {lo hi : Nat} {m : Memory} (h : Memory.wfFrom lo m = true) :
    Memory.wfFrom hi (m.filter (fun c => decide (hi ≤ c.1))) = true := by
  induction m generalizing lo with
  | nil => rfl
  | cons c m ih =>
    rw [Memory.wfFrom_cons] at h
    rw [List.filter_cons]
    split
    · rename_i le
      exact Memory.wfFrom_cons.2 ⟨of_decide_eq_true le, h.2.1, Memory.wfFrom_filter _ h.2.2⟩
    · exact ih h.2.2

/-- Two memories one after the other. -/
theorem Memory.wfFrom_append {lo mid : Nat} {m k : Memory} (h : Memory.wfFrom lo m = true) (le : lo ≤ mid)
    (below : ∀ c ∈ m, c.1 < mid) (h' : Memory.wfFrom mid k = true) : Memory.wfFrom lo (m ++ k) = true := by
  induction m generalizing lo with
  | nil => exact Memory.wfFrom_mono h' le
  | cons c m ih =>
    rw [Memory.wfFrom_cons] at h
    exact Memory.wfFrom_cons.2
      ⟨h.1, h.2.1, ih h.2.2 (below c List.mem_cons_self) (fun d hd => below d (List.mem_cons_of_mem _ hd))⟩

/-- The cells of a number lie in order within its bytes. -/
theorem cellsOf_wfFrom (k a n : Nat) :
    Memory.wfFrom a (cellsOf k a n) = true ∧ ∀ c ∈ cellsOf k a n, c.1 < a + k := by
  induction k generalizing a n with
  | zero => simp [cellsOf, Memory.wfFrom]
  | succ k ih =>
    obtain ⟨wf, below⟩ := ih (a + 1) (n / 256)
    have below' : ∀ c ∈ cellsOf k (a + 1) (n / 256), c.1 < a + (k + 1) := fun c hc => by
      have := below c hc; omega
    simp only [cellsOf]
    split
    · simp [Memory.wfFrom]
    · split
      · exact ⟨Memory.wfFrom_mono wf (Nat.le_succ a), below'⟩
      · rename_i nz
        refine ⟨Memory.wfFrom_cons.2 ⟨le_rfl, nz, wf⟩, fun c hc => ?_⟩
        rcases List.mem_cons.1 hc with rfl | hc
        · show a < a + (k + 1); omega
        · exact below' c hc

/-- Writing a block keeps the canonical form. -/
theorem Memory.writeBlock_wf {m : Memory} (h : m.wf = true) (a : Nat) (d : BlockData) :
    (m.writeBlock a d).wf = true := by
  obtain ⟨wf, below⟩ := cellsOf_wfFrom Config.blockBytes a d.toNat
  have h1 : Memory.wfFrom 0 (m.filter (fun c => decide (c.1 < a)) ++ cellsOf Config.blockBytes a d.toNat) = true :=
    Memory.wfFrom_append (Memory.wfFrom_filter _ h) (Nat.zero_le a) (fun c hc => by
      simpa using (List.mem_filter.1 hc).2) wf
  refine Memory.wfFrom_append h1 (Nat.zero_le (a + Config.blockBytes)) (fun c hc => ?_) (Memory.wfFrom_filter_ge h)
  rcases List.mem_append.1 hc with hc | hc
  · have : c.1 < a := by simpa using (List.mem_filter.1 hc).2
    omega
  · exact below c hc

/-- Storing a block keeps staging memory in its canonical form. -/
theorem State.storeBlock_memorySafe {s t : State} {w : BlockWrite} (h : s.memorySafe) (e : s.storeBlock w = some t) :
    t.memorySafe := by
  obtain ⟨a, -, rfl⟩ := Option.map_eq_some_iff.1 e
  exact Memory.writeBlock_wf h a w.data

/-- The memory after reset is in its canonical form. -/
theorem State.reset_mem_wf : State.reset.mem.wf = true := rfl

end Sys2Proof.Machine
end

