-- ==== Sys2Proof/Laws/Ops.lean ====
section
/-! SUPPORT. What the shared operations can do, each said once: the repetition of an operation, the end of a step, a
request, the stored block, the grant test, and the motions of the arm. -/

namespace Sys2Proof.Machine

/-! ### Repetition, and the end of a step -/

/-- What an operation keeps for each member of a list, its repetition keeps. -/
theorem forEach_keeps {α : Type} {P : State → Prop} {f : α → State → State} :
    ∀ {xs : List α} {s : State}, (∀ x ∈ xs, ∀ s, P s → P (f x s)) → P s → P (forEach xs f s)
  | [], _, _, h => h
  | x :: xs, s, hf, h =>
    forEach_keeps (xs := xs) (s := f x s) (fun y hy => hf y (List.mem_cons_of_mem _ hy))
      (hf x List.mem_cons_self s h)

/-- What a pass, a selection with what the arm waits for, and the sweep's waiting answer keep, the end of a step keeps. -/
theorem State.settle_keeps {P : State → Prop} (due : ∀ (s : State) (d : Due), P s → P { s with due := d })
    (sweep : ∀ s : State, P s → P s.sweepPoke) (pass : ∀ s : State, P s → P s.pass)
    (nudge : ∀ s : State, P s → P s.nudgeArm) (select : ∀ s : State, P s → P s.select) {s : State} (h : P s) :
    P s.settle := by
  have hw : ∀ s : State, P s → P s.sweepIfDue := fun s h => by
    unfold State.sweepIfDue; split
    · exact sweep s h
    · exact h
  have hp : ∀ s : State, P s → P s.passIfDue := fun s h => by
    unfold State.passIfDue; split
    · exact pass _ (due s _ h)
    · exact h
  have hs : ∀ s : State, P s → P s.selectIfDue := fun s h => by
    unfold State.selectIfDue; split
    · exact select _ (nudge _ (due s _ h))
    · exact h
  exact due _ {} (hs _ (hp _ (hs _ (hp _ (hw _ h)))))

/-! ### Requests -/

/-- Everything a request can do: its owner runs, in the state in which the port holds it; or a frame sent to a free port
fails its check; or the port is neither, and nothing is sent. -/
theorem request_cases (p : PortId) (kind tag : Nat) (params : List Byte) (owner : State → State) (s : State) :
    (∃ t : State, (t.port p).holdsRequest (requestFrame kind tag params) = true ∧
      (t = s.begin ∨ t = s.begin.sendFrame p (requestFrame kind tag params)) ∧
      request p kind tag params owner s = (owner t).settle) ∨
    ((s.port p).free = true ∧
      request p kind tag params owner s = s.begin.sendFrame p (requestFrame kind tag params)) ∨
    ((s.port p).free = false ∧ request p kind tag params owner s = s.begin) := by
  unfold request
  by_cases h : (s.port p).holdsRequest (requestFrame kind tag params) = true
  · exact .inl ⟨s.begin, h, .inl rfl, by simp [h]⟩
  · by_cases f : (s.port p).free = true
    · by_cases g :
        ((s.begin.sendFrame p (requestFrame kind tag params)).port p).holdsRequest (requestFrame kind tag params) = true
      · exact .inl ⟨_, g, .inr rfl, by simp [h, f, g]⟩
      · exact .inr (.inl ⟨f, by simp [h, f, g]⟩)
    · exact .inr (.inr ⟨by simpa using f, by simp [h, f]⟩)

/-! ### Staging memory -/

/-- Everything storing a block can do: the bytes of the block at the place of R50 change, and nothing else does. -/
theorem State.storeBlock_some {s t : State} {w : BlockWrite} (h : s.storeBlock w = some t) :
    ∃ a, s.addressOf w.image w.index = some a ∧ t = { s with mem := s.mem.writeBlock a w.data } := by
  obtain ⟨a, ha, rfl⟩ := Option.map_eq_some_iff.1 h
  exact ⟨a, ha, rfl⟩

/-! ### Grants -/

/-- The step the grant test gives is listed, at most the requested one, at least the minimum, and its rate is free
(R77). -/
theorem grantStep_some {w : WaitEntry} {free m : Nat} (h : grantStep w free = some m) :
    m ∈ listedSteps w.kind w.cls ∧ m ≤ w.requested ∧ (∀ lo, w.minimum = some lo → lo ≤ m) ∧
      stepRate w.cls m ≤ free := by
  have := List.mem_filter.1 (List.mem_of_getLast? h)
  refine ⟨this.1, ?_⟩
  have h2 := this.2
  simp only [Bool.and_eq_true, decide_eq_true_eq] at h2
  refine ⟨h2.1.1, fun lo hlo => ?_, h2.2⟩
  have := h2.1.2
  rw [hlo] at this
  simpa using this

/-! ### The arm -/

/-- A motion sent is outstanding under the arm motion timer. -/
theorem State.sendMotion_motion (m : Motion) (s : State) :
    (s.sendMotion m).tsq.arm.motion = some m ∧ (s.sendMotion m).tsq.arm.timer = some 6000 ∧
      (s.sendMotion m).tsq.arm.lastCmd = some m.cmd := by
  unfold State.sendMotion
  split <;> exact ⟨rfl, rfl, rfl⟩

/-- Sending a motion leaves the arm's state and position, the door and the queue. -/
theorem State.sendMotion_frame (m : Motion) (s : State) :
    (s.sendMotion m).tsq.arm.state = s.tsq.arm.state ∧ (s.sendMotion m).tsq.arm.position = s.tsq.arm.position ∧
      (s.sendMotion m).tsq.door = s.tsq.door ∧ (s.sendMotion m).tsq.queue = s.tsq.queue ∧
      (s.sendMotion m).tsq.phase = s.tsq.phase ∧ (s.sendMotion m).mem = s.mem ∧ (s.sendMotion m).sst = s.sst ∧
      (s.sendMotion m).rgu = s.rgu ∧ (s.sendMotion m).discs = s.discs ∧ (s.sendMotion m).cat = s.cat := by
  unfold State.sendMotion
  split <;> exact ⟨rfl, rfl, rfl, rfl, rfl, rfl, rfl, rfl, rfl, rfl⟩

/-- An arm fault leaves no motion outstanding (R169). -/
theorem State.armFault_arm (f : ArmFault) (s : State) :
    (s.armFault f).tsq.arm = { s.tsq.arm with motion := none, timer := none, state := .fault, fault := some f } ∧
      (s.armFault f).tsq.door = s.tsq.door ∧ (s.armFault f).mem = s.mem := by
  simp [State.armFault, State.motionEnds]

/-- A bay takes the placement of a copy or master exactly when it can take one and is reserved for it (R151, R158). -/
theorem State.placeableFor_iff (s : State) (n : BayId) (e : Entry) :
    s.placeableFor n e = true ↔ s.placeable n = true ∧ ∃ r, s.bayRes n = some r ∧ s.entryRes e = some r := by
  unfold State.placeableFor
  cases s.bayRes n with
  | none => simp
  | some r => simp [@eq_comm _ (some r) (s.entryRes e)]

/-- Everything trying again can do for an arm that waits with its disc: nothing; travel, with a place in REJ to be found; or
the placement asked for again, of a bay that is reserved for what the arm carries (R158, R159). -/
theorem State.nudgeArm_cases (s : State) :
    s.nudgeArm = s ∨ (s.tsq.arm.waitsForRej = true ∧ s.nudgeArm = s.travel) ∨
      ∃ m n, s.tsq.arm.move = some m ∧ m.entry.dest = .bay n ∧ s.tsq.arm.state = .toDest ∧ m.refused = true ∧
        s.placeable n = true ∧ (∃ r, s.bayRes n = some r ∧ s.entryRes m.entry = some r) ∧
        s.nudgeArm = (s.modMove (fun v => { v with refused := false })).openToPlace n := by
  unfold State.nudgeArm
  split
  · next m hm =>
    split
    · next h => exact .inr (.inl ⟨h, rfl⟩)
    · split
      · next n hn =>
        split
        · next h =>
          obtain ⟨h1, h2, h3⟩ := h
          obtain ⟨h4, h5⟩ := (s.placeableFor_iff n m.entry).1 h3
          exact .inr (.inr ⟨m, n, hm, hn, h1, h2, h4, h5, rfl⟩)
        · exact .inl rfl
      · exact .inl rfl
  · exact .inl rfl

end Sys2Proof.Machine
end

