-- ==== Sys2Proof/Laws/PerInstr.lean ====
section
/-! SUPPORT. The family F of statements about each command as syntax: a request's frame is one that the frame check
takes (R193, 11.1). -/

namespace Sys2Proof.Laws

open Sys2Proof.Machine

/-- The text of a SUBMIT-JOB has at most the twelve characters its frame has room for (11.1); every other command
passes. -/
def textFits : Instr → Bool
  | .submitJob _ _ params => decide (params.text.length ≤ 12)
  | _ => true

/-- The request of a command is a frame of a kind that exists, with a parameter count that 11.1 gives, within the
assembler's length. -/
def frameFits (c : Instr) : Bool :=
  match requestOf c with
  | some (_, kind, _, params) =>
    decide (1 ≤ kind) && decide (kind ≤ 29) && paramCountOk kind params && decide (3 + params.length ≤ Config.frameBytes)
  | none => true

/-- What F says of a command. -/
def F.Statement (c : Instr) : Prop := c.wf = true → textFits c = true → frameFits c = true

theorem F.powerOnReset : ∀ written, F.Statement (Instr.powerOnReset written) := fun _ _ _ => rfl
theorem F.lineReset : ∀ written, F.Statement (Instr.lineReset written) := fun _ _ _ => rfl
theorem F.doorLineOpen : F.Statement Instr.doorLineOpen := fun _ _ => rfl
theorem F.doorLineClosed : F.Statement Instr.doorLineClosed := fun _ _ => rfl
theorem F.put : ∀ port byte, F.Statement (Instr.put port byte) := fun _ _ _ _ => rfl
theorem F.take : ∀ port, F.Statement (Instr.take port) := fun _ _ _ => rfl
theorem F.byteGapTimerExpiry : ∀ port, F.Statement (Instr.byteGapTimerExpiry port) := fun _ _ _ => rfl
theorem F.openImage : ∀ port tag kind length flags, F.Statement (Instr.openImage port tag kind length flags) := fun _ _ _ _ _ _ _ => rfl
theorem F.sealImage : ∀ port tag image, F.Statement (Instr.sealImage port tag image) := fun _ _ _ _ _ => rfl
theorem F.abandonImage : ∀ port tag image, F.Statement (Instr.abandonImage port tag image) := fun _ _ _ _ _ => rfl
theorem F.deleteImage : ∀ port tag image, F.Statement (Instr.deleteImage port tag image) := fun _ _ _ _ _ => rfl
theorem F.imageFromDisc : ∀ port tag length spindle flags, F.Statement (Instr.imageFromDisc port tag length spindle flags) := fun _ _ _ _ _ _ _ => rfl
theorem F.queryImage : ∀ port tag image, F.Statement (Instr.queryImage port tag image) := fun _ _ _ _ _ => rfl
theorem F.submitJob : ∀ port tag params, F.Statement (Instr.submitJob port tag params) := by
  intro port tag params hw ht
  simp only [textFits, decide_eq_true_eq] at ht
  simp [frameFits, requestOf, submitBytes_ok (p := params) (by omega), submitBytes_length, Config.frameBytes, ht]
  omega
theorem F.holdJob : ∀ port tag job, F.Statement (Instr.holdJob port tag job) := fun _ _ _ _ _ => rfl
theorem F.releaseJob : ∀ port tag job, F.Statement (Instr.releaseJob port tag job) := fun _ _ _ _ _ => rfl
theorem F.cancelJob : ∀ port tag job kind, F.Statement (Instr.cancelJob port tag job kind) := fun _ _ _ _ _ _ => rfl
theorem F.retireJob : ∀ port tag job, F.Statement (Instr.retireJob port tag job) := fun _ _ _ _ _ => rfl
theorem F.queryJob : ∀ port tag job, F.Statement (Instr.queryJob port tag job) := fun _ _ _ _ _ => rfl
theorem F.readRejects : ∀ port tag job first, F.Statement (Instr.readRejects port tag job first) := fun _ _ _ _ _ _ => rfl
theorem F.queryBay : ∀ port tag bay, F.Statement (Instr.queryBay port tag bay) := fun _ _ _ _ _ => rfl
theorem F.bayOffline : ∀ port tag bay, F.Statement (Instr.bayOffline port tag bay) := fun _ _ _ _ _ => rfl
theorem F.bayOnline : ∀ port tag bay, F.Statement (Instr.bayOnline port tag bay) := fun _ _ _ _ _ => rfl
theorem F.setSpindle : ∀ port tag spindle mediaClass count, F.Statement (Instr.setSpindle port tag spindle mediaClass count) := fun _ _ _ _ _ _ _ => rfl
theorem F.spindleEmptied : ∀ port tag place, F.Statement (Instr.spindleEmptied port tag place) := fun _ _ _ _ _ => rfl
theorem F.armResume : ∀ port tag, F.Statement (Instr.armResume port tag) := fun _ _ _ _ => rfl
theorem F.clearTower : ∀ port tag, F.Statement (Instr.clearTower port tag) := fun _ _ _ _ => rfl
theorem F.queryTower : ∀ port tag, F.Statement (Instr.queryTower port tag) := fun _ _ _ _ => rfl
theorem F.printerServiced : ∀ port tag, F.Statement (Instr.printerServiced port tag) := fun _ _ _ _ => rfl
theorem F.bookNotice : ∀ port tag event scope bookingTag action, F.Statement (Instr.bookNotice port tag event scope bookingTag action) := fun _ _ _ _ _ _ _ _ => rfl
theorem F.dropBooking : ∀ port tag slot, F.Statement (Instr.dropBooking port tag slot) := fun _ _ _ _ _ => rfl
theorem F.fetchNotice : ∀ port tag, F.Statement (Instr.fetchNotice port tag) := fun _ _ _ _ => rfl
theorem F.setAttention : ∀ port tag setting, F.Statement (Instr.setAttention port tag setting) := fun _ _ _ _ _ => rfl
theorem F.readSettings : ∀ port tag, F.Statement (Instr.readSettings port tag) := fun _ _ _ _ => rfl
theorem F.writeSettings : ∀ port tag item value, F.Statement (Instr.writeSettings port tag item value) := fun _ _ _ _ _ _ => rfl
theorem F.saveSettings : ∀ port tag, F.Statement (Instr.saveSettings port tag) := fun _ _ _ _ => rfl
theorem F.saveReadbackDone : ∀ passes, F.Statement (Instr.saveReadbackDone passes) := fun _ _ _ => rfl
theorem F.saveTimerExpiry : F.Statement Instr.saveTimerExpiry := fun _ _ => rfl
theorem F.blockFrame : ∀ words image index data, F.Statement (Instr.blockFrame words image index data) := fun _ _ _ _ _ _ => rfl
theorem F.intakeWriteDone : F.Statement Instr.intakeWriteDone := fun _ _ => rfl
theorem F.masterWriteDone : F.Statement Instr.masterWriteDone := fun _ _ => rfl
theorem F.feedPeriodTimerExpiry : F.Statement Instr.feedPeriodTimerExpiry := fun _ _ => rfl
theorem F.feedReadDone : ∀ damage, F.Statement (Instr.feedReadDone damage) := fun _ _ _ => rfl
theorem F.rereadDone : ∀ damage, F.Statement (Instr.rereadDone damage) := fun _ _ _ => rfl
theorem F.artworkReadDone : ∀ damage, F.Statement (Instr.artworkReadDone damage) := fun _ _ _ => rfl
theorem F.trayDone : ∀ bay, F.Statement (Instr.trayDone bay) := fun _ _ _ => rfl
theorem F.probeReport : ∀ bay report, F.Statement (Instr.probeReport bay report) := fun _ _ _ _ => rfl
theorem F.speedReport : ∀ bay step, F.Statement (Instr.speedReport bay step) := fun _ _ _ _ => rfl
theorem F.want : ∀ bay n, F.Statement (Instr.want bay n) := fun _ _ _ _ => rfl
theorem F.paused : ∀ bay, F.Statement (Instr.paused bay) := fun _ _ _ => rfl
theorem F.resumed : ∀ bay, F.Statement (Instr.resumed bay) := fun _ _ _ => rfl
theorem F.burnDone : ∀ bay, F.Statement (Instr.burnDone bay) := fun _ _ _ => rfl
theorem F.burnError : ∀ bay code, F.Statement (Instr.burnError bay code) := fun _ _ _ _ => rfl
theorem F.readBlock : ∀ bay index status data, F.Statement (Instr.readBlock bay index status data) := fun _ _ _ _ _ _ => rfl
theorem F.readEnd : ∀ bay, F.Statement (Instr.readEnd bay) := fun _ _ _ => rfl
theorem F.fault : ∀ bay code, F.Statement (Instr.fault bay code) := fun _ _ _ _ => rfl
theorem F.trayMotionTimerExpiry : ∀ bay, F.Statement (Instr.trayMotionTimerExpiry bay) := fun _ _ _ => rfl
theorem F.probeTimerExpiry : ∀ bay, F.Statement (Instr.probeTimerExpiry bay) := fun _ _ _ => rfl
theorem F.speedReportTimerExpiry : ∀ bay, F.Statement (Instr.speedReportTimerExpiry bay) := fun _ _ _ => rfl
theorem F.burnCloseTimerExpiry : ∀ bay, F.Statement (Instr.burnCloseTimerExpiry bay) := fun _ _ _ => rfl
theorem F.starveTimerExpiry : ∀ bay, F.Statement (Instr.starveTimerExpiry bay) := fun _ _ _ => rfl
theorem F.readInactivityTimerExpiry : ∀ bay, F.Statement (Instr.readInactivityTimerExpiry bay) := fun _ _ _ => rfl
theorem F.spareHoldTimerExpiry : ∀ bay, F.Statement (Instr.spareHoldTimerExpiry bay) := fun _ _ _ => rfl
theorem F.arrived : F.Statement Instr.arrived := fun _ _ => rfl
theorem F.gripped : F.Statement Instr.gripped := fun _ _ => rfl
theorem F.gripEmpty : F.Statement Instr.gripEmpty := fun _ _ => rfl
theorem F.gripDouble : F.Statement Instr.gripDouble := fun _ _ => rfl
theorem F.released : F.Statement Instr.released := fun _ _ => rfl
theorem F.homed : ∀ holding, F.Statement (Instr.homed holding) := fun _ _ _ => rfl
theorem F.motionFault : F.Statement Instr.motionFault := fun _ _ => rfl
theorem F.armMotionTimerExpiry : F.Statement Instr.armMotionTimerExpiry := fun _ _ => rfl
theorem F.artworkOk : F.Statement Instr.artworkOk := fun _ _ => rfl
theorem F.printDone : ∀ ink, F.Statement (Instr.printDone ink) := fun _ _ _ => rfl
theorem F.inkOut : F.Statement Instr.inkOut := fun _ _ => rfl
theorem F.jam : F.Statement Instr.jam := fun _ _ => rfl
theorem F.trayReport : ∀ present, F.Statement (Instr.trayReport present) := fun _ _ _ => rfl
theorem F.printTimerExpiry : F.Statement Instr.printTimerExpiry := fun _ _ => rfl

end Sys2Proof.Laws
end

