-- ==== Sys2Proof/Tests/Slice0.lean ====
section
/-! SUPPORT. The tests of the model: what the checks of well-formedness refuse, the spec's worked examples, one or two steps
of each kind of command, and for every statement with hypotheses the states and operands that meet them together. -/

namespace Sys2Proof.Tests

open Sys2Proof Sys2Proof.Machine

set_option Elab.async false

/-! ### The states of the tests -/

/-- Port 0 holds a request that has passed the frame check. -/
def asking (kind tag : Nat) (params : List Byte) : State :=
  { State.reset with ports := State.reset.ports.set 0 { phase := .atOwner, frame := requestFrame kind tag params } }

/-- A change of the state that keeps the port's request. -/
def askingWith (kind tag : Nat) (params : List Byte) (f : State → State) : State := f (asking kind tag params)

/-- A READY disc image of 1,000 blocks, number 1, of port 0. -/
def readyImage : Image :=
  { number := 1, kind := .disc, state := .ready, owner := 0, isProtected := false, shared := false, length := 1000
    accepted := 1000, ingested := 1000, isSealed := true, source := .intake, refs := 1, extents := [0] }

/-- A FILLING intake image of 4 blocks, number 1, of port 0. -/
def fillingImage (accepted ingested : Nat) : Image :=
  { number := 1, kind := .disc, owner := 0, isProtected := false, shared := false, length := 4, accepted := accepted
    ingested := ingested, source := .intake, extents := [0] }

/-- A FILLING master image of 4 blocks, number 1. -/
def masterImage (readDone : Bool) : Image :=
  { number := 1, kind := .disc, owner := 0, isProtected := false, shared := false, length := 4
    source := .master (some 2), extents := [0], readDone := readDone }

/-- A READY label image of 8 blocks, number 2, of port 0. -/
def labelImage : Image :=
  { number := 2, kind := .label, state := .ready, owner := 0, isProtected := false, shared := false, length := 8
    accepted := 8, ingested := 8, isSealed := true, source := .intake, refs := 1, extents := [1] }

/-- Put images in the catalogue. -/
def withImages (xs : List Image) (s : State) : State := { s with cat.images := xs }

/-- A job on image 1: number 1 of port 0, class L, verify mode as given. -/
def job (order : OrderMode) (verify : VerifyMode) : Job :=
  { number := 1, owner := 0, seq := 0, discImage := if order = .printOnly then none else some 1
    labelImage := if order = .burnOnly then none else some 2, cls := .L, pref := .inA, order := order, verify := verify
    marginalLimit := 255, rejectBudget := 255, copies := 1, priority := 0, writeLimit := none, minWrite := none
    readLimit := none, earlyStart := false
    serial := if order = .burnOnly then none else some { text := [65], nextLot := 7, nextUnit := 3, unitMax := 9 }
    attempts := 1, state := .active }

/-- The parameters of a SUBMIT-JOB whose text is one character too long. -/
def longSubmit : SubmitParams :=
  { discImage := 1, labelImage := 65535, mediaClass := 1, spindle := 1, order := 3, verify := 1, sampleK := 0
    marginalLimit := 255, rejectBudget := 255, copies := 1, priority := 0, writeLimit := 255, minWrite := 255
    readLimit := 255, earlyStart := 0, nextLot := 0, nextUnit := 0, unitMax := 0, text := List.replicate 13 65 }

/-- Put a job in the table. -/
def withJob (j : Job) (s : State) : State := { s with jsc.jobs := [j] }

/-- A blank of class L. -/
def blankL : MediaReport := { cls := .L, blank := true, capacity := 340000, maxWrite := 48, maxRead := 48 }

/-- A PENDING copy of job 1. -/
def copyAt (l : Location) : Disc :=
  { purpose := .copy, job := some 1, attempt := some 1, location := l, media := some blankL
    workBay := match l with | .bay n => some n | _ => none }

/-- A PENDING master of image 1. -/
def masterAt (l : Location) : Disc := { purpose := .master, image := some 1, location := l, source := some .inA }

/-- Put a record in slot 0. -/
def withDisc (r : Disc) (s : State) : State := { s with discs := s.discs.set 0 (some r) }

/-- Set the record of bay 2. -/
def withBay (b : Bay) (s : State) : State := s.modBay 2 (fun _ => b)

/-- A burn-only copy of image 1 lies in bay 2. -/
def copyInBay (verify : VerifyMode) (b : Bay) : State :=
  withBay b (withDisc (copyAt (.bay 2)) (withJob (job .burnOnly verify) (withImages [readyImage] State.reset)))

/-- The master of image 1 lies in bay 2. -/
def masterInBay (x : Image) (b : Bay) : State := withBay b (withDisc (masterAt (.bay 2)) (withImages [x] State.reset))

/-- A print-only copy lies on the printer tray. -/
def copyOnTray (p : Psc) : State :=
  { withDisc (copyAt .printer) (withJob (job .printOnly .off) (withImages [labelImage] State.reset)) with psc := p }

/-- The tower is RUNNING with the arm as given. -/
def withArm (a : Arm) (s : State) : State := { s with tsq := { s.tsq with phase := .running, arm := a } }

/-- A LOAD of job 1's copy from IN-A to bay 2. -/
def loadEntry : Entry :=
  { cls := .load, source := .spindle .inA, dest := .bay 2, purpose := some .copy, job := some 1, attempt := some 1
    time := 0 }

/-- A CLEAR of disc 0 from bay 2 to OUT. -/
def clearEntry : Entry := { cls := .clear, source := .bay 2, dest := .out, disc := some 0, time := 5 }

/-- The SMC serves a feed read. -/
def serving (q : SmcRequest) (s : State) : State := { s with smc := { s.smc with serving := some q } }

/-- A burst of bay 2's stream on image 1. -/
def burst (user : FeedUser) (first count : Nat) : FeedRead := { user := user, image := 1, first := first, count := count }

/-- The stream of bay 2 on image 1. -/
def stream (next inFlight : Nat) : Stream :=
  { image := 1, kind := .write, next := next, stop := 1000, sampleK := none, rate := 1200, inFlight := inFlight }

/-- Open the stream of bay 2. -/
def withStream (x : Stream) (s : State) : State := s.setStream 2 (some x)


/-- The next state of an outcome meets a test. -/
def meets (o : Host.Outcome State Fault Refusal) (f : State → Bool) : Bool :=
  match o with
  | .next t => f t
  | _ => false

/-! ### Well-formedness: an ill-formed term of each check is refused -/

theorem wf_refuses_wide_tags :
    ((([.sealImage 0 65536 1, .abandonImage 0 65536 1, .deleteImage 0 65536 1, .queryImage 0 65536 1,
      .openImage 0 65536 1 1 0, .imageFromDisc 0 65536 1 1 0, .holdJob 0 65536 1, .releaseJob 0 65536 1,
      .cancelJob 0 65536 1 1, .retireJob 0 65536 1, .queryJob 0 65536 1, .readRejects 0 65536 1 0] : List Instr).all
        (fun c => !c.wf)) &&
      (([.queryBay 0 65536 1, .bayOffline 0 65536 1, .bayOnline 0 65536 1, .setSpindle 0 65536 1 1 1,
      .spindleEmptied 0 65536 3, .armResume 0 65536, .clearTower 0 65536, .queryTower 0 65536,
      .printerServiced 0 65536, .bookNotice 0 65536 1 0 0 1, .dropBooking 0 65536 0, .fetchNotice 0 65536,
      .setAttention 0 65536 1, .readSettings 0 65536, .writeSettings 0 65536 1 1, .saveSettings 0 65536] : List Instr).all
        (fun c => !c.wf))) = true := by decide

theorem wf_refuses_wide_image_and_job_parameters :
    ([.openImage 0 1 256 1 0, .openImage 0 1 1 4294967296 0, .openImage 0 1 1 1 256, .sealImage 0 1 65536,
      .abandonImage 0 1 65536, .deleteImage 0 1 65536, .queryImage 0 1 65536, .imageFromDisc 0 1 4294967296 1 0,
      .imageFromDisc 0 1 1 256 0, .imageFromDisc 0 1 1 1 256, .holdJob 0 1 65536, .releaseJob 0 1 65536,
      .cancelJob 0 1 65536 1, .cancelJob 0 1 1 256, .retireJob 0 1 65536, .queryJob 0 1 65536, .readRejects 0 1 65536 0,
      .readRejects 0 1 1 256] : List Instr).all (fun c => !c.wf) = true := by decide

theorem wf_refuses_wide_mechanism_parameters :
    ([.queryBay 0 1 256, .bayOffline 0 1 256, .bayOnline 0 1 256, .setSpindle 0 1 256 1 1, .setSpindle 0 1 1 256 1,
      .setSpindle 0 1 1 1 256, .spindleEmptied 0 1 256, .bookNotice 0 1 256 0 0 1, .bookNotice 0 1 1 65536 0 1,
      .bookNotice 0 1 1 0 65536 1, .bookNotice 0 1 1 0 0 256, .dropBooking 0 1 256, .setAttention 0 1 256,
      .writeSettings 0 1 256 1, .writeSettings 0 1 1 4294967296] : List Instr).all (fun c => !c.wf) = true := by decide

/-- The parameters of a burn-only job of image 1, each at a value its field can carry. -/
def params : SubmitParams :=
  { discImage := 1, labelImage := 65535, mediaClass := 1, spindle := 3, order := 3, verify := 1, sampleK := 0
    marginalLimit := 255, rejectBudget := 255, copies := 9999, priority := 255, writeLimit := 255, minWrite := 255
    readLimit := 255, earlyStart := 0, nextLot := 0, nextUnit := 0, unitMax := 0, text := [] }

theorem wf_refuses_wide_submit_parameters :
    params.wf = true ∧
    ([{ params with discImage := 65536 }, { params with labelImage := 65536 }, { params with mediaClass := 256 },
      { params with spindle := 256 }, { params with order := 256 }, { params with verify := 256 },
      { params with sampleK := 256 }, { params with marginalLimit := 256 }, { params with rejectBudget := 256 },
      { params with copies := 65536 }, { params with priority := 256 }, { params with writeLimit := 256 },
      { params with minWrite := 256 }, { params with readLimit := 256 }, { params with earlyStart := 256 },
      { params with nextLot := 65536 }, { params with nextUnit := 65536 }, { params with unitMax := 65536 },
      { params with text := List.replicate 256 65 }] : List SubmitParams).all
        (fun p => !(Instr.submitJob 0 1 p).wf) = true ∧
    (Instr.submitJob 0 65536 params).wf = false := by decide +kernel

theorem wf_refuses_wide_link_messages :
    ([.blockFrame 0 1 0 0, .blockFrame 1028 1 0 0, .blockFrame 1027 65536 0 0, .blockFrame 1027 1 4294967296 0,
      .feedReadDone [], .feedReadDone (List.replicate 9 .clean), .artworkReadDone [],
      .artworkReadDone (List.replicate 9 .clean), .probeReport 0 (some { blankL with capacity := 4294967296 }),
      .probeReport 0 (some { blankL with maxWrite := 256 }), .probeReport 0 (some { blankL with maxRead := 256 }),
      .speedReport 0 256, .want 0 4194305, .burnError 0 256, .readBlock 0 4294967296 .ok 0, .fault 0 0, .fault 0 256,
      .printDone 256] : List Instr).all (fun c => !c.wf) = true := by decide +kernel

/-! ### The spec's worked examples -/

/-- A write request of the example of 4.7 and 4.8. -/
def asks (n : BayId) (k : GrantKind) (c : MediaClass) (m : Nat) : State → State :=
  State.requestGrant { bay := n, kind := k, cls := c, requested := m, minimum := none }

/-- The seven requests of 4.7, in bay order. -/
def sevenBays : State :=
  (asks 6 .write .L 48 ∘ asks 5 .write .M 16 ∘ asks 4 .write .M 16 ∘ asks 3 .write .M 16 ∘ asks 2 .write .M 16 ∘
    asks 1 .write .M 16 ∘ asks 0 .write .M 16) State.reset

/-- 4.7: the steps granted, the committed rate, and bay 5 passed once. -/
theorem test_grants_across_seven_bays :
    (([0, 1, 2, 3, 4, 5, 6] : List BayId).map (fun n => (sevenBays.grant n).map Grant.step)
      = [some 16, some 16, some 16, some 12, some 2, none, some 8]) ∧
    sevenBays.rgu.committedWrite = 41520 ∧ sevenBays.rgu.queue.map (fun w => (w.bay, w.passes)) = [(5, 1)] := by
  decide +kernel

/-- 4.7: the verify of bay 7 draws on the reserve, and bay 5 is passed again. -/
theorem test_verify_draws_on_the_reserve :
    let s := asks 7 .verify .M 16 sevenBays
    (s.grant 7).map Grant.step = some 8 ∧ s.rgu.committedWrite = 41520 ∧ s.rgu.committedTotal = 46800 ∧
      s.rgu.queue.map (fun w => (w.bay, w.passes)) = [(5, 2)] := by decide +kernel

/-- 4.7: bay 3 reports 8×, its entry shrinks, and the scan grants bay 5 step 4. -/
theorem test_a_shrunk_grant_lets_the_queue_in :
    let s := ((asks 7 .verify .M 16 sevenBays).adjust 3 8).1.scan
    (s.grant 3).map Grant.rate = some 5280 ∧ (s.grant 5).map Grant.step = some 4 ∧ s.rgu.committedWrite = 41520 ∧
      s.rgu.committedTotal = 46800 ∧ s.rgu.queue = [] := by decide +kernel

/-- 4.7: bay 4 reports 4×, which does not fit: it is sent back and skipped without a pass. -/
theorem test_a_grant_is_sent_back :
    let s := (((asks 7 .verify .M 16 sevenBays).adjust 3 8).1.scan.adjust 4 4).1.scan
    s.grant 4 = none ∧ s.rgu.committedWrite = 40200 ∧
      s.rgu.queue = [{ bay := 4, kind := .write, cls := .M, requested := 4, minimum := some 4, passes := 0 }] ∧
      ((s.release 0).grant 4).map Grant.step = some 4 ∧ (s.release 0).rgu.committedTotal = 37560 := by decide +kernel

/-- The state of 4.8 when bay 9 has become blocking. -/
def blocked : State :=
  let held (m : Nat) : Option Grant :=
    some { kind := .write, cls := .M, step := m, rate := 660 * m, phase := .settled }
  let s := (((State.reset.setGrant 0 (held 16)).setGrant 1 (held 16)).setGrant 2 (held 16)).setGrant 3 (held 4)
  (asks 8 .write .L 16 ∘ asks 10 .write .L 8 ∘ State.release 10 ∘ asks 11 .write .L 8 ∘ asks 10 .write .L 8 ∘
    State.requestGrant { bay := 9, kind := .write, cls := .M, requested := 16, minimum := some 12 }) s

/-- 4.8: a blocking entry stops the scan, and a large release lets it and the entry behind it in. -/
theorem test_a_blocking_entry :
    blocked.rgu.queue.map (fun w => (w.bay, w.passes)) = [(9, 4)] ∧ blocked.freeRate .write = 5280 ∧
      (let s := asks 6 .write .L 4 (blocked.release 11)
       s.rgu.queue.map (fun w => (w.bay, w.passes)) = [(9, 4), (6, 0)] ∧
         ((s.release 0).grant 9).map Grant.step = some 16 ∧ ((s.release 0).grant 6).map Grant.step = some 4 ∧
         (s.release 0).rgu.queue = [] ∧ (s.release 0).freeRate .write = 5580) := by decide +kernel

/-- The four streams of 5.9 before the rise, at a rate of 300. -/
def fourStreams : State :=
  let streamOf (stop credit : Nat) : Option Stream :=
    some { image := 1, kind := .write, next := 0, stop := stop, sampleK := none, rate := 300, credit := credit }
  let s : State := withImages [readyImage] { State.reset with sst.working.budget := 30000 }
  (((s.setStream 1 (streamOf 1000 15800)).setStream 2 (streamOf 1000 11700)).setStream 3 (streamOf 1000 8700)).setStream 4
    (streamOf 2 2700)

/-- 5.9: the choice that does not fit stops the period, and a smaller burst is not looked for. -/
theorem test_the_period_limit :
    meets (exec .feedPeriodTimerExpiry fourStreams) (fun t =>
      (([1, 2, 3, 4] : List BayId).map (fun n => (t.stream n).map Stream.credit)
        == [some 8000, some 4000, some 1000, some 3000]) && t.feedBlocks == 24) = true := by decide +kernel

/-- 7.7: the verify set of 100,000 blocks with k = 4, its ranges, and what a give-up at block 50,200 counts. -/
theorem test_sample_groups :
    verifySetFrom (some 4) 100000 0 = 25248 ∧ furtherGroups 4 100000 + 1 = 99 ∧
      verifySetFrom (some 4) 100000 50200 = 12680 ∧ nextGroupStart 4 100000 388 = 99840 ∧
      groupEnd 100000 390 - 99840 = 160 := by decide

/-- 7.7: adjacent groups, and an image of one group. -/
theorem test_adjacent_groups :
    runEnd (some 4) 1300 1024 = 1300 ∧ verifySetFrom (some 4) 1300 0 = 532 ∧ furtherGroups 4 1300 + 1 = 3 ∧
      nextGroupStart 4 1300 0 = 1024 ∧ nextGroupStart 4 1300 4 = 1280 ∧ verifySetFrom (some 4) 200 0 = 200 := by decide

/-- 9.8: the text of a serial, and the step over a lot boundary. -/
theorem test_serials :
    mergeText [66, 55, 45] { lot := 17, unit := 249 } = [66, 55, 45, 48, 48, 49, 55, 45, 48, 50, 52, 57] ∧
      SerialPlan.step { text := [], nextLot := 17, nextUnit := 250, unitMax := 250 }
        = { text := [], nextLot := 18, nextUnit := 1, unitMax := 250 } ∧
      SerialPlan.atEnd { text := [], nextLot := 9999, nextUnit := 3, unitMax := 3 } = true := by decide

/-! ### Reset and the queue -/

/-- A reset of the machine after reset leaves it as State.reset gives it. -/
theorem test_power_on_reset : meets (exec (.powerOnReset false) State.reset) (· == State.reset) = true := by decide +kernel

/-- A line reset is the same but for its cause. -/
theorem test_line_reset :
    meets (exec (.lineReset false) State.reset) (· == { State.reset with tsq.resetCause := .line }) = true := by decide +kernel

/-- With no command waiting the part idles. -/
theorem test_step_idles : step State.reset = .next State.reset := rfl

theorem test_reset_memory_wf : State.reset.mem.wf = true := by decide


/-! ### Single steps -/

theorem test_open_image_1 :
    let s := asking 1 7 (u8 1 ++ u32 4097 ++ u8 3)
    meets (exec (.openImage 0 7 1 4097 3) s) (fun t =>
      t.cat.images.map Image.extents == [[0,1]] && t.cat.counter == 2) = true := by decide +kernel

theorem test_image_from_disc_1 :
    let s := asking 5 7 (u32 1 ++ u8 2 ++ u8 0)
    meets (exec (.imageFromDisc 0 7 1 2 0) s) (fun t =>
      t.jsc.masters.length == 1) = true := by decide +kernel

theorem test_submit_job_1 :
    let s := (withImages [{ readyImage with refs := 0 }]) (asking 7 7 (submitBytes { discImage := 1, labelImage := 65535, mediaClass := 1, spindle := 3, order := 3, verify := 1, sampleK := 0, marginalLimit := 255, rejectBudget := 255, copies := 9999, priority := 255, writeLimit := 255, minWrite := 255, readLimit := 255, earlyStart := 0, nextLot := 0, nextUnit := 0, unitMax := 0, text := [] }))
    meets (exec (.submitJob 0 7 { discImage := 1, labelImage := 65535, mediaClass := 1, spindle := 3, order := 3, verify := 1, sampleK := 0, marginalLimit := 255, rejectBudget := 255, copies := 9999, priority := 255, writeLimit := 255, minWrite := 255, readLimit := 255, earlyStart := 0, nextLot := 0, nextUnit := 0, unitMax := 0, text := [] }) s) (fun t =>
      (t.jsc.jobs.map Job.number == [1]) && ((t.image? 1).map Image.refs == some 1)) = true := by decide +kernel

theorem test_release_job_1 :
    let s := (withJob { job .burnOnly .off with holds.byClient := true, holds.noBlanks := true, state := .held }) (asking 9 7 (u16 1))
    meets (exec (.releaseJob 0 7 1) s) (fun t =>
      (t.job? 1).any (fun j => j.state == .held && !j.holds.byClient)) = true := by decide +kernel

theorem test_cancel_job_1 :
    let s := (withJob (job .burnOnly .off)) (asking 10 7 (u16 1 ++ u8 1))
    meets (exec (.cancelJob 0 7 1 1) s) (fun t =>
      (t.job? 1).any (fun j => j.state == .cancelled)) = true := by decide +kernel

theorem test_cancel_job_2 :
    let s := (withJob { job .burnOnly .off with drain := some .fail, state := .draining, loads := 1 }) (asking 10 7 (u16 1 ++ u8 2))
    meets (exec (.cancelJob 0 7 1 2) s) (fun t =>
      (t.job? 1).any (fun j => j.drain == some .hard)) = true := by decide +kernel

theorem test_bay_offline_1 :
    let s := (withBay { state := .empty }) (asking 15 7 (u8 2))
    meets (exec (.bayOffline 0 7 2) s) (fun t =>
      (t.bay 2).state == .offline && t.due == {}) = true := by decide +kernel

theorem test_set_spindle_1 :
    let s := asking 17 7 (u8 1 ++ u8 3 ++ u8 150)
    meets (exec (.setSpindle 0 7 1 3 150) s) (fun t =>
      t.tsq.inA.count == some 100) = true := by decide +kernel

theorem test_set_spindle_2 :
    let s := asking 17 7 (u8 1 ++ u8 3 ++ u8 0)
    meets (exec (.setSpindle 0 7 1 3 0) s) (fun t =>
      t.tsq.inA.count == some 0) = true := by decide +kernel

theorem test_spindle_emptied_1 :
    let s := (fun s => { s with tsq.out.count := 5, tsq.rej.count := 6, tsq.rej.reserved := 1 }) (asking 18 7 (u8 2))
    meets (exec (.spindleEmptied 0 7 2) s) (fun t =>
      t.tsq == s.tsq) = true := by decide +kernel

theorem test_spindle_emptied_2 :
    let s := (fun s => { s with tsq.out.count := 5, tsq.rej.count := 6, tsq.rej.reserved := 1 }) (asking 18 7 (u8 3))
    meets (exec (.spindleEmptied 0 7 3) s) (fun t =>
      t.tsq.out.count == 0 && t.tsq.rej.count == 6) = true := by decide +kernel

theorem test_clear_tower_1 :
    let s := (fun s => { s with tsq.queue := [loadEntry], tsq.arm.state := .parked }) (asking 20 7 ([]))
    meets (exec (.clearTower 0 7) s) (fun t =>
      t.tsq.queue == [] && t.tsq.arm.state == .homing && t.tsq.phase == .sweeping .arm) = true := by decide +kernel

theorem test_write_settings_1 :
    let s := asking 28 7 (u8 12 ++ u32 60)
    meets (exec (.writeSettings 0 7 12 60) s) (fun t =>
      t.sst.working.capRej == 50 && t.sst.unsaved) = true := by decide +kernel

theorem test_write_settings_2 :
    let s := (fun s => s.modPort 0 (fun x => { x with bookings := Vector.replicate 8 (some { kind := .jobDone, scope := none, tag := 0, action := .notify }) })) (asking 28 7 (u8 16 ++ u32 7))
    meets (exec (.writeSettings 0 7 16 7) s) (fun t =>
      t.sst.working.rights3 == 7 && (t.port 0).booked.length == 8) = true := by decide +kernel

theorem test_intake_write_done_1 :
    let s := serving (.intake { image := 1, index := 1, data := 5 }) (withImages [{ fillingImage 2 1 with accesses := 1 }] { State.reset with ipt.fifo := [{ image := 1, index := 1, data := 5 }], ipt.writing := true })
    meets (exec (.intakeWriteDone) s) (fun t =>
      t.mem == [(2048, 5)] && t.ipt.fifo == [] && ((t.image? 1).map Image.ingested == some 2)) = true := by decide +kernel

theorem test_master_write_done_1 :
    let s := serving (.master { image := 1, index := 1, data := 5 }) (withImages [{ masterImage false with accesses := 1 }] State.reset)
    meets (exec (.masterWriteDone) s) (fun t =>
      t.mem == [(2048, 5)]) = true := by decide +kernel

theorem test_feed_period_timer_expiry_1 :
    let s := withStream (stream 0 0) (withImages [readyImage] State.reset)
    meets (exec (.feedPeriodTimerExpiry) s) (fun t =>
      ((t.stream 2).map (fun y => (y.credit,y.inFlight)) == some (1200, 8)) && t.feedBlocks == 8) = true := by decide +kernel

theorem test_feed_period_timer_expiry_2 :
    let s := withStream { stream 5 0 with reread := some 5 } (withImages [readyImage] State.reset)
    meets (exec (.feedPeriodTimerExpiry) s) (fun t =>
      ((t.stream 2).map (fun y => (y.credit,y.reread)) == some (9200, some 5))) = true := by decide +kernel

theorem test_feed_read_done_1 :
    let s := withStream (stream 8 8) (serving (.feed (burst (.stream 2) 0 8)) (copyInBay .off { state := .prefill, tray := .closed }))
    meets (exec (.feedReadDone []) s) (fun t =>
      (t.bay 2 == { s.bay 2 with fifo := (List.range 8).map (fun k => { index := k, data := s.loadBlock 1 k }) }) && (t.stream 2 == some (stream 8 0)) && t.sent == []) = true := by decide +kernel

theorem test_feed_read_done_2 :
    let s := withStream (stream 8 1) (serving (.feed (burst (.stream 2) 0 1)) (copyInBay .off { state := .prefill, tray := .closed }))
    meets (exec (.feedReadDone [.twoBits]) s) (fun t =>
      (t.bay 2 == s.bay 2) && (t.stream 2 == some { stream 0 0 with reread := some 0 }) && t.sent == []) = true := by decide +kernel

theorem test_reread_done_1 :
    let s := withStream { stream 8 1 with reread := some 3 } (serving (.feed (burst (.reread 2) 3 1)) (copyInBay .off { state := .prefill, tray := .closed }))
    meets (exec (.rereadDone .oneBit) s) (fun t =>
      (t.bay 2 == { s.bay 2 with fifo := [{ index := 3, data := s.loadBlock 1 3 }] }) && (t.stream 2 == some (stream 8 0)) && t.sent == []) = true := by decide +kernel

theorem test_artwork_read_done_1 :
    let s := serving (.feed { user := .artwork, image := 2, first := 0, count := 7 }) { copyOnTray { state := .loaded, step := some .transfer } with fdr.artwork := some { image := 2, length := 8, next := 7, inFlight := 7 } }
    meets (exec (.artworkReadDone []) s) (fun t =>
      t.sent.length == 7 && t.psc == s.psc && t.fdr.artwork == some { image := 2, length := 8, next := 7, inFlight := 0 }) = true := by decide +kernel

theorem test_artwork_read_done_2 :
    let s := serving (.feed { user := .artwork, image := 2, first := 0, count := 8 }) { copyOnTray { state := .loaded, step := some .transfer } with fdr.artwork := some { image := 2, length := 8, next := 8, inFlight := 8 } }
    meets (exec (.artworkReadDone []) s) (fun t =>
      t.sent.length == 8 && t.fdr.artwork == none && t.psc == { s.psc with step := some .artworkWait, timer := some 60000 }) = true := by decide +kernel

theorem test_speed_report_1 :
    let s := (copyInBay .off { state := .grantWait, tray := .closed, speedPending := true, timers.speed := some 2000 }).setGrant 2 (some { kind := .write, cls := .L, step := 48, rate := 3600, phase := .speedPending })
    meets (exec (.speedReport 2 47) s) (fun t =>
      (t.grant 2 == some { kind := .write, cls := .L, step := 48, rate := 3600, phase := .settled }) && (t.stream 2 == some { image := 1, kind := .write, next := 0, stop := 1000, sampleK := none, rate := 3600, credit := 8000 }) && (t.bay 2 == { s.bay 2 with speedPending := false, timers.speed := none, state := .prefill }) && t.sent == []) = true := by decide +kernel

theorem test_released_1 :
    let s := withDisc { copyAt .arm with verdict := .good } (withArm { state := .placing, motion := some .release, timer := some 6000, move := some { entry := clearEntry, reserved := .out, gripped := true, cmd := some .release } } State.reset)
    meets (exec (.released) s) (fun t =>
      t.tsq.out.count == 1 && t.disc 0 == none) = true := by decide +kernel

theorem test_released_2 :
    let s := withDisc (copyAt .arm) (withArm { state := .placing, motion := some .release, timer := some 6000, move := some { entry := { loadEntry with disc := some 0 }, reserved := .tray, gripped := true } } State.reset)
    meets (exec (.released) s) (fun t =>
      (t.disc 0).any (fun r => r.location == .bay 2)) = true := by decide +kernel

theorem test_bay_offline_2 :
    let s := (withBay { state := .fault, timers.tray := some 4000, tray := .moving }) (asking 15 7 (u8 2))
    meets (exec (.bayOffline 0 7 2) s) (fun t =>
      (t.bay 2 == { state := .offline, tray := .unknown })) = true := by decide +kernel

theorem test_bay_online_1 :
    let s := withDisc { copyAt (.bay 2) with verdict := .reject, cause := some .bayFault } ((withBay { state := .fault, faults := 1 }) (asking 16 7 (u8 2)))
    meets (exec (.bayOnline 0 7 2) s) (fun t =>
      (t.bay 2).state == .holding && (t.bay 2).faults == 0 && t.tsq.queue == [{ cls := .clear, source := .bay 2, dest := .rej, disc := some 0, time := 0 }]) = true := by decide +kernel

/-- R158: the bay that refused the placement is asked again when it leaves FAULT only while it is reserved for the copy on the
arm; reserved for another copy it is not, with the GOTO still outstanding. -/
theorem test_bay_online_2 :
    let move : Move := { entry := { loadEntry with disc := some 0 }, gripped := true, reserved := .tray, refused := true }
    let s (held : Nat) : State := (withArm { state := .toDest, move := some move, motion := some (.goto (.bay 2)) }
      (withDisc { copyAt .arm with dest := some (.bay 2) } (withBay { state := .fault } (asking 16 7 (u8 2))))).setBayRes 2
        (some (.copy 1 held))
    meets (exec (.bayOnline 0 7 2) (s 1)) (fun t => (t.bay 2).state == .trayOut && t.sent.contains (.bay 2 .trayOpen)) = true ∧
      meets (exec (.bayOnline 0 7 2) (s 2)) (fun t =>
        (t.bay 2).state == .empty && !t.sent.contains (.bay 2 .trayOpen)) = true := by decide +kernel

theorem test_tray_done_1 :
    let s := copyInBay .off { state := .trayOut, tray := .moving, traysIn := true, errand := .pick, timers.tray := some 4000 }
    meets (exec (.trayDone 2) s) (fun t =>
      t.bay 2 == { s.bay 2 with state := .holding, tray := .closed, timers.tray := none, errand := .none } && t.discs == s.discs) = true := by decide +kernel

theorem test_probe_report_1 :
    let s := withBay { state := .probing, tray := .closed, timers.probe := some 20000 } (withDisc { copyAt (.bay 2) with purpose := .spare, job := none, attempt := none } State.reset)
    meets (exec (.probeReport 2 (some { blankL with blank := false })) s) (fun t =>
      (t.bay 2).state == .holding && (t.disc 0).bind Disc.cause == some .notBlank) = true := by decide +kernel

theorem test_probe_report_2 :
    let s := masterInBay ({ masterImage false with refs := 1 }) { state := .probing, tray := .closed, timers.probe := some 20000 }
    meets (exec (.probeReport 2 (some { blankL with blank := false, capacity := 5 })) s) (fun t =>
      (t.bay 2).state == .holding && (t.disc 0).bind Disc.cause == some .imageLost && (t.image? 1).any (fun y => y.state == .lost && y.loss == some .tooLarge)) = true := by decide +kernel

theorem test_read_block_1 :
    let s := withDisc { copyAt (.bay 2) with steps.write := true } (copyInBay .count { state := .verifying, tray := .closed, timers.read := some 10000, engine := { phase := .reading, rangeEnd := some 1000, readPos := 999, comparePos := 999 }, fifo := [{ index := 999, data := 3 }] })
    meets (exec (.readBlock 2 999 .ok 3) s) (fun t =>
      (t.bay 2).engine == {} && (t.bay 2).fifo == [] && (t.bay 2).timers.read == none && (t.bay 2).state == .holding && (t.disc 0).any (fun r => r.steps.verify && r.verdict == .good)) = true := by decide +kernel

theorem test_read_block_2 :
    let s := withDisc { copyAt (.bay 2) with steps.write := true, mismatches := 2 } (copyInBay .count { state := .verifying, tray := .closed, timers.read := some 10000, engine := { phase := .reading, rangeEnd := some 1000, readPos := 999, comparePos := 999 }, fifo := [{ index := 999, data := 3 }] })
    meets (exec (.readBlock 2 999 .ok 3) s) (fun t =>
      (t.bay 2).engine == {} && (t.bay 2).fifo == [] && (t.bay 2).timers.read == none && (t.bay 2).state == .holding && (t.disc 0).bind Disc.cause == some .verifyFailed) = true := by decide +kernel

theorem test_fault_1 :
    let s := copyInBay .off { state := .fault, tray := .moving, errand := .pick, timers.tray := some 4000, offline := some .client }
    meets (exec (.fault 2 9) s) (fun t =>
      t.bay 2 == { s.bay 2 with lastFault := some (.bridge 9), tray := .unknown, errand := .none } && t.discs == s.discs) = true := by decide +kernel

theorem test_fault_2 :
    let s := copyInBay .off { state := .writing, timers.starve := some 2000 }
    meets (exec (.fault 2 9) s) (fun t =>
      (t.bay 2).state == .fault && (t.bay 2).lastFault == some (.bridge 9) && (t.bay 2).timers == {} && t.sent.contains (.bay 2 .abort) && (t.disc 0).bind Disc.cause == some .bayFault && (t.disc 0).map Disc.verdict == some .reject) = true := by decide +kernel

theorem test_tray_motion_timer_expiry_1 :
    let s := copyInBay .off { state := .trayOut, tray := .moving, errand := .place, timers.tray := some 4000 }
    meets (exec (.trayMotionTimerExpiry 2) s) (fun t =>
      (t.bay 2).state == .fault && (t.bay 2).errand == .none && (t.bay 2).tray == .unknown && (t.bay 2).timers == {} && (t.bay 2).lastFault == some .trayTimeout && (t.disc 0).bind Disc.cause == some .bayFault && (t.disc 0).map Disc.verdict == some .reject) = true := by decide +kernel

theorem test_probe_timer_expiry_1 :
    let s := copyInBay .off { state := .probing, timers.probe := some 20000 }
    meets (exec (.probeTimerExpiry 2) s) (fun t =>
      (t.bay 2).state == .fault && (t.bay 2).timers == {} && (t.bay 2).lastFault == some .probeTimeout && t.sent.contains (.bay 2 .abort) && (t.disc 0).bind Disc.cause == some .bayFault && (t.disc 0).map Disc.verdict == some .reject) = true := by decide +kernel

theorem test_speed_report_timer_expiry_1 :
    let s := copyInBay .off { state := .grantWait, speedPending := true, timers.speed := some 2000 }
    meets (exec (.speedReportTimerExpiry 2) s) (fun t =>
      (t.bay 2).state == .fault && (t.bay 2).timers == {} && (t.bay 2).lastFault == some .speedTimeout && t.sent.contains (.bay 2 .abort) && (t.disc 0).bind Disc.cause == some .bayFault && (t.disc 0).map Disc.verdict == some .reject) = true := by decide +kernel

theorem test_burn_close_timer_expiry_1 :
    let s := copyInBay .off { state := .closing, timers.close := some 240000 }
    meets (exec (.burnCloseTimerExpiry 2) s) (fun t =>
      (t.bay 2).state == .fault && (t.bay 2).timers == {} && (t.bay 2).lastFault == some .closeTimeout && t.sent.contains (.bay 2 .abort) && (t.disc 0).bind Disc.cause == some .bayFault && (t.disc 0).map Disc.verdict == some .reject) = true := by decide +kernel

theorem test_starve_timer_expiry_1 :
    let s := copyInBay .off { state := .writing, fifo := [{ index := 0, data := 3 }], timers.starve := some 2000 }
    meets (exec (.starveTimerExpiry 2) s) (fun t =>
      (t.bay 2).state == .holding && (t.bay 2).fifo == [] && (t.bay 2).timers.starve == none && (t.disc 0).bind Disc.cause == some .starved && t.sent.contains (.bay 2 .abort)) = true := by decide +kernel

theorem test_read_inactivity_timer_expiry_1 :
    let s := copyInBay .count { state := .verifying, tray := .closed, timers.read := some 10000, engine := { phase := .reading, rangeEnd := some 1000, comparePos := 5 } }
    meets (exec (.readInactivityTimerExpiry 2) s) (fun t =>
      (t.bay 2).state == .holding && (t.bay 2).engine == {} && (t.disc 0).any (fun r => r.mismatches == 995 && r.firstMismatch == some 5 && r.cause == some .verifyFailed) && t.sent.contains (.bay 2 .readHalt)) = true := by decide +kernel

theorem test_read_inactivity_timer_expiry_2 :
    let s := copyInBay .stop { state := .verifying, tray := .closed, timers.read := some 10000, engine := { phase := .reading, rangeEnd := some 1000, comparePos := 5 } }
    meets (exec (.readInactivityTimerExpiry 2) s) (fun t =>
      (t.bay 2).state == .holding && (t.bay 2).engine == {} && (t.disc 0).any (fun r => r.mismatches == 1 && r.firstMismatch == some 5 && r.cause == some .verifyFailed) && t.sent.contains (.bay 2 .readHalt)) = true := by decide +kernel

theorem test_spare_hold_timer_expiry_1 :
    let s := (withBay { state := .spare } (withDisc { copyAt (.bay 2) with purpose := .spare, job := none, attempt := none } State.reset)).setSpareHold 2 (some 60000)
    meets (exec (.spareHoldTimerExpiry 2) s) (fun t =>
      (t.bay 2).state == .holding && (t.disc 0).bind Disc.cause == some .cancelled && t.jsc.spareHold[(2 : BayId)] == none) = true := by decide +kernel

theorem test_gripped_1 :
    let s := withArm { state := .picking, position := .inA, motion := some .grip, timer := some 6000, move := some { entry := loadEntry, reserved := .tray } } (withJob { job .burnOnly .off with loads := 1 } (withImages [readyImage] State.reset))
    meets (exec (.gripped) s) (fun t =>
      t.disc 0 == some { purpose := .copy, job := some 1, attempt := some 1, source := some .inA, location := .arm, dest := some (.bay 2) }) = true := by decide +kernel

theorem test_grip_empty_1 :
    let s := withArm { state := .picking, position := .inA, motion := some .grip, timer := some 6000, move := some { entry := loadEntry, reserved := .tray } } (withJob { job .burnOnly .off with loads := 1 } (withImages [readyImage] State.reset))
    meets (exec (.gripEmpty) s) (fun t =>
      t.discs == s.discs && t.tsq.inA.state == .empty && t.tsq.inA.count == some 0 && t.tsq.arm.move == none) = true := by decide +kernel

theorem test_grip_double_1 :
    let s := withArm { state := .picking, position := .inA, motion := some .grip, timer := some 6000, move := some { entry := loadEntry, reserved := .tray, retries := 2 } } (withJob { job .burnOnly .off with loads := 1 } (withImages [readyImage] State.reset))
    meets (exec (.gripDouble) s) (fun t =>
      t.disc 0 == some { purpose := .copy, job := some 1, attempt := some 1, source := some .inA, location := .arm, dest := some .rej, verdict := .reject, cause := some .doublePick } && t.tsq.arm.move.map Move.entry == some { cls := .clear, source := .arm, dest := .rej, disc := some 0, time := 0 }) = true := by decide +kernel

theorem test_gripped_2 :
    let s := withDisc (copyAt (.bay 2)) (withArm { state := .picking, position := .bay 2, motion := some .grip, timer := some 6000, move := some { entry := clearEntry, reserved := .out } } State.reset)
    meets (exec (.gripped) s) (fun t =>
      t.disc 0 == some { copyAt (.bay 2) with location := .arm, dest := some .out }) = true := by decide +kernel

theorem test_homed_1 :
    let s := withDisc (copyAt .arm) { State.reset with tsq.phase := .sweeping .printer }
    meets (exec (.homed false) s) (fun t =>
      t.disc 0 == none && t.tsq.arm.state == .parked && t.tsq.phase == .sweeping .printer) = true := by decide +kernel

theorem test_jam_1 :
    let s := (copyOnTray { state := .printing, cacheTag := some 2, timer := some 60000 }).modPort 0 (fun x => { x with bookings := x.bookings.set 3 (some { kind := .printerJam, scope := some 1, tag := 5, action := .notify }) })
    meets (exec (.jam) s) (fun t =>
      t.psc.state == .jammed && t.psc.step == none && t.psc.timer == none && t.psc.cacheTag == none && (t.disc 0).any (fun r => r.verdict == .reject && r.cause == some .printFailed && r.serial == some { lot := 7, unit := 3 }) && (t.port 0).notices == [{ kind := .printerJam, tag := 5, subject := .job 1, detail := .jam .jam }]) = true := by decide +kernel

theorem test_jam_2 :
    let s := (copyOnTray { state := .loaded, step := some .transfer }).modPort 0 (fun x => { x with bookings := x.bookings.set 3 (some { kind := .printerJam, scope := some 1, tag := 5, action := .notify }) })
    meets (exec (.jam) s) (fun t =>
      t.psc.state == .jammed && t.psc.step == none && t.psc.timer == none && t.psc.cacheTag == none && t.fdr.artwork == none && (t.disc 0).any (fun r => r.cause == some .printFailed && r.serial == none) && (t.port 0).notices == [{ kind := .printerJam, tag := 5, subject := .job 1, detail := .jam .jam }]) = true := by decide +kernel

theorem test_tray_report_1 :
    let s := { copyOnTray {} with psc.state := .jammed, psc.sense := some .sweep, psc.timer := some 60000, tsq.phase := .sweeping .printer }
    meets (exec (.trayReport true) s) (fun t =>
      t.tsq.phase == .running && t.psc.state == .jammed && t.psc.sense == none && t.psc.timer == none) = true := by decide +kernel

theorem test_tray_report_2 :
    let s := { State.reset with psc.sense := some .sweep, psc.timer := some 60000, tsq.phase := .sweeping .printer }
    meets (exec (.trayReport false) s) (fun t =>
      t.tsq.phase == .running && t.psc.state == .vacant) = true := by decide +kernel

theorem test_burn_error_1 :
    let s := (fun s => s.modBay 2 (fun b => { b with wantCredit := 4, refillHold := true, timers := { starve := some 9, close := some 9 } })) (copyInBay .off { state := .closing, tray := .closed, fifo := (List.range 3).map (fun k => { index := k, data := 3 }), sentBlocks := 5 })
    meets (exec (.burnError 2 9) s) (fun t =>
      (t.bay 2).state == .holding && (t.bay 2).fifo == [] && (t.bay 2).wantCredit == 0 && (t.bay 2).sentBlocks == 0 && (t.bay 2).timers == {} && !(t.bay 2).refillHold && t.grant 2 == none && !t.sent.contains (.bay 2 .abort) && (t.disc 0).any (fun r => r.verdict == .reject && r.cause == some .writeFailed)) = true := by decide +kernel

theorem test_read_end_1 :
    let s := copyInBay .count { state := .verifying, tray := .closed, timers.read := some 10000, engine := { phase := .reading, rangeEnd := some 1000, readPos := 6, comparePos := 5 } }
    meets (exec (.readEnd 2) s) (fun t =>
      (t.bay 2).state == .holding && (t.bay 2).engine == {} && (t.disc 0).any (fun r => r.mismatches == 995 && r.cause == some .verifyFailed) && !t.sent.contains (.bay 2 .readHalt)) = true := by decide +kernel

theorem test_read_end_2 :
    let s := copyInBay .stop { state := .verifying, tray := .closed, timers.read := some 10000, engine := { phase := .reading, rangeEnd := some 1000, readPos := 6, comparePos := 5 } }
    meets (exec (.readEnd 2) s) (fun t =>
      (t.bay 2).state == .holding && (t.bay 2).engine == {} && (t.disc 0).any (fun r => r.mismatches == 1 && r.cause == some .verifyFailed) && !t.sent.contains (.bay 2 .readHalt)) = true := by decide +kernel

theorem test_print_timer_expiry_1 :
    let s := (copyOnTray { state := .printing, cacheTag := some 2, timer := some 60000 }).modPort 0 (fun x => { x with bookings := x.bookings.set 3 (some { kind := .printerJam, scope := some 1, tag := 5, action := .notify }) })
    meets (exec (.printTimerExpiry) s) (fun t =>
      t.psc.state == .jammed && t.psc.step == none && t.psc.timer == none && t.psc.cacheTag == none && (t.disc 0).any (fun r => r.cause == some .printFailed && r.serial == some { lot := 7, unit := 3 }) && (t.port 0).notices == [{ kind := .printerJam, tag := 5, subject := .job 1, detail := .jam .timeout }]) = true := by decide +kernel

theorem test_print_timer_expiry_2 :
    let s := (copyOnTray { state := .loaded, step := some .artworkWait, timer := some 60000 }).modPort 0 (fun x => { x with bookings := x.bookings.set 3 (some { kind := .printerJam, scope := some 1, tag := 5, action := .notify }) })
    meets (exec (.printTimerExpiry) s) (fun t =>
      t.psc.state == .jammed && t.psc.step == none && t.psc.timer == none && t.psc.cacheTag == none && (t.disc 0).any (fun r => r.cause == some .printFailed && r.serial == none) && (t.port 0).notices == [{ kind := .printerJam, tag := 5, subject := .job 1, detail := .jam .timeout }]) = true := by decide +kernel

theorem test_abandon_image_1 :
    let s := (fun s => ((fun s => { withJob ({ job .burnOnly .off with state := .waitingImage }) s with ipt.fifo := [{ image := 1, index := 0, data := 3 }, { image := 2, index := 0, data := 4 }, { image := 1, index := 1, data := 5 }], ipt.writing := true }) (withImages [fillingImage 3 0, { labelImage with state := .filling }] s)).modPort 1 (fun q => { q with bookings := (q.bookings.set 0 (some { kind := .jobHeld, tag := 5, scope := some 1, action := .notify })).set 1 (some { kind := .imageLost, tag := 6, scope := none, action := .notify }) })) (asking 3 7 (u16 1))
    meets (exec (.abandonImage 0 7 1) s) (fun t =>
      t.ipt.fifo == [{ image := 1, index := 0, data := 3 }, { image := 2, index := 0, data := 4 }] && (t.job? 1).any (fun j => j.holds.imageLost && j.state == .held) && (t.port 1).notices == [{ kind := .jobHeld, tag := 5, subject := .job 1, detail := .hold .imageLost }, { kind := .imageLost, tag := 6, subject := .image 1, detail := .loss .abandoned }] && (t.image? 1).isNone) = true := by decide +kernel

theorem test_abandon_image_2 :
    let s := (fun s => ((fun s => { withJob ({ job .burnOnly .off with state := .waitingImage }) s with ipt.fifo := [{ image := 1, index := 0, data := 3 }, { image := 2, index := 0, data := 4 }, { image := 1, index := 1, data := 5 }], ipt.writing := false }) (withImages [fillingImage 3 0, { labelImage with state := .filling }] s)).modPort 1 (fun q => { q with bookings := (q.bookings.set 0 (some { kind := .jobHeld, tag := 5, scope := some 1, action := .notify })).set 1 (some { kind := .imageLost, tag := 6, scope := none, action := .notify }) })) (asking 3 7 (u16 1))
    meets (exec (.abandonImage 0 7 1) s) (fun t =>
      t.ipt.fifo == [{ image := 2, index := 0, data := 4 }] && (t.job? 1).any (fun j => j.holds.imageLost && j.state == .held) && (t.port 1).notices == [{ kind := .jobHeld, tag := 5, subject := .job 1, detail := .hold .imageLost }, { kind := .imageLost, tag := 6, subject := .image 1, detail := .loss .abandoned }]) = true := by decide +kernel

theorem test_master_write_done_2 :
    let s := serving (.master { image := 1, index := 1, data := 5 }) (masterInBay { masterImage true with accesses := 2 } { state := .masterRead, tray := .closed, masterReported := true, masterHeld := true, masterNext := 2, holding := [{ index := 0, status := .ok, data := 4 }, { index := 1, status := .ok, data := 5 }] })
    meets (exec (.masterWriteDone) s) (fun t =>
      t.sent == [.bay 2 .readGo] && t.bay 2 == { s.bay 2 with holding := [{ index := 0, status := .ok, data := 4 }], masterHeld := false }) = true := by decide +kernel

theorem test_reread_done_2 :
    let s := (fun s => withDisc (copyAt (.bay 2)) (withImages [{ readyImage with state := .ready, accesses := 1 }] s)) (withStream { stream 1000 1 with stop := 1000, reread := some 999 } (serving (.feed (burst (.reread 2) 999 1)) (copyInBay .count { state := .verifying, tray := .closed, engine := { phase := .tail, comparePos := 999, readPos := 1001, rangeEnd := some 1000 }, holding := [{ index := 999, status := .ok, data := 0 }] })))
    meets (exec (.rereadDone .clean) s) (fun t =>
      (t.bay 2).engine == {} && (t.bay 2).state == .holding && (t.disc 0).any (fun r => r.steps.verify)) = true := by decide +kernel

theorem test_clear_tower_2 :
    let s := (fun s => (withBay { state := .writing, tray := .closed, fifo := [{ index := 0, data := 0 }], sentBlocks := 3, wantCredit := 2, timers.starve := some 9 } (withDisc (copyAt (.bay 2)) (withJob (job .burnOnly .off) (withImages [readyImage] s)))).modPort 1 (fun q => { q with bookings := (q.bookings.set 0 (some { kind := .jobHeld, tag := 5, scope := some 1, action := .notify })).set 1 (some { kind := .imageLost, tag := 6, scope := none, action := .notify }) })) (asking 20 7 ([]))
    meets (exec (.clearTower 0 7) s) (fun t =>
      (t.bay 2).state == .holding && (t.bay 2).fifo == [] && (t.bay 2).timers == {} && t.sent.contains (.bay 2 .abort) && t.sent.contains (.arm .halt) && t.disc 0 == some { copyAt (.bay 2) with verdict := .reject, cause := some .cleared } && (t.job? 1).any (fun j => j.holds.cleared && j.state == .held && j.rejected == 1 && j.budgetRejects == 0) && (t.port 1).notices == [{ kind := .jobHeld, tag := 5, subject := .job 1, detail := .hold .cleared }]) = true := by decide +kernel

theorem test_print_done_1 :
    let s := (fun s => { withJob ({ job .printOnly .off with state := .draining, drain := some .hard }) s with tsq.phase := .running, tsq.arm.state := .fault }) (copyOnTray { state := .printing, timer := some 60000 })
    meets (exec (.printDone 50) s) (fun t =>
      t.psc.state == .printed && (t.disc 0).any (fun r => r.verdict == .reject && r.cause == some .cancelled && r.steps.print) && t.tsq.queue.map Entry.dest == [.rej]) = true := by decide +kernel

/-! ### Witnesses: the hypotheses of the statements hold together -/

theorem witness_step_runs_front_command :
    (let s := { State.reset with pending := [.doorLineOpen, .jam] }
     (s.pending = [.doorLineOpen, .jam])) := by decide +kernel

theorem witness_load_takes_the_newer_copy_1 :
    (let s := { State.reset with sst.copyA := .good 65535 {}, sst.copyB := .good 0 { capA := 90 } }
     (s.sst.save = none ∧ s.sst.copyA = .good 65535 {} ∧ s.sst.copyB = .good 0 { capA := 90 } ∧
     0 = (65535 + 1) % 65536)) ∧
    (let s := { State.reset with sst.copyA := .good 4 { capA := 90 }, sst.copyB := .good 3 {} }
     (s.sst.save = none ∧ s.sst.copyA = .good 4 { capA := 90 } ∧ s.sst.copyB = .good 3 {} ∧ 3 ≠ (4 + 1) % 65536)) ∧
    (let s := { State.reset with sst.copyA := .good 4 {} }
     (s.sst.save = none ∧ s.sst.copyA = .good 4 {} ∧ s.sst.copyB = .bad)) := by decide +kernel

theorem witness_load_takes_the_newer_copy_2 :
    (let s := { State.reset with sst.copyB := .good 4 {} }
     (s.sst.save = none ∧ s.sst.copyB = .good 4 {} ∧ s.sst.copyA = .bad)) ∧
    (let s := State.reset
     (s.sst.save = none ∧ s.sst.copyA = .bad ∧ s.sst.copyB = .bad)) := by decide +kernel

theorem witness_bytes_move_one_at_a_time_1 :
    (let s := State.reset
     ((s.port 0).latch = none ∧ (s.port 0).phase = .idle ∧ (Port.assemble 1 (s.port 0)).complete = false)) ∧
    (let s := State.reset.modPort 0 (fun x => { x with phase := .assembling, frame := List.replicate 1026 0, taken := 1026 })
     ((s.port 0).latch = none ∧ (s.port 0).phase = .assembling ∧ (Port.assemble 1 (s.port 0)).complete = false)) ∧
    (let s := asking 27 7 ([])
     ((s.port 0).latch = none ∧ (s.port 0).phase = .atOwner)) ∧
    (let s := State.reset.modPort 0 (fun x => { x with phase := .replying, latch := some 9, reply := [1] })
     ((s.port 0).latch.isSome = true ∧ (s.port 0).reply = [1])) := by decide +kernel

theorem witness_bytes_move_one_at_a_time_2 :
    (let s := State.reset.modPort 0 (fun x => { x with phase := .replying, reply := [1] })
     ((s.port 0).reply = [1] ∧ (s.port 0).latch = none ∧ (s.port 0).phase = .replying)) ∧
    (let s := State.reset.modPort 0 (fun x => { x with phase := .replying, reply := [1, 2] })
     ((s.port 0).reply = 1 :: 2 :: [])) ∧
    (let s := State.reset.modPort 0 (fun x => { x with phase := .assembling, frame := [1], taken := 1, gap := some 50, frameErrors := 65535 })
     ((s.port 0).gap.isSome = true)) ∧
    (let s := State.reset
     ((s.port 0).gap = none ∧ (s.port 0).reply = [])) := by decide +kernel

theorem witness_bytes_move_one_at_a_time_3 :
    (let s := State.reset.modPort 0 (fun x => { x with phase := .assembling, frame := [0], taken := 1, gap := some 50 })
     ((s.port 0).latch = none ∧ (s.port 0).phase = .assembling ∧ (Port.assemble 0 (s.port 0)).complete = true ∧
     (Port.assemble 0 (s.port 0)).frameLength < 3)) ∧
    (let s := State.reset.modPort 0 (fun x => { x with phase := .assembling, frame := [0, 2, 27], taken := 3, gap := some 50 })
     ((s.port 0).latch = none ∧ (s.port 0).phase = .assembling ∧ (Port.assemble 1 (s.port 0)).complete = true ∧
     (Port.assemble 1 (s.port 0)).frameLength < 3)) := by decide +kernel

theorem witness_bytes_move_one_at_a_time_4 :
    (let s := State.reset.modPort 0 (fun x => { x with phase := .assembling, frame := [4, 1] ++ List.replicate 1024 1, taken := 1026, gap := some 50 })
     ((s.port 0).latch = none ∧ (s.port 0).phase = .assembling ∧ (Port.assemble 1 (s.port 0)).complete = true ∧
     1024 < (Port.assemble 1 (s.port 0)).frameLength)) ∧
    (let s := State.reset.modPort 0 (fun x => { x with phase := .assembling, frame := [0, 3, 30, 0], taken := 4, gap := some 50 })
     ((s.port 0).latch = none ∧ (s.port 0).phase = .assembling ∧ (Port.assemble 7 (s.port 0)).complete = true ∧
     29 < (Port.assemble 7 (s.port 0)).frameKind)) := by decide +kernel

theorem witness_bytes_move_one_at_a_time_5 :
    (let s := State.reset.modPort 0 (fun x => { x with phase := .assembling, frame := [0, 4, 27, 0, 7], taken := 5, gap := some 50 })
     ((s.port 0).latch = none ∧ (s.port 0).phase = .assembling ∧ (Port.assemble 7 (s.port 0)).complete = true ∧
     (Port.assemble 7 (s.port 0)).frameKind = 27 ∧
     paramCountOk 27 ((Port.assemble 7 (s.port 0)).frame.drop 5) = false)) ∧
    (let s := State.reset.modPort 1 (fun x => { x with phase := .assembling, frame := [0, 3, 29, 0], taken := 4, gap := some 50 })
     ((s.port 1).latch = none ∧ (s.port 1).phase = .assembling ∧ (Port.assemble 7 (s.port 1)).complete = true ∧
     paramCountOk 29 [] = true ∧ s.mayRequest 1 29 = false)) := by decide +kernel

theorem witness_bytes_move_one_at_a_time_6 :
    (let s := State.reset.modPort 0 (fun x => { x with phase := .assembling, frame := [0, 3, 27, 0], taken := 4, gap := some 50 })
     ((s.port 0).latch = none ∧ (s.port 0).phase = .assembling ∧ (Port.assemble 7 (s.port 0)).complete = true ∧
     paramCountOk 27 [] = true ∧ s.mayRequest 0 27 = true)) ∧
    (let s := State.reset.modPort 0 (fun x => { x with phase := .replying, latch := some 9, reply := [1] })
     ((s.port 0).reply = [1] ∧ (s.port 0).latch = some 9)) := by decide +kernel

theorem witness_request_on_a_free_port_reaches_its_owner_1 :
    (let s := State.reset
     (requestOf (.setSpindle 0 7 1 1 150) = some (0, 17, 7, u8 1 ++ u8 1 ++ u8 150) ∧
     Instr.wf (.setSpindle 0 7 1 1 150) = true ∧ paramCountOk 17 (u8 1 ++ u8 1 ++ u8 150) = true ∧
     (s.port 0).free = true ∧ s.mayRequest 0 17 = true)) ∧
    (let s := State.reset
     (requestOf (.setSpindle 1 65535 1 1 150) = some (1, 17, 65535, u8 1 ++ u8 1 ++ u8 150) ∧
     Instr.wf (.setSpindle 1 65535 1 1 150) = true ∧ paramCountOk 17 (u8 1 ++ u8 1 ++ u8 150) = true ∧
     (s.port 1).free = true ∧ s.mayRequest 1 17 = false)) := by decide +kernel

theorem witness_request_on_a_free_port_reaches_its_owner_2 :
    (let s := State.reset
     (requestOf (.submitJob 0 7 longSubmit) = some (0, 7, 7, submitBytes longSubmit) ∧
     Instr.wf (.submitJob 0 7 longSubmit) = true ∧ paramCountOk 7 (submitBytes longSubmit) = false ∧
     (s.port 0).free = true)) ∧
    (let s := asking 27 7 []
     ((s.port 0).free = false ∧ (s.port 0).holdsRequest (requestFrame 27 8 []) = false)) := by decide +kernel

theorem witness_read_rejects_lists_the_log :
    (let s := asking 13 7 (u16 1 ++ u8 0)
     ((s.port 0).holdsRequest (requestFrame 13 7 (u16 1 ++ u8 0)) = true ∧ s.job? 1 = none)) ∧
    (let s := (withJob { job .burnOnly .off with log := [{ attempt := 1, workBay := some 2, cause := .starved, firstMismatch := none }], rejected := 1 }) (asking 13 7 (u16 1 ++ u8 1))
     ((s.port 0).holdsRequest (requestFrame 13 7 (u16 1 ++ u8 1)) = true ∧
     (s.job? 1).any (fun j => decide (1 ≤ j.log.length)) = true)) ∧
    (let s := (withJob { job .burnOnly .off with log := [{ attempt := 1, workBay := some 2, cause := .starved, firstMismatch := none }], rejected := 1 }) (asking 13 7 (u16 1 ++ u8 2))
     ((s.port 0).holdsRequest (requestFrame 13 7 (u16 1 ++ u8 2)) = true ∧
     (s.job? 1).any (fun j => decide (j.log.length < 2)) = true)) := by decide +kernel

theorem witness_read_settings_gives_the_working_set :
    (let s := asking 27 7 ([])
     ((s.port 0).holdsRequest (requestFrame 27 7 ([])) = true)) := by decide +kernel

theorem witness_queries_only_reply_1 :
    (let s := asking 6 7 (u16 0)
     ((s.port 0).holdsRequest (requestFrame 6 7 (u16 0)) = true)) ∧
    (let s := (withImages [readyImage]) (asking 6 7 (u16 1))
     ((s.port 0).holdsRequest (requestFrame 6 7 (u16 1)) = true ∧ (1 : Nat) ≠ 0 ∧ s.image? 1 = some readyImage)) ∧
    (let s := asking 6 7 (u16 1)
     ((s.port 0).holdsRequest (requestFrame 6 7 (u16 1)) = true ∧ (1 : Nat) ≠ 0 ∧ s.image? 1 = none)) ∧
    (let s := (withJob (job .burnOnly .off)) (asking 12 7 (u16 1))
     ((s.port 0).holdsRequest (requestFrame 12 7 (u16 1)) = true ∧ s.job? 1 = some (job .burnOnly .off))) ∧
    (let s := asking 12 7 (u16 1)
     ((s.port 0).holdsRequest (requestFrame 12 7 (u16 1)) = true ∧ s.job? 1 = none)) := by decide +kernel

theorem witness_queries_only_reply_2 :
    (let s := asking 14 7 (u8 11)
     ((s.port 0).holdsRequest (requestFrame 14 7 (u8 11)) = true ∧ 11 = (11 : BayId).val)) ∧
    (let s := asking 14 7 (u8 12)
     ((s.port 0).holdsRequest (requestFrame 14 7 (u8 12)) = true ∧ 11 < 12)) ∧
    (let s := asking 21 7 ([])
     ((s.port 0).holdsRequest (requestFrame 21 7 ([])) = true)) := by decide +kernel

theorem witness_an_open_fills_an_entry_1 :
    (let s := asking 1 7 (u8 1 ++ u32 4097 ++ u8 3)
     (1 ≤ 4097 ∧ s.cat.images.length < 16 ∧ (4097 + 4095) / 4096 ≤ s.cat.freeExtents.length ∧
     imageKindOf 1 = some .disc ∧ 4097 ≤ ImageKind.disc.maxLength ∧
     (s.port 0).holdsRequest (requestFrame 1 7 (u8 1 ++ u32 4097 ++ u8 3)) = true)) := by decide +kernel

theorem witness_an_open_fills_an_entry_2 :
    (let s := asking 5 7 (u32 1 ++ u8 2 ++ u8 0)
     (1 ≤ 1 ∧ s.cat.images.length < 16 ∧ (1 + 4095) / 4096 ≤ s.cat.freeExtents.length ∧ spindleOf 2 = some .inB ∧
     1 ≤ 4194304 ∧ s.jsc.masters.length < 4 ∧
     (s.port 0).holdsRequest (requestFrame 5 7 (u32 1 ++ u8 2 ++ u8 0)) = true)) := by decide +kernel

theorem witness_new_numbers_are_free :
    ([65535, 1].Nodup ∧ [65535, 1].length < 65535 ∧ (∀ k ∈ [65535, 1], 1 ≤ k ∧ k ≤ 65535) ∧ 1 ≤ 65535 ∧
    65535 ≤ 65535) := by decide +kernel

theorem witness_sealing_an_image_1 :
    (let s := (withImages [{ fillingImage 3 2 with isSealed := false }]) (asking 2 7 (u16 1))
     (s.image? 1 = some ({ fillingImage 3 2 with isSealed := false }) ∧
     ({ fillingImage 3 2 with isSealed := false }).owner = 0 ∧
     ({ fillingImage 3 2 with isSealed := false }).state = .filling ∧
     ({ fillingImage 3 2 with isSealed := false }).source = .intake ∧
     (s.port 0).holdsRequest (requestFrame 2 7 (u16 1)) = true)) ∧
    (let s := (withImages [{ fillingImage 4 3 with isSealed := true }]) (asking 2 7 (u16 1))
     (s.image? 1 = some ({ fillingImage 4 3 with isSealed := true }) ∧
     ({ fillingImage 4 3 with isSealed := true }).owner = 0 ∧
     ({ fillingImage 4 3 with isSealed := true }).state = .filling ∧
     ({ fillingImage 4 3 with isSealed := true }).source = .intake ∧
     (s.port 0).holdsRequest (requestFrame 2 7 (u16 1)) = true)) := by decide +kernel

theorem witness_sealing_an_image_2 :
    (let s := (withImages [{ fillingImage 4 3 with isSealed := false }]) (asking 2 7 (u16 1))
     (s.image? 1 = some ({ fillingImage 4 3 with isSealed := false }) ∧
     ({ fillingImage 4 3 with isSealed := false }).owner = 0 ∧
     ({ fillingImage 4 3 with isSealed := false }).state = .filling ∧
     ({ fillingImage 4 3 with isSealed := false }).source = .intake ∧
     (s.port 0).holdsRequest (requestFrame 2 7 (u16 1)) = true)) ∧
    (let s := (withImages [{ fillingImage 4 4 with isSealed := false }]) (asking 2 7 (u16 1))
     (s.image? 1 = some ({ fillingImage 4 4 with isSealed := false }) ∧
     ({ fillingImage 4 4 with isSealed := false }).owner = 0 ∧
     ({ fillingImage 4 4 with isSealed := false }).state = .filling ∧
     ({ fillingImage 4 4 with isSealed := false }).source = .intake ∧
     (s.port 0).holdsRequest (requestFrame 2 7 (u16 1)) = true)) := by decide +kernel

theorem witness_removing_an_image_1 :
    (let s := (withImages [fillingImage 0 0]) (asking 3 7 (u16 1))
     (s.image? 1 = some (fillingImage 0 0) ∧ (fillingImage 0 0).isProtected = false ∧
     (fillingImage 0 0).state = .filling ∧ (s.port 0).holdsRequest (requestFrame 3 7 (u16 1)) = true)) ∧
    (let s := (withImages [readyImage]) (asking 4 7 (u16 1))
     (s.image? 1 = some readyImage ∧ readyImage.owner = 0 ∧ readyImage.state = .ready ∧ readyImage.refs ≠ 0 ∧
     (s.port 0).holdsRequest (requestFrame 4 7 (u16 1)) = true)) := by decide +kernel

theorem witness_removing_an_image_2 :
    (let s := (withImages [{ readyImage with refs := 0 }]) (asking 4 7 (u16 1))
     (s.image? 1 = some { readyImage with refs := 0 } ∧ readyImage.state = .ready ∧
     ({ readyImage with refs := 0 } : Image).refs = 0 ∧ readyImage.accesses = 0 ∧
     (s.port 0).holdsRequest (requestFrame 4 7 (u16 1)) = true)) ∧
    (let s := (withImages [{ readyImage with state := .lost }]) (asking 4 7 (u16 1))
     (s.image? 1 = some { readyImage with state := .lost } ∧ 0 < readyImage.refs ∧
     (s.port 0).holdsRequest (requestFrame 4 7 (u16 1)) = true)) ∧
    (let s := (withImages [{ readyImage with state := .doomed }]) (asking 4 7 (u16 1))
     (s.image? 1 = some { readyImage with state := .doomed } ∧
     (s.port 0).holdsRequest (requestFrame 4 7 (u16 1)) = true)) := by decide +kernel

theorem witness_removing_an_image_3 :
    (let s := (withImages [{ readyImage with state := .lost, refs := 0, accesses := 1 }]) (asking 4 7 (u16 1))
     (s.image? 1 = some { readyImage with state := .lost, refs := 0, accesses := 1 } ∧
     Image.refs { readyImage with state := .lost, refs := 0, accesses := 1 } = 0 ∧
     Image.accesses { readyImage with state := .lost, refs := 0, accesses := 1 } ≠ 0 ∧
     (s.port 0).holdsRequest (requestFrame 4 7 (u16 1)) = true)) := by decide +kernel

theorem witness_removing_an_image_4 :
    (let s := (fun s => ((fun s => { withJob ({ job .burnOnly .off with state := .waitingImage }) s with ipt.fifo := [{ image := 1, index := 0, data := 3 }, { image := 2, index := 0, data := 4 }, { image := 1, index := 1, data := 5 }], ipt.writing := true }) (withImages [fillingImage 3 0, { labelImage with state := .filling }] s)).modPort 1 (fun q => { q with bookings := (q.bookings.set 0 (some { kind := .jobHeld, tag := 5, scope := some 1, action := .notify })).set 1 (some { kind := .imageLost, tag := 6, scope := none, action := .notify }) })) (asking 3 7 (u16 1))
     (s.image? 1 = some (fillingImage 3 0) ∧ (fillingImage 3 0).isProtected = false ∧
     (fillingImage 3 0).state = .filling ∧ (s.port 0).holdsRequest (requestFrame 3 7 (u16 1)) = true ∧
     s.ipt.writing = true ∧ s.job? 1 = some ({ job .burnOnly .off with state := .waitingImage }) ∧
     Job.discImage ({ job .burnOnly .off with state := .waitingImage }) = some 1 ∧
     Job.live ({ job .burnOnly .off with state := .waitingImage }) = true ∧
     Job.holds ({ job .burnOnly .off with state := .waitingImage }) = {} ∧ (s.port 1).booked.length = 2 ∧
     (s.jsc.jobs.map Job.number).Nodup ∧
     (∀ j ∈ s.jsc.jobs, j.live = true → (j.state = .held ↔ j.holds.nonempty = true)))) := by decide +kernel

theorem witness_removing_an_image_5 :
    (let s := (fun s => ((fun s => { withJob ({ job .burnOnly .off with state := .waitingImage }) s with ipt.fifo := [{ image := 1, index := 0, data := 3 }, { image := 2, index := 0, data := 4 }, { image := 1, index := 1, data := 5 }], ipt.writing := false }) (withImages [fillingImage 3 0, { labelImage with state := .filling }] s)).modPort 1 (fun q => { q with bookings := (q.bookings.set 0 (some { kind := .jobHeld, tag := 5, scope := some 1, action := .notify })).set 1 (some { kind := .imageLost, tag := 6, scope := none, action := .notify }) })) (asking 3 7 (u16 1))
     (s.image? 1 = some (fillingImage 3 0) ∧ (fillingImage 3 0).isProtected = false ∧
     (fillingImage 3 0).state = .filling ∧ (s.port 0).holdsRequest (requestFrame 3 7 (u16 1)) = true ∧
     s.ipt.writing = false ∧ s.job? 1 = some ({ job .burnOnly .off with state := .waitingImage }) ∧
     Job.discImage ({ job .burnOnly .off with state := .waitingImage }) = some 1 ∧
     Job.live ({ job .burnOnly .off with state := .waitingImage }) = true ∧
     Job.holds ({ job .burnOnly .off with state := .waitingImage }) = {} ∧ (s.port 1).booked.length = 2 ∧
     (s.jsc.jobs.map Job.number).Nodup ∧
     (∀ j ∈ s.jsc.jobs, j.live = true → (j.state = .held ↔ j.holds.nonempty = true)))) := by decide +kernel

theorem witness_removing_an_image_6 :
    (let s := (fun s => ((fun s => withJob ({ job .burnOnly .off with state := .draining, drain := some .soft, loads := 1, discImage := some 1 }) s) (withImages [fillingImage 3 0, { labelImage with state := .filling }] s)).modPort 1 (fun q => { q with bookings := (q.bookings.set 0 (some { kind := .jobHeld, tag := 5, scope := some 1, action := .notify })).set 1 (some { kind := .imageLost, tag := 6, scope := none, action := .notify }) })) (asking 3 7 (u16 1))
     (s.image? 1 = some (fillingImage 3 0) ∧ (fillingImage 3 0).isProtected = false ∧
     (fillingImage 3 0).state = .filling ∧ (s.port 0).holdsRequest (requestFrame 3 7 (u16 1)) = true ∧
     s.job? 1 = some ({ job .burnOnly .off with state := .draining, drain := some .soft, loads := 1, discImage := some 1 }) ∧ Job.live ({ job .burnOnly .off with state := .draining, drain := some .soft, loads := 1, discImage := some 1 }) = false)) := by decide +kernel

theorem witness_removing_an_image_7 :
    (let s := (fun s => ((fun s => { withStream (stream 2 0) s with jsc.masters := [{ image := 1, spindle := .inA, seq := 0 }] }) (withImages [fillingImage 3 0, { labelImage with state := .filling }] s)).modPort 1 (fun q => { q with bookings := (q.bookings.set 0 (some { kind := .jobHeld, tag := 5, scope := some 1, action := .notify })).set 1 (some { kind := .imageLost, tag := 6, scope := none, action := .notify }) })) (asking 3 7 (u16 1))
     (s.image? 1 = some (fillingImage 3 0) ∧ (fillingImage 3 0).isProtected = false ∧
     (fillingImage 3 0).state = .filling ∧ (s.port 0).holdsRequest (requestFrame 3 7 (u16 1)) = true ∧
     s.stream 2 = some (stream 2 0) ∧ (stream 2 0).image = 1 ∧ (fillingImage 3 0).kind = .disc)) := by decide +kernel

theorem witness_removing_an_image_8 :
    (let s := (fun s => ((fun s => withJob { job .burnOnly .off with state := .held, holds.imageLost := true } s) (withImages [fillingImage 3 0, { labelImage with state := .filling }] s)).modPort 1 (fun q => { q with bookings := (q.bookings.set 0 (some { kind := .jobHeld, tag := 5, scope := some 1, action := .notify })).set 1 (some { kind := .imageLost, tag := 6, scope := none, action := .notify }) })) (asking 3 7 (u16 1))
     (s.image? 1 = some (fillingImage 3 0) ∧ (fillingImage 3 0).isProtected = false ∧
     (fillingImage 3 0).state = .filling ∧ (s.port 0).holdsRequest (requestFrame 3 7 (u16 1)) = true ∧
     (s.job? 1).any Job.live = true ∧ (s.jsc.jobs.map Job.number).Nodup ∧
     (∀ j ∈ s.jsc.jobs, j.live = true → (j.state = .held ↔ j.holds.nonempty = true)))) := by decide +kernel

theorem witness_submit_enters_the_job :
    (let s := (withImages [{ readyImage with refs := 0 }]) (asking 7 7 (submitBytes { discImage := 1, labelImage := 65535, mediaClass := 1, spindle := 3, order := 3, verify := 1, sampleK := 0, marginalLimit := 255, rejectBudget := 255, copies := 9999, priority := 255, writeLimit := 255, minWrite := 255, readLimit := 255, earlyStart := 0, nextLot := 0, nextUnit := 0, unitMax := 0, text := [] }))
     ((submitParse { discImage := 1, labelImage := 65535, mediaClass := 1, spindle := 3, order := 3, verify := 1, sampleK := 0, marginalLimit := 255, rejectBudget := 255, copies := 9999, priority := 255, writeLimit := 255, minWrite := 255, readLimit := 255, earlyStart := 0, nextLot := 0, nextUnit := 0, unitMax := 0, text := [] } 0).any (fun j => (s.submitRefusal 0 j).isNone) = true ∧ (s.port 0).holdsRequest (requestFrame 7 7 (submitBytes { discImage := 1, labelImage := 65535, mediaClass := 1, spindle := 3, order := 3, verify := 1, sampleK := 0, marginalLimit := 255, rejectBudget := 255, copies := 9999, priority := 255, writeLimit := 255, minWrite := 255, readLimit := 255, earlyStart := 0, nextLot := 0, nextUnit := 0, unitMax := 0, text := [] })) = true)) := by decide +kernel

theorem witness_holding_and_releasing_a_job_1 :
    (let s := (withJob (job .burnOnly .off)) (asking 8 7 (u16 1))
     (s.job? 1 = some (job .burnOnly .off) ∧ (job .burnOnly .off).live = true ∧ (job .burnOnly .off).owner = 0 ∧
     (job .burnOnly .off).holds.byClient = false ∧ (s.port 0).holdsRequest (requestFrame 8 7 (u16 1)) = true)) ∧
    (let s := (withJob { job .burnOnly .off with holds.byClient := true, holds.noBlanks := true, state := .held }) (asking 8 7 (u16 1))
     (s.job? 1 = some { job .burnOnly .off with holds.byClient := true, holds.noBlanks := true, state := .held } ∧
     Job.live { job .burnOnly .off with holds.byClient := true, holds.noBlanks := true, state := .held } = true ∧
     (s.port 0).holdsRequest (requestFrame 8 7 (u16 1)) = true)) := by decide +kernel

theorem witness_holding_and_releasing_a_job_2 :
    (let s := (withJob { job .burnOnly .off with holds.byClient := true, holds.noBlanks := true, state := .held }) (asking 9 7 (u16 1))
     (s.job? 1 = some { job .burnOnly .off with holds.byClient := true, holds.noBlanks := true, state := .held } ∧
     Job.live { job .burnOnly .off with holds.byClient := true, holds.noBlanks := true, state := .held } = true ∧
     (s.port 0).holdsRequest (requestFrame 9 7 (u16 1)) = true)) ∧
    (let s := (withJob { job .burnOnly .off with holds.imageLost := true, state := .held }) (asking 9 7 (u16 1))
     (s.job? 1 = some { job .burnOnly .off with holds.imageLost := true, state := .held } ∧
     Job.live { job .burnOnly .off with holds.imageLost := true, state := .held } = true ∧
     (s.port 0).holdsRequest (requestFrame 9 7 (u16 1)) = true)) := by decide +kernel

theorem witness_cancelling_a_job_1 :
    (let s := (withJob (job .burnOnly .off)) (asking 10 7 (u16 1 ++ u8 1))
     (s.job? 1 = some (job .burnOnly .off) ∧ (job .burnOnly .off).state.terminal = false ∧ drainOf 1 = some .soft ∧
     (job .burnOnly .off).drain = none ∧ (s.port 0).holdsRequest (requestFrame 10 7 (u16 1 ++ u8 1)) = true)) ∧
    (let s := (withJob { job .burnOnly .off with drain := some .fail, state := .draining, loads := 1 }) (asking 10 7 (u16 1 ++ u8 2))
     (s.job? 1 = some { job .burnOnly .off with drain := some .fail, state := .draining, loads := 1 } ∧
     drainOf 2 = some .hard ∧ (s.port 0).holdsRequest (requestFrame 10 7 (u16 1 ++ u8 2)) = true)) := by decide +kernel

theorem witness_cancelling_a_job_2 :
    (let s := (withJob { job .burnOnly .off with drain := some .soft, state := .draining, loads := 1 }) (asking 10 7 (u16 1 ++ u8 1))
     (s.job? 1 = some { job .burnOnly .off with drain := some .soft, state := .draining, loads := 1 } ∧
     drainOf 1 = some .soft ∧ (s.port 0).holdsRequest (requestFrame 10 7 (u16 1 ++ u8 1)) = true)) ∧
    (let s := (fun s => (withBay { state := .probing, tray := .closed }) (withDisc (copyAt (.bay 2)) (withJob (job .burnOnly .off) s))) (asking 10 7 (u16 1 ++ u8 1))
     (s.job? 1 = some (job .burnOnly .off) ∧ (job .burnOnly .off).drain = none ∧ drainOf 1 = some .soft ∧
     (s.port 0).holdsRequest (requestFrame 10 7 (u16 1 ++ u8 1)) = true ∧ s.disc 0 = some (copyAt (.bay 2)) ∧
     (∀ d, d ≠ 0 → s.disc d = none) ∧ (s.bay 2).state = .probing)) := by decide +kernel

theorem witness_cancelling_a_job_3 :
    (let s := (fun s => (withBay { state := .writing, tray := .closed }) (withDisc (copyAt (.bay 2)) (withJob (job .burnOnly .off) s))) (asking 10 7 (u16 1 ++ u8 1))
     (s.job? 1 = some (job .burnOnly .off) ∧ (job .burnOnly .off).drain = none ∧ drainOf 1 = some .soft ∧
     (s.port 0).holdsRequest (requestFrame 10 7 (u16 1 ++ u8 1)) = true ∧ s.disc 0 = some (copyAt (.bay 2)) ∧
     (∀ d, d ≠ 0 → s.disc d = none) ∧ (s.bay 2).state = .writing)) := by decide +kernel

theorem witness_cancelling_a_job_4 :
    (let s := (fun s => (withBay { state := .closing, tray := .closed }) (withDisc (copyAt (.bay 2)) (withJob (job .burnOnly .off) s))) (asking 10 7 (u16 1 ++ u8 2))
     (s.job? 1 = some (job .burnOnly .off) ∧ (job .burnOnly .off).drain = none ∧ drainOf 2 = some .hard ∧
     (s.port 0).holdsRequest (requestFrame 10 7 (u16 1 ++ u8 2)) = true ∧ s.disc 0 = some (copyAt (.bay 2)) ∧
     (∀ d, d ≠ 0 → s.disc d = none) ∧ (s.bay 2).state = .closing)) := by decide +kernel

theorem witness_cancelling_a_job_5 :
    (let s := (fun s => (withBay { state := .verifyWait, tray := .closed }) (withDisc ({ copyAt (.bay 2) with steps.write := true }) (withJob (job .burnOnly .off) s))) (asking 10 7 (u16 1 ++ u8 2))
     (s.job? 1 = some (job .burnOnly .off) ∧ (job .burnOnly .off).drain = none ∧ drainOf 2 = some .hard ∧
     (s.port 0).holdsRequest (requestFrame 10 7 (u16 1 ++ u8 2)) = true ∧
     s.disc 0 = some ({ copyAt (.bay 2) with steps.write := true }) ∧ (∀ d, d ≠ 0 → s.disc d = none) ∧
     (s.bay 2).state = .verifyWait)) := by decide +kernel

theorem witness_cancelling_a_job_6 :
    (let s := (fun s => (fun s => s) (withDisc (copyAt .arm) (withJob (job .burnOnly .off) s))) (asking 10 7 (u16 1 ++ u8 1))
     (s.job? 1 = some (job .burnOnly .off) ∧ (job .burnOnly .off).drain = none ∧ drainOf 1 = some .soft ∧
     (s.port 0).holdsRequest (requestFrame 10 7 (u16 1 ++ u8 1)) = true ∧ s.disc 0 = some (copyAt .arm) ∧
     (∀ d, d ≠ 0 → s.disc d = none))) := by decide +kernel

theorem witness_cancelling_a_job_7 :
    (let s := (fun s => (fun s => s) (withDisc ({ copyAt .arm with steps.write := true }) (withJob (job .burnOnly .off) s))) (asking 10 7 (u16 1 ++ u8 2))
     (s.job? 1 = some (job .burnOnly .off) ∧ (job .burnOnly .off).drain = none ∧ drainOf 2 = some .hard ∧
     (s.port 0).holdsRequest (requestFrame 10 7 (u16 1 ++ u8 2)) = true ∧
     s.disc 0 = some ({ copyAt .arm with steps.write := true }) ∧ (∀ d, d ≠ 0 → s.disc d = none))) := by decide +kernel

theorem witness_cancelling_a_job_8 :
    (let s := (fun s => (fun s => { s with psc.state := .printing, psc.timer := some 60000 }) (withDisc (copyAt .printer) (withJob (job .burnOnly .off) s))) (asking 10 7 (u16 1 ++ u8 2))
     (s.job? 1 = some (job .burnOnly .off) ∧ (job .burnOnly .off).drain = none ∧ drainOf 2 = some .hard ∧
     (s.port 0).holdsRequest (requestFrame 10 7 (u16 1 ++ u8 2)) = true ∧ s.disc 0 = some (copyAt .printer) ∧
     (∀ d, d ≠ 0 → s.disc d = none) ∧ s.psc.state = .printing)) := by decide +kernel

theorem witness_cancelling_a_job_9 :
    (let s := (fun s => (fun s => { s with psc.state := .loaded, psc.step := some .transfer }) (withDisc (copyAt .printer) (withJob (job .burnOnly .off) s))) (asking 10 7 (u16 1 ++ u8 1))
     (s.job? 1 = some (job .burnOnly .off) ∧ (job .burnOnly .off).drain = none ∧ drainOf 1 = some .soft ∧
     (s.port 0).holdsRequest (requestFrame 10 7 (u16 1 ++ u8 1)) = true ∧ s.disc 0 = some (copyAt .printer) ∧
     (∀ d, d ≠ 0 → s.disc d = none) ∧ s.psc.state = .loaded)) := by decide +kernel

theorem witness_cancelling_a_job_10 :
    (let s := (fun s => (fun s => { s with psc.state := .loaded, psc.step := some .stalledSerial }) (withDisc ({ copyAt .printer with steps.write := true }) (withJob (job .burnOnly .off) s))) (asking 10 7 (u16 1 ++ u8 1))
     (s.job? 1 = some (job .burnOnly .off) ∧ (job .burnOnly .off).drain = none ∧ drainOf 1 = some .soft ∧
     (s.port 0).holdsRequest (requestFrame 10 7 (u16 1 ++ u8 1)) = true ∧
     s.disc 0 = some ({ copyAt .printer with steps.write := true }) ∧ (∀ d, d ≠ 0 → s.disc d = none) ∧
     s.psc.step = some .stalledSerial)) := by decide +kernel

theorem witness_cancelling_a_job_11 :
    (let s := (fun s => (fun s => { s with psc.state := .loaded, psc.step := some .leaving }) (withDisc ({ copyAt .printer with steps.write := true }) (withJob (job .burnOnly .off) s))) (asking 10 7 (u16 1 ++ u8 1))
     (s.job? 1 = some (job .burnOnly .off) ∧ (job .burnOnly .off).drain = none ∧ drainOf 1 = some .soft ∧
     (s.port 0).holdsRequest (requestFrame 10 7 (u16 1 ++ u8 1)) = true ∧
     s.disc 0 = some ({ copyAt .printer with steps.write := true }) ∧ (∀ d, d ≠ 0 → s.disc d = none) ∧
     s.psc.step = some .leaving)) := by decide +kernel

theorem witness_cancelling_a_job_12 :
    (let s := (fun s => (fun s => { s with tsq.queue := [loadEntry, { loadEntry with job := some 2 }] }) (withDisc (copyAt .arm) (withJob (job .burnOnly .off) s))) (asking 10 7 (u16 1 ++ u8 1))
     (s.job? 1 = some (job .burnOnly .off) ∧ (job .burnOnly .off).drain = none ∧ drainOf 1 = some .soft ∧
     (s.port 0).holdsRequest (requestFrame 10 7 (u16 1 ++ u8 1)) = true ∧ s.disc 0 = some (copyAt .arm) ∧
     (∀ d, d ≠ 0 → s.disc d = none) ∧ loadEntry ∈ s.tsq.queue)) := by decide +kernel

theorem witness_cancelling_a_job_13 :
    (let s := (fun s => withDisc ({ copyAt (.bay 2) with steps.write := true }) (withBay { state := .holding } (withJob { job .burnOnly .off with drain := some .soft, state := .draining, loads := 1 } s))) (asking 10 7 (u16 1 ++ u8 2))
     (s.job? 1 = some { job .burnOnly .off with drain := some .soft, state := .draining, loads := 1 } ∧
     drainOf 2 = some .hard ∧ (s.port 0).holdsRequest (requestFrame 10 7 (u16 1 ++ u8 2)) = true ∧
     (s.disc 0).map Disc.location = some (.bay 2))) := by decide +kernel

theorem witness_retiring_a_job_1 :
    (let s := asking 11 7 (u16 1)
     (s.job? 1 = none ∧ (s.port 0).holdsRequest (requestFrame 11 7 (u16 1)) = true)) ∧
    (let s := (withJob { job .burnOnly .off with owner := 0, state := .failed }) { State.reset with ports := State.reset.ports.set 1 { phase := .atOwner, frame := requestFrame 11 7 (u16 1) } }
     (s.holds 1 .manage = false ∧ s.job? 1 = some { job .burnOnly .off with owner := 0, state := .failed } ∧
     (0 : PortId) ≠ 1 ∧ (s.port 1).holdsRequest (requestFrame 11 7 (u16 1)) = true)) ∧
    (let s := (withJob (job .burnOnly .off)) (asking 11 7 (u16 1))
     (s.job? 1 = some (job .burnOnly .off) ∧ (job .burnOnly .off).state = .active ∧
     (s.port 0).holdsRequest (requestFrame 11 7 (u16 1)) = true)) := by decide +kernel

theorem witness_retiring_a_job_2 :
    (let s := (withJob { job .burnOnly .off with state := .complete }) (asking 11 7 (u16 1))
     (s.job? 1 = some { job .burnOnly .off with state := .complete } ∧
     (s.port 0).holdsRequest (requestFrame 11 7 (u16 1)) = true)) := by decide +kernel

theorem witness_taking_a_bay_off_and_on_1 :
    (let s := (withBay { state := .offline }) (asking 15 7 (u8 2))
     ((s.bay 2).state = .offline ∧ (s.port 0).holdsRequest (requestFrame 15 7 (u8 2)) = true)) ∧
    (let s := (withBay { state := .writing, offline := some .quarantine }) (asking 15 7 (u8 2))
     ((s.bay 2).state = .writing ∧ (s.bay 2).offline.isSome = true ∧
     (s.port 0).holdsRequest (requestFrame 15 7 (u8 2)) = true)) ∧
    (let s := (withBay { state := .writing }) (asking 15 7 (u8 2))
     ((s.bay 2).state = .writing ∧ (s.bay 2).offline = none ∧ s.offlineReady 2 = false ∧
     (s.port 0).holdsRequest (requestFrame 15 7 (u8 2)) = true)) := by decide +kernel

theorem witness_taking_a_bay_off_and_on_2 :
    (let s := (withBay { state := .empty }) (asking 15 7 (u8 2))
     ((s.bay 2).state = .empty ∧ (s.bay 2).offline = none ∧ s.offlineReady 2 = true ∧
     (s.port 0).holdsRequest (requestFrame 15 7 (u8 2)) = true)) ∧
    (let s := (withBay { state := .writing, faults := 2 }) (asking 16 7 (u8 2))
     ((s.bay 2).state = .writing ∧ (s.port 0).holdsRequest (requestFrame 16 7 (u8 2)) = true)) ∧
    (let s := (withBay { state := .fault, faults := 2 }) (asking 16 7 (u8 2))
     ((s.bay 2).state = .fault ∧ s.discAt (.bay 2) = none ∧
     (s.port 0).holdsRequest (requestFrame 16 7 (u8 2)) = true)) := by decide +kernel

theorem witness_taking_a_bay_off_and_on_3 :
    (let s := (withBay { state := .fault, timers.tray := some 4000, tray := .moving }) (asking 15 7 (u8 2))
     ((s.bay 2).state = .fault ∧ (s.bay 2).offline = none ∧ s.offlineReady 2 = true ∧
     (s.port 0).holdsRequest (requestFrame 15 7 (u8 2)) = true)) ∧
    (let s := (withDisc { copyAt (.bay 2) with purpose := .spare, job := none, attempt := none } ((withBay { state := .spare }) (asking 15 7 (u8 2)))).setSpareHold 2 (some 60000)
     ((s.bay 2).state = .spare ∧ (s.bay 2).offline = none ∧ s.discAt (.bay 2) = some 0 ∧
     (s.disc 0).map Disc.purpose = some .spare ∧ (s.disc 0).map Disc.verdict = some .pending ∧
     (s.port 0).holdsRequest (requestFrame 15 7 (u8 2)) = true)) := by decide +kernel

theorem witness_taking_a_bay_off_and_on_4 :
    (let s := withDisc { copyAt (.bay 2) with verdict := .reject, cause := some .bayFault } ((withBay { state := .fault, faults := 1 }) (asking 16 7 (u8 2)))
     ((s.bay 2).state = .fault ∧ s.discAt (.bay 2) = some 0 ∧ s.hasEntry 0 = false ∧
     (s.recAt (.bay 2)).bind s.requiredDest = some .rej ∧
     (s.port 0).holdsRequest (requestFrame 16 7 (u8 2)) = true)) := by decide +kernel

theorem witness_setting_a_spindle :
    (let s := asking 17 7 (u8 1 ++ u8 3 ++ u8 150)
     (spindleOf 1 = some .inA ∧ declaredClassOf 3 = some none ∧ spindleCountOf 150 = some (some 150) ∧
     (s.port 0).holdsRequest (requestFrame 17 7 (u8 1 ++ u8 3 ++ u8 150)) = true)) ∧
    (let s := asking 17 7 (u8 1 ++ u8 3 ++ u8 0)
     (spindleOf 1 = some .inA ∧ declaredClassOf 3 = some none ∧ spindleCountOf 0 = some (some 0) ∧
     (s.port 0).holdsRequest (requestFrame 17 7 (u8 1 ++ u8 3 ++ u8 0)) = true)) ∧
    (let s := asking 17 7 (u8 1 ++ u8 3 ++ u8 255)
     (spindleOf 1 = some .inA ∧ declaredClassOf 3 = some none ∧ spindleCountOf 255 = some none ∧
     (s.port 0).holdsRequest (requestFrame 17 7 (u8 1 ++ u8 3 ++ u8 255)) = true)) := by decide +kernel

theorem witness_emptying_out_or_rej :
    (let s := State.reset
     ((s.port 1).free = true ∧ s.holds 1 .manage = false ∧ 255 < 256 ∧ 65535 < 65536)) ∧
    (let s := (fun s => { s with tsq.out.count := 5, tsq.rej.count := 6, tsq.rej.reserved := 1 }) (asking 18 7 (u8 2))
     ((s.port 0).holdsRequest (requestFrame 18 7 (u8 2)) = true)) ∧
    (let s := (fun s => { s with tsq.out.count := 5, tsq.rej.count := 6, tsq.rej.reserved := 1 }) (asking 18 7 (u8 3))
     ((s.port 0).holdsRequest (requestFrame 18 7 (u8 3)) = true)) ∧
    (let s := (fun s => { s with tsq.out.count := 5, tsq.rej.count := 6, tsq.rej.reserved := 1 }) (asking 18 7 (u8 4))
     ((s.port 0).holdsRequest (requestFrame 18 7 (u8 4)) = true)) ∧
    (let s := (fun s => { s with tsq.out.count := 5, tsq.rej.count := 6, tsq.rej.reserved := 1 }) (asking 18 7 (u8 5))
     ((s.port 0).holdsRequest (requestFrame 18 7 (u8 5)) = true)) := by decide +kernel

theorem witness_arm_faults_are_reported_and_resumed :
    (let s := asking 19 7 ([])
     (s.tsq.arm.state ≠ .fault ∧ (s.port 0).holdsRequest (requestFrame 19 7 ([])) = true)) ∧
    (let s := (withArm { state := .fault, fault := some .timeout }) (asking 19 7 ([]))
     (s.tsq.arm.state = .fault ∧ s.tsq.door = .closed ∧ (s.port 0).holdsRequest (requestFrame 19 7 ([])) = true)) ∧
    (let s := withArm { state := .fault } State.reset
     (s.tsq.arm.state = .fault)) ∧
    (let s := State.reset
     (s.tsq.arm.state ≠ .fault ∧ s.tsq.arm.timer.isSome = true)) := by decide +kernel

theorem witness_clear_tower_empties_the_tower_1 :
    (let s := (fun s => { s with tsq.queue := [loadEntry], tsq.arm.state := .parked }) (asking 20 7 ([]))
     ((s.port 0).holdsRequest (requestFrame 20 7 ([])) = true)) := by decide +kernel

theorem witness_clear_tower_empties_the_tower_2 :
    (let s := (fun s => (withBay { state := .writing, tray := .closed, fifo := [{ index := 0, data := 0 }], sentBlocks := 3, wantCredit := 2, timers.starve := some 9 } (withDisc (copyAt (.bay 2)) (withJob (job .burnOnly .off) (withImages [readyImage] s)))).modPort 1 (fun q => { q with bookings := (q.bookings.set 0 (some { kind := .jobHeld, tag := 5, scope := some 1, action := .notify })).set 1 (some { kind := .imageLost, tag := 6, scope := none, action := .notify }) })) (asking 20 7 ([]))
     ((s.port 0).holdsRequest (requestFrame 20 7 ([])) = true ∧ (s.bay 2).state = .writing ∧
     s.disc 0 = some (copyAt (.bay 2)) ∧ (copyAt (.bay 2)).verdict = .pending ∧ (copyAt (.bay 2)).purpose ≠ .master ∧
     s.job? 1 = some (job .burnOnly .off) ∧ (job .burnOnly .off).live = true ∧
     (job .burnOnly .off).holds.cleared = false ∧ (s.jsc.jobs.map Job.number).Nodup ∧
     (∀ j ∈ s.jsc.jobs, j.live = true → (j.state = .held ↔ j.holds.nonempty = true)))) := by decide +kernel

theorem witness_clear_tower_empties_the_tower_3 :
    (let s := (fun s => withBay { state := .masterRead, tray := .closed } (withDisc (masterAt (.bay 2)) (withImages [{ masterImage false with accesses := 1 }] s))) (asking 20 7 ([]))
     ((s.port 0).holdsRequest (requestFrame 20 7 ([])) = true ∧ s.disc 0 = some (masterAt (.bay 2)) ∧
     s.discAt (.bay 2) = some 0 ∧ s.masterOf 1 = some 0 ∧ s.image? 1 = some { masterImage false with accesses := 1 } ∧
     Image.kind { masterImage false with accesses := 1 } = .disc)) := by decide +kernel

theorem witness_clear_tower_empties_the_tower_4 :
    (let s := (fun s => withBay { state := .masterRead, tray := .closed } (withDisc (masterAt (.bay 2)) (withImages [{ masterImage true with accesses := 1 }] s))) (asking 20 7 ([]))
     ((s.port 0).holdsRequest (requestFrame 20 7 ([])) = true ∧ s.disc 0 = some (masterAt (.bay 2)) ∧
     s.discAt (.bay 2) = some 0 ∧ s.masterOf 1 = some 0 ∧ s.image? 1 = some { masterImage true with accesses := 1 } ∧
     Image.kind { masterImage true with accesses := 1 } = .disc)) := by decide +kernel

theorem witness_clear_tower_empties_the_tower_5 :
    (let s := (fun s => { withBay { state := .fault, tray := .closed, offline := some .client } s with psc.state := .reserved, jsc.jobs := [{ job .burnOnly .off with state := .draining, drain := some .soft, loads := 1 }] }) (asking 20 7 ([]))
     ((s.port 0).holdsRequest (requestFrame 20 7 ([])) = true ∧ (s.bay 2).state = .fault ∧
     (s.bay 2).offline.isSome = true ∧ s.discAt (.bay 2) = none ∧ s.psc.state = .reserved ∧
     (s.job? 1).any Job.live = false)) ∧
    (let s := (fun s => { withDisc { copyAt .printer with verdict := .good } s with psc.state := .loaded, psc.step := some .leaving }) (asking 20 7 ([]))
     ((s.port 0).holdsRequest (requestFrame 20 7 ([])) = true ∧ s.psc.state = .loaded ∧
     s.disc 0 = some { copyAt .printer with verdict := .good })) := by decide +kernel

theorem witness_the_printer_is_serviced_1 :
    (let s := asking 22 7 ([])
     (s.psc.state ≠ .inkOut ∧ s.psc.state ≠ .jammed ∧ (s.port 0).holdsRequest (requestFrame 22 7 ([])) = true)) ∧
    (let s := (fun s => { s with psc.state := .jammed, psc.sense := some .sweep }) (asking 22 7 ([]))
     (s.psc.state = .jammed ∧ s.psc.sense.isSome = true ∧ (s.port 0).holdsRequest (requestFrame 22 7 ([])) = true)) ∧
    (let s := (fun s => { s with psc.state := .inkOut }) (asking 22 7 ([]))
     (s.psc.state = .inkOut ∧ s.psc.sense = none ∧
     (s.port 0).holdsRequest (requestFrame 22 7 ([])) = true)) := by decide +kernel

theorem witness_the_printer_is_serviced_2 :
    (let s := (fun s => { (s.modPort 0 (fun x => { x with waiting := true })) with psc.state := .jammed, psc.sense := some .service, psc.timer := some 60000, psc.servicePort := some 0, tsq.phase := .running }) (asking 22 7 ([]))
     (s.psc.sense = some .service ∧ s.psc.servicePort = some 0 ∧ (s.port 0).waiting = true ∧ s.tsq.phase = .running ∧
     (s.discAt .printer).isSome ≠ true)) ∧
    (let s := (fun s => { (s.modPort 0 (fun x => { x with waiting := true })) with psc.state := .jammed, psc.sense := some .service, psc.timer := some 60000, psc.servicePort := some 0, tsq.phase := .running }) (asking 22 7 ([]))
     (s.discAt .printer = none ∧ s.psc.reservedFor = none ∧ s.psc.sense = some .service ∧ s.psc.servicePort = some 0 ∧
     (s.port 0).waiting = true ∧ s.tsq.phase = .running)) := by decide +kernel

theorem witness_the_printer_is_serviced_3 :
    (let s := (fun s => { (s.modPort 0 (fun x => { x with waiting := true })) with psc.state := .jammed, psc.sense := some .service, psc.timer := some 60000, psc.servicePort := some 0, tsq.phase := .running }) (asking 22 7 ([]))
     (s.psc.state = .jammed ∧ s.psc.timer.isSome = true ∧ s.psc.sense = some .service ∧ s.psc.servicePort = some 0 ∧
     (s.port 0).waiting = true ∧ s.tsq.phase = .running)) ∧
    (let s := { State.reset with psc.sense := some .sweep, psc.timer := some 60000, tsq.phase := .sweeping .printer }
     (s.psc.sense = some .sweep ∧ s.psc.state ≠ .printing)) ∧
    (let s := State.reset
     (s.psc.sense = none)) := by decide +kernel

theorem witness_the_printer_is_serviced_4 :
    (let s := { copyOnTray {} with psc.state := .jammed, psc.sense := some .sweep, psc.timer := some 60000, tsq.phase := .sweeping .printer }
     (s.psc.sense = some .sweep ∧ s.psc.state = .jammed)) ∧
    (let s := { State.reset with psc.sense := some .sweep, psc.timer := some 60000, tsq.phase := .sweeping .printer }
     (s.psc.sense = some .sweep ∧ s.psc.state = .vacant)) ∧
    (let s := (fun s => { s with psc := { s.psc with state := .inkOut, sense := some .service, timer := some 60000, servicePort := some 0 }, tsq.phase := .running, ports := s.ports.set 0 { (s.port 0) with waiting := true } }) (asking 22 7 ([]))
     (s.psc.sense = some .service ∧ s.psc.servicePort = some 0 ∧ (s.port 0).waiting = true ∧ s.tsq.phase = .running ∧
     s.psc.state = .inkOut ∧ s.psc.timer.isSome = true)) := by decide +kernel

theorem witness_the_printer_is_serviced_5 :
    (let s := (fun s => (fun s => { withDisc ({ copyAt .printer with verdict := .reject, cause := some .cancelled, steps.print := true }) (withJob (job .printThenBurn .off) (withImages [labelImage] s)) with tsq.queue := [{ cls := .clear, source := .printer, dest := .bay 2, disc := some 0, time := 0 }], tsq.arm.state := .fault }) ((fun s => { s with psc := { s.psc with state := .jammed, sense := some .service, timer := some 60000, servicePort := some 0 }, tsq.phase := .running, ports := s.ports.set 0 { (s.port 0) with waiting := true } }) s)) (asking 22 7 ([]))
     (s.psc.sense = some .service ∧ s.psc.servicePort = some 0 ∧ (s.port 0).waiting = true ∧ s.tsq.phase = .running ∧
     s.psc.state = .jammed ∧ s.discAt .printer = some 0 ∧
     s.disc 0 = some ({ copyAt .printer with verdict := .reject, cause := some .cancelled, steps.print := true }) ∧
     s.tsq.arm.move = none)) := by decide +kernel

theorem witness_the_printer_is_serviced_6 :
    (let s := (fun s => (fun s => { withDisc ({ copyAt .printer with verdict := .reject, cause := some .cancelled, steps.print := true }) (withJob (job .printThenBurn .off) (withImages [labelImage] s)) with tsq.queue := [], tsq.arm.state := .fault }) ((fun s => { s with psc := { s.psc with state := .inkOut, sense := some .service, timer := some 60000, servicePort := some 0 }, tsq.phase := .running, ports := s.ports.set 0 { (s.port 0) with waiting := true } }) s)) (asking 22 7 ([]))
     (s.psc.sense = some .service ∧ s.psc.servicePort = some 0 ∧ (s.port 0).waiting = true ∧ s.tsq.phase = .running ∧
     s.psc.state = .inkOut ∧ s.discAt .printer = some 0 ∧
     s.disc 0 = some ({ copyAt .printer with verdict := .reject, cause := some .cancelled, steps.print := true }) ∧
     s.tsq.arm.move = none)) := by decide +kernel

theorem witness_the_printer_is_serviced_7 :
    (let s := (fun s => (fun s => { withDisc ({ copyAt .printer with verdict := .good, steps.print := true }) (withJob (job .printOnly .off) (withImages [labelImage] s)) with tsq.queue := [], tsq.arm.state := .fault }) ((fun s => { s with psc := { s.psc with state := .jammed, sense := some .service, timer := some 60000, servicePort := some 0 }, tsq.phase := .running, ports := s.ports.set 0 { (s.port 0) with waiting := true } }) s)) (asking 22 7 ([]))
     (s.psc.sense = some .service ∧ s.psc.servicePort = some 0 ∧ (s.port 0).waiting = true ∧ s.tsq.phase = .running ∧
     s.psc.state = .jammed ∧ s.discAt .printer = some 0 ∧
     s.disc 0 = some ({ copyAt .printer with verdict := .good, steps.print := true }) ∧
     s.hasEntry 0 = false)) := by decide +kernel

theorem witness_the_printer_is_serviced_8 :
    (let s := (fun s => (fun s => { withDisc (copyAt .printer) (withJob (job .printOnly .off) (withImages [labelImage] s)) with tsq.queue := [], tsq.arm.state := .fault }) ((fun s => { s with psc := { s.psc with state := .inkOut, sense := some .service, timer := some 60000, servicePort := some 0 }, tsq.phase := .running, ports := s.ports.set 0 { (s.port 0) with waiting := true } }) s)) (asking 22 7 ([]))
     (s.psc.sense = some .service ∧ s.psc.servicePort = some 0 ∧ (s.port 0).waiting = true ∧ s.tsq.phase = .running ∧
     s.psc.state = .inkOut ∧ s.discAt .printer = some 0 ∧ s.disc 0 = some (copyAt .printer) ∧
     s.jobOf (copyAt .printer) = some (job .printOnly .off) ∧
     nextStep (job .printOnly .off) (copyAt .printer) = some .print ∧ s.image? 2 = some labelImage ∧
     s.psc.cacheTag ≠ some 2)) := by decide +kernel

theorem witness_the_printer_is_serviced_9 :
    (let s := { copyOnTray { state := .loaded, step := some .leaving, sense := some .sweep, timer := some 60000 } with tsq.phase := .sweeping .printer }
     (s.psc.sense = some .sweep ∧ s.psc.state ≠ .printing ∧ s.psc.timer.isSome = true)) := by decide +kernel

theorem witness_bookings_come_and_go_1 :
    (let s := asking 23 7 (u8 7 ++ u16 1 ++ u16 9 ++ u8 1)
     (eventKindOf 7 = some .inkLow ∧ actionOf 1 = some .notify ∧ (1 : Nat) ≠ 0 ∧ 6 < EventKind.inkLow.code ∧
     (s.port 0).holdsRequest (requestFrame 23 7 (u8 7 ++ u16 1 ++ u16 9 ++ u8 1)) = true)) ∧
    (let s := (fun s => s.modPort 0 (fun x => { x with bookings := Vector.replicate 8 (some { kind := .jobDone, scope := none, tag := 0, action := .notify }) })) (asking 23 7 (u8 6 ++ u16 1 ++ u16 9 ++ u8 2))
     (eventKindOf 6 = some .printerJam ∧ actionOf 2 = some .notifyHold ∧ EventKind.printerJam.code ≤ 6 ∧
     (∀ i : Fin 8, (s.port 0).bookings[i].isSome = true) ∧
     (s.port 0).holdsRequest (requestFrame 23 7 (u8 6 ++ u16 1 ++ u16 9 ++ u8 2)) = true)) := by decide +kernel

theorem witness_bookings_come_and_go_2 :
    (let s := asking 23 7 (u8 6 ++ u16 1 ++ u16 9 ++ u8 2)
     (eventKindOf 6 = some .printerJam ∧ actionOf 2 = some .notifyHold ∧ EventKind.printerJam.code ≤ 6 ∧
     (s.port 0).bookings[(0 : Fin 8)] = none ∧ (∀ h < (0 : Fin 8), (s.port 0).bookings[h].isSome = true) ∧
     (s.port 0).holdsRequest (requestFrame 23 7 (u8 6 ++ u16 1 ++ u16 9 ++ u8 2)) = true)) ∧
    (let s := (fun s => s.modPort 0 (fun x => { x with bookings := Vector.replicate 8 (some { kind := .jobDone, scope := none, tag := 0, action := .notify }) })) (asking 24 7 (u8 255))
     ((s.port 0).holdsRequest (requestFrame 24 7 (u8 255)) = true)) ∧
    (let s := asking 24 7 (u8 8)
     (7 < 8 ∧ (8 : Nat) ≠ 255 ∧ (s.port 0).holdsRequest (requestFrame 24 7 (u8 8)) = true)) := by decide +kernel

theorem witness_bookings_come_and_go_3 :
    (let s := asking 24 7 (u8 7)
     (7 = (7 : Fin 8).val ∧ (s.port 0).bookings[(7 : Fin 8)] = none ∧
     (s.port 0).holdsRequest (requestFrame 24 7 (u8 7)) = true)) ∧
    (let s := (fun s => s.modPort 0 (fun x => { x with bookings := Vector.replicate 8 (some { kind := .jobDone, scope := none, tag := 0, action := .notify }) })) (asking 24 7 (u8 7))
     (7 = (7 : Fin 8).val ∧ (s.port 0).bookings[(7 : Fin 8)].isSome = true ∧
     (s.port 0).holdsRequest (requestFrame 24 7 (u8 7)) = true)) := by decide +kernel

theorem witness_notices_are_fetched_in_order :
    (let s := asking 25 7 ([])
     ((s.port 0).holdsRequest (requestFrame 25 7 ([])) = true)) ∧
    (let s := asking 26 7 (u8 3)
     ((3 : Nat) = 3 ∧ true = (s.port 0).attention ∧
     (s.port 0).holdsRequest (requestFrame 26 7 (u8 3)) = true)) := by decide +kernel

theorem witness_a_full_notice_queue_drops_the_newest_1 :
    (let s := State.reset.modPort 0 (fun x => { x with bookings := x.bookings.set 3 (some { kind := .doorOpen, scope := none, tag := 5, action := .notify }), notices := List.replicate 15 { kind := .doorOpen, tag := 5, subject := .none, detail := .none } })
     ((s.port 0).booked = [{ kind := .doorOpen, scope := none, tag := 5, action := .notify }] ∧
     Booking.matchesEvent { kind := .doorOpen, scope := none, tag := 5, action := .notify } { kind := .doorOpen, subject := .none, detail := .none } = true ∧ (s.port 0).notices.length = 15)) ∧
    (let s := State.reset.modPort 0 (fun x => { x with bookings := x.bookings.set 3 (some { kind := .doorOpen, scope := none, tag := 5, action := .notify }), notices := List.replicate 16 { kind := .doorOpen, tag := 5, subject := .none, detail := .none } })
     ((s.port 0).booked = [{ kind := .doorOpen, scope := none, tag := 5, action := .notify }] ∧
     Booking.matchesEvent { kind := .doorOpen, scope := none, tag := 5, action := .notify } { kind := .doorOpen, subject := .none, detail := .none } = true ∧ (s.port 0).notices.length = 16)) := by decide +kernel

theorem witness_a_full_notice_queue_drops_the_newest_2 :
    (let s := State.reset.modPort 0 (fun x => { x with bookings := (x.bookings.set 1 (some { kind := .copyRejected, scope := some 1, tag := 11, action := .notifyHold })).set 3 (some { kind := .copyRejected, scope := none, tag := 12, action := .notify }), notices := List.replicate 15 { kind := .doorOpen, tag := 5, subject := .none, detail := .none } })
     ((s.port 0).booked = [{ kind := .copyRejected, scope := some 1, tag := 11, action := .notifyHold }, { kind := .copyRejected, scope := none, tag := 12, action := .notify }])) := by decide +kernel

theorem witness_a_full_notice_queue_drops_the_newest_3 :
    (let s := (withJob (job .burnOnly .off) State.reset).modPort 0 (fun x => { x with bookings := x.bookings.set 1 (some { kind := .copyRejected, scope := some 1, tag := 11, action := .notifyHold }) }) |>.modPort 3 (fun x => { x with bookings := x.bookings.set 1 (some { kind := .jobHeld, scope := none, tag := 13, action := .notify }) })
     (s.job? 1 = some (job .burnOnly .off) ∧
     { kind := .copyRejected, scope := some 1, tag := 11, action := .notifyHold } ∈ (s.port 0).booked ∧
     (job .burnOnly .off).owner = 0 ∧ (job .burnOnly .off).live = true ∧
     (job .burnOnly .off).holds.rejectHold = false ∧
     (s.port 3).booked = [{ kind := .jobHeld, scope := none, tag := 13, action := .notify }] ∧
     (s.port 3).notices.length < 16)) := by decide +kernel

theorem witness_a_full_notice_queue_drops_the_newest_4 :
    (let s := (withJob (job .burnOnly .off) State.reset).modPort 3 (fun x => { x with bookings := x.bookings.set 1 (some { kind := .copyRejected, scope := some 1, tag := 11, action := .notifyHold }) })
     (s.job? 1 = some (job .burnOnly .off) ∧ (∀ p : PortId, p ≠ 3 → (s.port p).booked = []) ∧
     (job .burnOnly .off).owner ≠ 3 ∧ s.holds 3 .manage = false)) := by decide +kernel

theorem witness_writing_a_setting_1 :
    (let s := asking 28 7 (u8 3 ++ u32 3)
     (s.sst.working.put 3 3 = none ∧ (s.port 0).holdsRequest (requestFrame 28 7 (u8 3 ++ u32 3)) = true)) ∧
    (let s := (fun s => s.setGrant 0 (some { kind := .write, cls := .L, step := 4, rate := 300, phase := .settled })) (asking 28 7 (u8 1 ++ u32 96000))
     ((s.sst.working.put 1 96000).isSome = true ∧ s.rgu.idle = false ∧
     (s.port 0).holdsRequest (requestFrame 28 7 (u8 1 ++ u32 96000)) = true)) ∧
    (let s := asking 28 7 (u8 12 ++ u32 60)
     ((s.sst.working.put 12 60).isSome = true ∧ 12 ≤ 12 ∧
     (s.port 0).holdsRequest (requestFrame 28 7 (u8 12 ++ u32 60)) = true)) := by decide +kernel

theorem witness_writing_a_setting_2 :
    (let s := asking 28 7 (u8 3 ++ u32 8)
     ((s.sst.working.put 3 8).isSome = true ∧ 3 ≤ 3 ∧
     (s.port 0).holdsRequest (requestFrame 28 7 (u8 3 ++ u32 8)) = true)) ∧
    (let s := (fun s => s.modPort 0 (fun x => { x with bookings := Vector.replicate 8 (some { kind := .jobDone, scope := none, tag := 0, action := .notify }) })) (asking 28 7 (u8 16 ++ u32 7))
     ((s.sst.working.put 16 7).isSome = true ∧ 16 = 13 + (3 : PortId).val ∧
     (s.port 0).holdsRequest (requestFrame 28 7 (u8 16 ++ u32 7)) = true)) ∧
    (let s := asking 28 7 (u8 1 ++ u32 24500)
     ((s.sst.working.put 1 24500).isSome = true ∧ s.rgu.idle = true ∧
     (s.port 0).holdsRequest (requestFrame 28 7 (u8 1 ++ u32 24500)) = true)) := by decide +kernel

theorem witness_writing_a_setting_3 :
    (let s := asking 28 7 (u8 2 ++ u32 99999)
     ((s.sst.working.put 2 99999).isSome = true ∧ s.rgu.idle = true ∧
     (s.port 0).holdsRequest (requestFrame 28 7 (u8 2 ++ u32 99999)) = true)) := by decide +kernel

theorem witness_a_save_ends_with_its_answer_1 :
    (let s := (fun s => { s with sst.save := some { snapshot := {}, number := 0, port := 1 } }) (asking 29 7 ([]))
     (s.sst.save.isSome = true ∧ (s.port 0).holdsRequest (requestFrame 29 7 ([])) = true)) ∧
    (let s := asking 29 7 ([])
     (s.sst.save = none ∧ (s.port 0).holdsRequest (requestFrame 29 7 ([])) = true)) ∧
    (let s := (fun s => { (s.modPort 0 (fun x => { x with waiting := true })) with sst.last := .B, sst.save := some { snapshot := {}, number := 0, port := 0 } }) (asking 29 7 ([]))
     (s.sst.save = some { snapshot := {}, number := 0, port := 0 } ∧ s.sst.last = .B ∧ (s.port 0).waiting = true)) ∧
    (let s := (fun s => { (s.modPort 0 (fun x => { x with waiting := true })) with sst.last := .B, sst.save := some { snapshot := {}, number := 0, port := 0 } }) (asking 29 7 ([]))
     (s.sst.last = .B ∧ (s.port 0).waiting = true)) := by decide +kernel

theorem witness_a_save_ends_with_its_answer_2 :
    (let s := (fun s => { (s.modPort 0 (fun x => { x with waiting := true })) with sst.last := .B, sst.save := some { snapshot := {}, number := 0, port := 0 } }) (asking 29 7 ([]))
     (s.sst.last = .B ∧ (s.port 0).waiting = true)) ∧
    (let s := (fun s => { (s.modPort 0 (fun x => { x with waiting := true })) with sst.last := .A, sst.save := some { snapshot := {}, number := 0, port := 0 } }) (asking 29 7 ([]))
     (s.sst.save = some { snapshot := {}, number := 0, port := 0 } ∧ s.sst.last = .A ∧ (s.port 0).waiting = true)) ∧
    (let s := (fun s => { (s.modPort 0 (fun x => { x with waiting := true })) with sst.last := .A, sst.save := some { snapshot := {}, number := 0, port := 0 } }) (asking 29 7 ([]))
     (s.sst.last = .A ∧ (s.port 0).waiting = true)) ∧
    (let s := (fun s => { (s.modPort 0 (fun x => { x with waiting := true })) with sst.last := .A, sst.save := some { snapshot := {}, number := 0, port := 0 } }) (asking 29 7 ([]))
     (s.sst.last = .A ∧ (s.port 0).waiting = true)) := by decide +kernel

theorem witness_block_frames_are_accepted_in_order_1 :
    (1026 < 1027) ∧
    (let s := withImages [fillingImage 2 1] State.reset
     (s.image? 1 = some (fillingImage 2 1) ∧ 1027 ≤ 1027 ∧ s.ipt.fifo.length < 32 ∧ (fillingImage 2 1).length ≤ 4)) ∧
    (let s := withImages [fillingImage 2 1] State.reset
     (s.image? 1 = some (fillingImage 2 1) ∧ 1027 ≤ 1027 ∧ s.ipt.fifo.length < 32 ∧
     (fillingImage 2 1).state = .filling ∧ (fillingImage 2 1).source = .intake ∧ 1 < (fillingImage 2 1).length ∧
     1 < (fillingImage 2 1).accepted)) := by decide +kernel

theorem witness_block_frames_are_accepted_in_order_2 :
    (let s := withImages [fillingImage 2 1] State.reset
     (s.image? 1 = some (fillingImage 2 1) ∧ 1027 ≤ 1027 ∧ s.ipt.fifo.length < 32 ∧ 3 < (fillingImage 2 1).length ∧
     (fillingImage 2 1).accepted < 3)) ∧
    (let s := withImages [fillingImage 2 1] State.reset
     (s.image? 1 = some (fillingImage 2 1) ∧ 1027 ≤ 1027 ∧ s.ipt.fifo.length < 32 ∧ 2 < (fillingImage 2 1).length ∧
     2 = (fillingImage 2 1).accepted)) := by decide +kernel

theorem witness_a_write_stores_its_block_1 :
    (let s := serving (.intake { image := 1, index := 1, data := 5 }) (withImages [{ fillingImage 2 1 with accesses := 1 }] { State.reset with ipt.fifo := [{ image := 1, index := 1, data := 5 }], ipt.writing := true })
     (s.image? 1 = some { fillingImage 2 1 with accesses := 1 } ∧ (fillingImage 2 1).extents[1 / 4096]? = some 0 ∧
     s.smc.serving = some (.intake { image := 1, index := 1, data := 5 }) ∧ (fillingImage 2 1).readDone = false)) ∧
    (let s := serving (.master { image := 1, index := 1, data := 5 }) (withImages [{ masterImage false with accesses := 1 }] State.reset)
     (s.image? 1 = some { masterImage false with accesses := 1 } ∧ (masterImage false).extents[1 / 4096]? = some 0 ∧
     s.smc.serving = some (.master { image := 1, index := 1, data := 5 }))) := by decide +kernel

theorem witness_a_write_stores_its_block_2 :
    (let s := serving (.master { image := 1, index := 1, data := 5 }) (masterInBay { masterImage true with accesses := 2 } { state := .masterRead, tray := .closed, masterReported := true, masterHeld := true, masterNext := 2, holding := [{ index := 0, status := .ok, data := 4 }, { index := 1, status := .ok, data := 5 }] })
     (s.image? 1 = some { masterImage true with accesses := 2 } ∧
     Image.extents { masterImage true with accesses := 2 } = [0] ∧
     s.smc.serving = some (.master { image := 1, index := 1, data := 5 }) ∧
     1 < Image.accesses { masterImage true with accesses := 2 } ∧
     Image.source { masterImage true with accesses := 2 } = .master (some 2) ∧ (s.bay 2).state = .masterRead ∧
     s.masterImageAt 2 = some 1 ∧ (s.bay 2).masterHeld = true ∧
     ((s.bay 2).holding.filter (fun (b : HeldBlock) => b.index != 1)).length < 2)) := by decide +kernel

theorem witness_a_write_stores_its_block_3 :
    (let s := serving (.master { image := 1, index := 1, data := 5 }) (withBay { state := .masterRead, tray := .closed, masterReported := true, masterHeld := true, masterNext := 2, holding := [{ index := 0, status := .ok, data := 4 }, { index := 1, status := .ok, data := 5 }] } (withDisc { masterAt (.bay 2) with image := some 3 } (withImages [{ masterImage false with accesses := 1, state := .lost }, { masterImage false with number := 3 }] State.reset)))
     (s.image? 1 = some { masterImage false with accesses := 1, state := .lost } ∧
     Image.state { masterImage false with accesses := 1, state := .lost } ≠ .filling ∧
     Image.source { masterImage false with accesses := 1, state := .lost } = .master (some 2) ∧
     (s.bay 2).state = .masterRead ∧ s.masterImageAt 2 = some 3 ∧
     s.smc.serving = some (.master { image := 1, index := 1, data := 5 }))) := by decide +kernel

theorem witness_a_period_pays_for_what_it_issues :
    (let s := withStream (stream 0 0) (withImages [readyImage] State.reset)
     (s.stream 2 = some (stream 0 0) ∧ (stream 0 0).reread = none ∧ 13000 ≤ s.sst.working.budget)) ∧
    (let s := withStream { stream 5 0 with reread := some 5 } (withImages [readyImage] State.reset)
     (s.stream 2 = some { stream 5 0 with reread := some 5 })) := by decide +kernel

theorem witness_a_burst_reaches_the_fifo_in_order_1 :
    (let s := withStream (stream 8 8) (serving (.feed (burst (.stream 2) 0 8)) (copyInBay .off { state := .prefill, tray := .closed }))
     (s.smc.serving = some (.feed (burst (.stream 2) 0 8)) ∧ s.readInside (burst (.stream 2) 0 8) = true ∧
     s.stream 2 = some (stream 8 8) ∧ 8 < (stream 8 8).stop ∧ s.image? 1 = some readyImage ∧
     readyImage.state = .ready ∧ (s.bay 2).state = .prefill ∧
     (s.bay 2).fifo.length + 8 < min 48 (s.lengthAt 2))) := by decide +kernel

theorem witness_a_burst_reaches_the_fifo_in_order_2 :
    (let s := withStream (stream 8 1) (serving (.feed (burst (.stream 2) 0 1)) (copyInBay .off { state := .prefill, tray := .closed }))
     (s.smc.serving = some (.feed (burst (.stream 2) 0 1)) ∧ s.readInside (burst (.stream 2) 0 1) = true ∧
     s.stream 2 = some (stream 8 1) ∧ (burst (.stream 2) 0 1).count = 1)) := by decide +kernel

theorem witness_a_burst_reaches_the_fifo_in_order_3 :
    (let s := withStream (stream 8 8) (serving (.feed (burst (.stream 2) 0 8)) (copyInBay .off { state := .prefill, tray := .closed }))
     (s.smc.serving = some (.feed (burst (.stream 2) 0 8)) ∧ s.readInside (burst (.stream 2) 0 8) = true ∧
     s.stream 2 = some (stream 8 8) ∧ 8 < (stream 8 8).stop ∧ s.image? 1 = some readyImage ∧
     readyImage.state = .ready ∧ 2 < 8 ∧ (s.bay 2).state = .prefill ∧
     (s.bay 2).fifo.length + 2 < min 48 (s.lengthAt 2) ∧
     List.getD ([.clean, .oneBit, .twoBits, .twoBits] : List WordDamage) 2 .clean = .twoBits ∧
     (∀ i < 2, List.getD ([.clean, .oneBit, .twoBits, .twoBits] : List WordDamage) i .clean ≠ .twoBits))) := by decide +kernel

theorem witness_a_burst_reaches_the_fifo_in_order_4 :
    (let s := (fun s => { withImages [{ readyImage with length := 1000, accesses := 1 }] s with rgu.queue := [{ bay := 3, kind := .write, cls := .M, requested := 16, minimum := none }] }) ((withStream { stream 48 1 with stop := 1000 } (serving (.feed (burst (.stream 2) 47 1)) (copyInBay .off { tray := .closed, fifo := (List.range 47).map (fun i => { index := i, data := BitVec.ofNat 16384 i }), state := .prefill }))).setGrant 2 (some { kind := .write, cls := .L, step := 48, rate := 3600, phase := .settled }))
     (s.smc.serving = some (.feed (burst (.stream 2) 47 1)) ∧ s.readInside (burst (.stream 2) 47 1) = true ∧
     s.stream 2 = some { stream 48 1 with stop := 1000 } ∧
     s.image? 1 = some { readyImage with length := 1000, accesses := 1 } ∧
     Image.state { readyImage with length := 1000, accesses := 1 } = .ready ∧ s.waits 2 = false ∧ s.lengthAt 2 = 1000 ∧
     (s.bay 2).fifo.length = 47 ∧ (s.bay 2).sentBlocks + (47 + 1) ≤ s.lengthAt 2 ∧ (s.bay 2).state = .prefill ∧
     (s.bay 2).refillHold = false ∧ (s.bay 2).fifo.length < min 48 (s.lengthAt 2) ∧
     min 48 (s.lengthAt 2) ≤ (s.bay 2).fifo.length + 1)) := by decide +kernel

theorem witness_a_burst_reaches_the_fifo_in_order_5 :
    (let s := (fun s => { withImages [{ readyImage with length := 3, accesses := 1 }] s with rgu.queue := [{ bay := 3, kind := .write, cls := .M, requested := 16, minimum := none }] }) ((withStream { stream 3 2 with stop := 3 } (serving (.feed (burst (.stream 2) 1 2)) (copyInBay .off { tray := .closed, fifo := (List.range 1).map (fun i => { index := i, data := BitVec.ofNat 16384 i }), state := .prefill, wantCredit := 2 }))).setGrant 2 (some { kind := .write, cls := .L, step := 48, rate := 3600, phase := .settled }))
     (s.smc.serving = some (.feed (burst (.stream 2) 1 2)) ∧ s.readInside (burst (.stream 2) 1 2) = true ∧
     s.stream 2 = some { stream 3 2 with stop := 3 } ∧
     s.image? 1 = some { readyImage with length := 3, accesses := 1 } ∧
     Image.state { readyImage with length := 3, accesses := 1 } = .ready ∧ s.waits 2 = false ∧ s.lengthAt 2 = 3 ∧
     (s.bay 2).fifo.length = 1 ∧ (s.bay 2).sentBlocks + (1 + 2) ≤ s.lengthAt 2 ∧ (s.bay 2).state = .prefill ∧
     (s.bay 2).refillHold = false ∧ (s.bay 2).fifo.length < min 48 (s.lengthAt 2) ∧
     min 48 (s.lengthAt 2) ≤ (s.bay 2).fifo.length + 2 ∧ (s.bay 2).wantCredit = 2)) := by decide +kernel

theorem witness_a_burst_reaches_the_fifo_in_order_6 :
    (let s := (fun s => { withImages [{ readyImage with length := 3, accesses := 1 }] s with rgu.queue := [{ bay := 3, kind := .write, cls := .M, requested := 16, minimum := none }] }) ((withStream { stream 3 2 with stop := 3 } (serving (.feed (burst (.stream 2) 1 2)) (copyInBay .off { tray := .closed, fifo := (List.range 1).map (fun i => { index := i, data := BitVec.ofNat 16384 i }), state := .prefill, wantCredit := 3 }))).setGrant 2 (some { kind := .write, cls := .L, step := 48, rate := 3600, phase := .settled }))
     (s.smc.serving = some (.feed (burst (.stream 2) 1 2)) ∧ s.readInside (burst (.stream 2) 1 2) = true ∧
     s.stream 2 = some { stream 3 2 with stop := 3 } ∧
     s.image? 1 = some { readyImage with length := 3, accesses := 1 } ∧
     Image.state { readyImage with length := 3, accesses := 1 } = .ready ∧ s.waits 2 = false ∧ s.lengthAt 2 = 3 ∧
     (s.bay 2).fifo.length = 1 ∧ (s.bay 2).sentBlocks + (1 + 2) ≤ s.lengthAt 2 ∧ (s.bay 2).state = .prefill ∧
     (s.bay 2).refillHold = false ∧ (s.bay 2).fifo.length < min 48 (s.lengthAt 2) ∧
     min 48 (s.lengthAt 2) ≤ (s.bay 2).fifo.length + 2)) := by decide +kernel

theorem witness_a_burst_reaches_the_fifo_in_order_7 :
    (let s := (fun s => { withImages [{ readyImage with length := 1000, accesses := 1 }] s with rgu.queue := [{ bay := 3, kind := .write, cls := .M, requested := 16, minimum := none }] }) ((withStream { stream 18 8 with stop := 1000 } (serving (.feed (burst (.stream 2) 10 8)) (copyInBay .off { tray := .closed, fifo := (List.range 10).map (fun i => { index := i, data := BitVec.ofNat 16384 i }), state := .writing, refillHold := true, wantCredit := 4 }))).setGrant 2 (some { kind := .write, cls := .L, step := 48, rate := 3600, phase := .settled }))
     (s.smc.serving = some (.feed (burst (.stream 2) 10 8)) ∧ s.readInside (burst (.stream 2) 10 8) = true ∧
     s.stream 2 = some { stream 18 8 with stop := 1000 } ∧
     s.image? 1 = some { readyImage with length := 1000, accesses := 1 } ∧
     Image.state { readyImage with length := 1000, accesses := 1 } = .ready ∧ s.waits 2 = false ∧ s.lengthAt 2 = 1000 ∧
     (s.bay 2).fifo.length = 10 ∧ (s.bay 2).sentBlocks + (10 + 8) ≤ s.lengthAt 2 ∧ (s.bay 2).state = .writing ∧
     (s.bay 2).refillHold = true ∧ 10 + 8 < min 32 (s.lengthAt 2 - (s.bay 2).sentBlocks))) := by decide +kernel

theorem witness_a_burst_reaches_the_fifo_in_order_8 :
    (let s := (fun s => { withImages [{ readyImage with length := 1000, accesses := 1 }] s with rgu.queue := [{ bay := 3, kind := .write, cls := .M, requested := 16, minimum := none }] }) ((withStream { stream 38 8 with stop := 1000 } (serving (.feed (burst (.stream 2) 30 8)) (copyInBay .off { tray := .closed, fifo := (List.range 30).map (fun i => { index := i, data := BitVec.ofNat 16384 i }), state := .writing, refillHold := true, wantCredit := 4 }))).setGrant 2 (some { kind := .write, cls := .L, step := 48, rate := 3600, phase := .settled }))
     (s.smc.serving = some (.feed (burst (.stream 2) 30 8)) ∧ s.readInside (burst (.stream 2) 30 8) = true ∧
     s.stream 2 = some { stream 38 8 with stop := 1000 } ∧
     s.image? 1 = some { readyImage with length := 1000, accesses := 1 } ∧
     Image.state { readyImage with length := 1000, accesses := 1 } = .ready ∧ s.waits 2 = false ∧ s.lengthAt 2 = 1000 ∧
     (s.bay 2).fifo.length = 30 ∧ (s.bay 2).sentBlocks + (30 + 8) ≤ s.lengthAt 2 ∧ (s.bay 2).state = .writing ∧
     (s.bay 2).refillHold = true ∧ min 32 (s.lengthAt 2 - (s.bay 2).sentBlocks) ≤ 30 + 8)) := by decide +kernel

theorem witness_a_burst_reaches_the_fifo_in_order_9 :
    (let s := (fun s => { withImages [{ readyImage with length := 10, accesses := 1 }] s with rgu.queue := [{ bay := 3, kind := .write, cls := .M, requested := 16, minimum := none }] }) ((withStream { stream 10 1 with stop := 10 } (serving (.feed (burst (.stream 2) 0 1)) (copyInBay .off { tray := .closed, fifo := (List.range 0).map (fun i => { index := i, data := BitVec.ofNat 16384 i }), state := .writing, wantCredit := 4, sentBlocks := 9, timers.starve := some 9 }))).setGrant 2 (some { kind := .write, cls := .L, step := 48, rate := 3600, phase := .settled }))
     (s.smc.serving = some (.feed (burst (.stream 2) 0 1)) ∧ s.readInside (burst (.stream 2) 0 1) = true ∧
     s.stream 2 = some { stream 10 1 with stop := 10 } ∧
     s.image? 1 = some { readyImage with length := 10, accesses := 1 } ∧
     Image.state { readyImage with length := 10, accesses := 1 } = .ready ∧ s.waits 2 = false ∧ s.lengthAt 2 = 10 ∧
     (s.bay 2).fifo.length = 0 ∧ (s.bay 2).sentBlocks + (0 + 1) ≤ s.lengthAt 2 ∧ (s.bay 2).state = .writing ∧
     (s.bay 2).sentBlocks = 9)) := by decide +kernel

theorem witness_a_burst_reaches_the_fifo_in_order_10 :
    (let s := (fun s => withDisc (copyAt (.bay 2)) (withImages [{ readyImage with state := .doomed, accesses := 1 }] s)) (withStream { stream 10 1 with stop := 1000 } (serving (.feed (burst (.stream 2) 5 1)) (copyInBay .count { state := .verifying, tray := .closed, engine := { phase := .reading, comparePos := 5, readPos := 7, rangeEnd := some 1000 } })))
     (s.smc.serving = some (.feed (burst (.stream 2) 5 1)) ∧ s.readInside (burst (.stream 2) 5 1) = true ∧
     s.stream 2 = some { stream 10 1 with stop := 1000 } ∧
     s.image? 1 = some { readyImage with state := .doomed, accesses := 1 } ∧
     Image.state { readyImage with state := .doomed, accesses := 1 } ≠ .filling ∧ (s.bay 2).state = .verifying ∧
     (s.bay 2).fifo = [] ∧ (s.verifyCtx 2).map VerifyCtx.mode = some (.count) ∧ s.disc 0 = some (copyAt (.bay 2)) ∧
     (s.bay 2).engine.comparePos = 5 ∧ (s.bay 2).holding = [])) := by decide +kernel

theorem witness_a_burst_reaches_the_fifo_in_order_11 :
    (let s := (fun s => withDisc (copyAt (.bay 2)) (withImages [{ readyImage with state := .ready, accesses := 1 }] s)) (withStream { stream 10 1 with stop := 1000 } (serving (.feed (burst (.stream 2) 5 1)) (copyInBay .count { state := .verifying, tray := .closed, engine := { phase := .reading, comparePos := 5, readPos := 7, rangeEnd := some 1000, held := true }, holding := [{ index := 5, status := .ok, data := 0 }, { index := 6, status := .ok, data := 0 }] })))
     (s.smc.serving = some (.feed (burst (.stream 2) 5 1)) ∧ s.readInside (burst (.stream 2) 5 1) = true ∧
     s.stream 2 = some { stream 10 1 with stop := 1000 } ∧
     s.image? 1 = some { readyImage with state := .ready, accesses := 1 } ∧
     Image.state { readyImage with state := .ready, accesses := 1 } ≠ .filling ∧ (s.bay 2).state = .verifying ∧
     (s.bay 2).fifo = [] ∧ (s.verifyCtx 2).map VerifyCtx.mode = some (.count) ∧ s.disc 0 = some (copyAt (.bay 2)) ∧
     (s.bay 2).engine.comparePos = 5 ∧ (s.bay 2).holding.length = 2 ∧ (s.bay 2).engine.held = true ∧
     nextInVerifySet none 1000 5 < 1000)) := by decide +kernel

theorem witness_a_burst_reaches_the_fifo_in_order_12 :
    (let s := (fun s => withDisc (copyAt (.bay 2)) (withImages [{ readyImage with state := .ready, accesses := 1 }] s)) (withStream { stream 10 1 with stop := 1000 } (serving (.feed (burst (.stream 2) 5 1)) (copyInBay .count { state := .verifying, tray := .closed, engine := { phase := .reading, comparePos := 5, readPos := 7, rangeEnd := some 1000 }, holding := [{ index := 5, status := .ok, data := 9 }] })))
     (s.smc.serving = some (.feed (burst (.stream 2) 5 1)) ∧ s.readInside (burst (.stream 2) 5 1) = true ∧
     s.stream 2 = some { stream 10 1 with stop := 1000 } ∧
     s.image? 1 = some { readyImage with state := .ready, accesses := 1 } ∧
     Image.state { readyImage with state := .ready, accesses := 1 } ≠ .filling ∧ (s.bay 2).state = .verifying ∧
     (s.bay 2).fifo = [] ∧ (s.verifyCtx 2).map VerifyCtx.mode = some (.count) ∧ s.disc 0 = some (copyAt (.bay 2)) ∧
     (s.bay 2).engine.comparePos = 5 ∧ (s.bay 2).holding.length = 1 ∧
     nextInVerifySet none 1000 5 < 1000)) := by decide +kernel

theorem witness_a_burst_reaches_the_fifo_in_order_13 :
    (let s := (fun s => withDisc (copyAt (.bay 2)) (withImages [{ readyImage with state := .ready, accesses := 1 }] s)) (withStream { stream 10 1 with stop := 1000 } (serving (.feed (burst (.stream 2) 5 1)) (copyInBay .retry { state := .verifying, tray := .closed, engine := { phase := .reading, comparePos := 5, readPos := 7, rangeEnd := some 1000 }, holding := [{ index := 5, status := .unreadable, data := 0 }] })))
     (s.smc.serving = some (.feed (burst (.stream 2) 5 1)) ∧ s.readInside (burst (.stream 2) 5 1) = true ∧
     s.stream 2 = some { stream 10 1 with stop := 1000 } ∧
     s.image? 1 = some { readyImage with state := .ready, accesses := 1 } ∧
     Image.state { readyImage with state := .ready, accesses := 1 } ≠ .filling ∧ (s.bay 2).state = .verifying ∧
     (s.bay 2).fifo = [] ∧ (s.verifyCtx 2).map VerifyCtx.mode = some (.retry) ∧ s.disc 0 = some (copyAt (.bay 2)) ∧
     (s.bay 2).engine.comparePos = 5 ∧ (s.bay 2).holding.length = 1 ∧
     (s.bay 2).engine.phase = .reading)) := by decide +kernel

theorem witness_a_burst_reaches_the_fifo_in_order_14 :
    (let s := (fun s => withDisc (copyAt (.bay 2)) (withImages [{ readyImage with state := .ready, accesses := 1 }] s)) (withStream { stream 10 1 with stop := 1000 } (serving (.feed (burst (.stream 2) 5 1)) (copyInBay .retry { state := .verifying, tray := .closed, engine := { phase := .tail, comparePos := 5, readPos := 7, rangeEnd := some 1000 }, holding := [{ index := 5, status := .unreadable, data := 0 }] })))
     (s.smc.serving = some (.feed (burst (.stream 2) 5 1)) ∧ s.readInside (burst (.stream 2) 5 1) = true ∧
     s.stream 2 = some { stream 10 1 with stop := 1000 } ∧
     s.image? 1 = some { readyImage with state := .ready, accesses := 1 } ∧
     Image.state { readyImage with state := .ready, accesses := 1 } ≠ .filling ∧ (s.bay 2).state = .verifying ∧
     (s.bay 2).fifo = [] ∧ (s.verifyCtx 2).map VerifyCtx.mode = some (.retry) ∧ s.disc 0 = some (copyAt (.bay 2)) ∧
     (s.bay 2).engine.comparePos = 5 ∧ (s.bay 2).holding.length = 1 ∧
     (s.bay 2).engine.phase = .tail)) := by decide +kernel

theorem witness_a_burst_reaches_the_fifo_in_order_15 :
    (let s := (fun s => withDisc (copyAt (.bay 2)) (withImages [{ readyImage with state := .ready, accesses := 1 }] s)) (withStream { stream 10 1 with stop := 1000 } (serving (.feed (burst (.stream 2) 5 1)) (copyInBay .stop { state := .verifying, tray := .closed, engine := { phase := .reading, comparePos := 5, readPos := 7, rangeEnd := some 1000 }, holding := [{ index := 5, status := .unreadable, data := 0 }] })))
     (s.smc.serving = some (.feed (burst (.stream 2) 5 1)) ∧ s.readInside (burst (.stream 2) 5 1) = true ∧
     s.stream 2 = some { stream 10 1 with stop := 1000 } ∧
     s.image? 1 = some { readyImage with state := .ready, accesses := 1 } ∧
     Image.state { readyImage with state := .ready, accesses := 1 } ≠ .filling ∧ (s.bay 2).state = .verifying ∧
     (s.bay 2).fifo = [] ∧ (s.verifyCtx 2).map VerifyCtx.mode = some (.stop) ∧ s.disc 0 = some (copyAt (.bay 2)) ∧
     (s.bay 2).engine.comparePos = 5 ∧ (s.bay 2).holding.length = 1 ∧
     (copyAt (.bay 2)).verdict = .pending)) := by decide +kernel

theorem witness_a_burst_reaches_the_fifo_in_order_16 :
    (let s := (fun s => withDisc (copyAt (.bay 2)) (withImages [{ readyImage with state := .ready, accesses := 1 }] s)) (withStream { stream 1000 1 with stop := 1000 } (serving (.feed (burst (.stream 2) 999 1)) (copyInBay .count { state := .verifying, tray := .closed, engine := { phase := .tail, comparePos := 999, readPos := 1001, rangeEnd := some 1000 }, holding := [{ index := 999, status := .ok, data := 0 }] })))
     (s.smc.serving = some (.feed (burst (.stream 2) 999 1)) ∧ s.readInside (burst (.stream 2) 999 1) = true ∧
     s.stream 2 = some { stream 1000 1 with stop := 1000 } ∧
     s.image? 1 = some { readyImage with state := .ready, accesses := 1 } ∧
     Image.state { readyImage with state := .ready, accesses := 1 } ≠ .filling ∧ (s.bay 2).state = .verifying ∧
     (s.bay 2).fifo = [] ∧ (s.verifyCtx 2).map VerifyCtx.mode = some (.count) ∧ s.disc 0 = some (copyAt (.bay 2)) ∧
     (s.bay 2).engine.comparePos = 999 ∧ (s.bay 2).holding.length = 1 ∧ nextInVerifySet none 1000 999 = 1000 ∧
     (copyAt (.bay 2)).verdict = .pending)) := by decide +kernel

theorem witness_a_reread_decides_the_block_1 :
    (let s := withStream { stream 8 1 with reread := some 3 } (serving (.feed (burst (.reread 2) 3 1)) (copyInBay .off { state := .prefill, tray := .closed }))
     (s.smc.serving = some (.feed (burst (.reread 2) 3 1)) ∧ s.readInside (burst (.reread 2) 3 1) = true ∧
     s.stream 2 = some { stream 8 1 with reread := some 3 } ∧ s.image? 1 = some readyImage ∧
     (s.bay 2).state = .prefill ∧ (s.bay 2).fifo.length + 1 < min 48 (s.lengthAt 2))) ∧
    (let s := withStream { stream 8 1 with reread := some 3 } (serving (.feed (burst (.reread 2) 3 1)) (copyInBay .off { state := .prefill, tray := .closed }))
     (s.smc.serving = some (.feed (burst (.reread 2) 3 1)) ∧ s.readInside (burst (.reread 2) 3 1) = true ∧
     s.stream 2 = some { stream 8 1 with reread := some 3 } ∧ s.image? 1 = some readyImage)) := by decide +kernel

theorem witness_a_reread_decides_the_block_2 :
    (let s := (fun s => withDisc (copyAt (.bay 2)) (withImages [{ readyImage with state := .ready, accesses := 1 }] s)) (withStream { stream 1000 1 with stop := 1000, reread := some 999 } (serving (.feed (burst (.reread 2) 999 1)) (copyInBay .count { state := .verifying, tray := .closed, engine := { phase := .tail, comparePos := 999, readPos := 1001, rangeEnd := some 1000 }, holding := [{ index := 999, status := .ok, data := 0 }] })))
     (s.smc.serving = some (.feed (burst (.reread 2) 999 1)) ∧ s.readInside (burst (.reread 2) 999 1) = true ∧
     s.stream 2 = some { stream 1000 1 with stop := 1000, reread := some 999 } ∧
     s.image? 1 = some { readyImage with state := .ready, accesses := 1 } ∧
     Image.state { readyImage with state := .ready, accesses := 1 } ≠ .filling ∧ (s.bay 2).state = .verifying ∧
     (s.bay 2).fifo = [] ∧ (s.verifyCtx 2).map VerifyCtx.mode = some (.count) ∧ s.disc 0 = some (copyAt (.bay 2)) ∧
     (s.bay 2).engine.comparePos = 999 ∧ (s.bay 2).holding.length = 1 ∧ nextInVerifySet none 1000 999 = 1000 ∧
     (copyAt (.bay 2)).verdict = .pending)) := by decide +kernel

theorem witness_a_reread_decides_the_block_3 :
    (let s := (fun s => withDisc (copyAt (.bay 2)) (withImages [{ readyImage with state := .ready, accesses := 1 }] s)) (withStream { stream 1000 1 with stop := 1000, reread := some 999 } (serving (.feed (burst (.reread 2) 999 1)) (copyInBay .count { state := .verifying, tray := .closed, engine := { phase := .tail, comparePos := 999, readPos := 1001, rangeEnd := some 1000 }, holding := [{ index := 999, status := .unreadable, data := 0 }] })))
     (s.smc.serving = some (.feed (burst (.reread 2) 999 1)) ∧ s.readInside (burst (.reread 2) 999 1) = true ∧
     s.stream 2 = some { stream 1000 1 with stop := 1000, reread := some 999 } ∧
     s.image? 1 = some { readyImage with state := .ready, accesses := 1 } ∧
     Image.state { readyImage with state := .ready, accesses := 1 } ≠ .filling ∧ (s.bay 2).state = .verifying ∧
     (s.bay 2).fifo = [] ∧ (s.verifyCtx 2).map VerifyCtx.mode = some (.count) ∧ s.disc 0 = some (copyAt (.bay 2)) ∧
     (s.bay 2).engine.comparePos = 999 ∧ (s.bay 2).holding.length = 1 ∧
     nextInVerifySet none 1000 999 = 1000)) := by decide +kernel

theorem witness_a_reread_decides_the_block_4 :
    (let s := (fun s => withDisc (copyAt (.bay 2)) (withImages [{ readyImage with state := .ready, accesses := 1 }] s)) (withStream { stream 10 1 with stop := 1000, reread := some 5 } (serving (.feed (burst (.reread 2) 5 1)) (copyInBay .count { state := .verifying, tray := .closed, engine := { phase := .reading, comparePos := 5, readPos := 7, rangeEnd := some 1000, held := true }, holding := [{ index := 5, status := .ok, data := 0 }, { index := 6, status := .ok, data := 0 }] })))
     (s.smc.serving = some (.feed (burst (.reread 2) 5 1)) ∧ s.readInside (burst (.reread 2) 5 1) = true ∧
     s.stream 2 = some { stream 10 1 with stop := 1000, reread := some 5 } ∧
     s.image? 1 = some { readyImage with state := .ready, accesses := 1 } ∧
     Image.state { readyImage with state := .ready, accesses := 1 } ≠ .filling ∧ (s.bay 2).state = .verifying ∧
     (s.bay 2).fifo = [] ∧ (s.verifyCtx 2).map VerifyCtx.mode = some (.count) ∧ s.disc 0 = some (copyAt (.bay 2)) ∧
     (s.bay 2).engine.comparePos = 5 ∧ (s.bay 2).holding.length = 2)) := by decide +kernel

theorem witness_a_reread_decides_the_block_5 :
    (let s := (fun s => withImages [{ readyImage with length := 3, accesses := 1 }] s) ((withStream { stream 3 1 with stop := 3, reread := some 2 } (serving (.feed (burst (.reread 2) 2 1)) (copyInBay .off { tray := .closed, fifo := (List.range 2).map (fun i => { index := i, data := BitVec.ofNat 16384 i }), state := .prefill }))).setGrant 2 (some { kind := .write, cls := .L, step := 48, rate := 3600, phase := .settled }))
     (s.smc.serving = some (.feed (burst (.reread 2) 2 1)) ∧ s.readInside (burst (.reread 2) 2 1) = true ∧
     s.stream 2 = some { stream 3 1 with stop := 3, reread := some 2 } ∧
     s.image? 1 = some { readyImage with length := 3, accesses := 1 } ∧ s.waits 2 = false ∧ s.lengthAt 2 = 3 ∧
     (s.bay 2).fifo.length = 2 ∧ (s.bay 2).sentBlocks + (2 + 1) ≤ s.lengthAt 2 ∧ (s.bay 2).state = .prefill ∧
     (s.bay 2).refillHold = false ∧ (s.bay 2).fifo.length < min 48 (s.lengthAt 2))) := by decide +kernel

theorem witness_a_reread_decides_the_block_6 :
    (let s := (fun s => withImages [{ readyImage with length := 1000, accesses := 1 }] s) ((withStream { stream 9 1 with stop := 1000, reread := some 3 } (serving (.feed (burst (.reread 2) 3 1)) (copyInBay .off { tray := .closed, fifo := (List.range 3).map (fun i => { index := i, data := BitVec.ofNat 16384 i }), state := .writing, wantCredit := 9 }))).setGrant 2 (some { kind := .write, cls := .L, step := 48, rate := 3600, phase := .settled }))
     (s.smc.serving = some (.feed (burst (.reread 2) 3 1)) ∧ s.readInside (burst (.reread 2) 3 1) = true ∧
     s.stream 2 = some { stream 9 1 with stop := 1000, reread := some 3 } ∧
     s.image? 1 = some { readyImage with length := 1000, accesses := 1 } ∧ s.waits 2 = false ∧ s.lengthAt 2 = 1000 ∧
     (s.bay 2).fifo.length = 3 ∧ (s.bay 2).sentBlocks + (3 + 1) ≤ s.lengthAt 2 ∧
     (s.bay 2).state = .writing)) := by decide +kernel

theorem witness_artwork_goes_to_the_printer_in_order_1 :
    (let s := serving (.feed { user := .artwork, image := 2, first := 0, count := 7 }) { copyOnTray { state := .loaded, step := some .transfer } with fdr.artwork := some { image := 2, length := 8, next := 7, inFlight := 7 } }
     (s.smc.serving = some (.feed { user := .artwork, image := 2, first := 0, count := 7 }) ∧
     s.readInside { user := .artwork, image := 2, first := 0, count := 7 } = true ∧
     s.fdr.artwork = some { image := 2, length := 8, next := 7, inFlight := 7 } ∧ s.image? 2 = some labelImage ∧
     s.psc.state = .loaded ∧ s.psc.step = some .transfer)) := by decide +kernel

theorem witness_artwork_goes_to_the_printer_in_order_2 :
    (let s := serving (.feed { user := .artwork, image := 2, first := 0, count := 8 }) { copyOnTray { state := .loaded, step := some .transfer } with fdr.artwork := some { image := 2, length := 8, next := 8, inFlight := 8 } }
     (s.smc.serving = some (.feed { user := .artwork, image := 2, first := 0, count := 8 }) ∧
     s.readInside { user := .artwork, image := 2, first := 0, count := 8 } = true ∧
     s.fdr.artwork = some { image := 2, length := 8, next := 8, inFlight := 8 } ∧ s.image? 2 = some labelImage ∧
     s.psc.state = .loaded ∧ s.psc.step = some .transfer)) := by decide +kernel

theorem witness_probes_judge_the_media_1 :
    (let s := State.reset
     ((s.bay 2).state ≠ .probing ∧ (s.bay 2).errand ≠ .sense)) ∧
    (let s := copyInBay .off { state := .probing, tray := .closed, timers.probe := some 20000 }
     ((s.bay 2).state = .probing ∧ (s.bay 2).errand ≠ .sense ∧ s.discAt (.bay 2) = some 0 ∧
     s.disc 0 = some (copyAt (.bay 2)) ∧ s.jobOf (copyAt (.bay 2)) = some (job .burnOnly .off))) := by decide +kernel

theorem witness_probes_judge_the_media_2 :
    (let s := copyInBay .off { state := .probing, tray := .closed, timers.probe := some 20000 }
     ((s.bay 2).state = .probing ∧ (s.bay 2).errand ≠ .sense ∧ s.discAt (.bay 2) = some 0 ∧
     s.disc 0 = some (copyAt (.bay 2)) ∧ s.jobOf (copyAt (.bay 2)) = some (job .burnOnly .off) ∧ false = false)) ∧
    (let s := copyInBay .off { state := .probing, tray := .closed, timers.probe := some 20000 }
     ((s.bay 2).state = .probing ∧ (s.bay 2).errand ≠ .sense ∧ s.discAt (.bay 2) = some 0 ∧
     s.disc 0 = some (copyAt (.bay 2)) ∧ s.jobOf (copyAt (.bay 2)) = some (job .burnOnly .off) ∧
     MediaClass.M ≠ .L)) := by decide +kernel

theorem witness_probes_judge_the_media_3 :
    (let s := copyInBay .off { state := .probing, tray := .closed, timers.probe := some 20000 }
     ((s.bay 2).state = .probing ∧ (s.bay 2).errand ≠ .sense ∧ s.discAt (.bay 2) = some 0 ∧
     s.disc 0 = some (copyAt (.bay 2)) ∧ s.jobOf (copyAt (.bay 2)) = some (job .burnOnly .off) ∧
     999 < s.copyLength (copyAt (.bay 2)))) ∧
    (let s := copyInBay .off { state := .probing, tray := .closed, timers.probe := some 20000 }
     ((s.bay 2).state = .probing ∧ (s.bay 2).errand ≠ .sense ∧ s.discAt (.bay 2) = some 0 ∧
     s.disc 0 = some (copyAt (.bay 2)) ∧ s.jobOf (copyAt (.bay 2)) = some (job .burnOnly .off) ∧
     s.copyLength (copyAt (.bay 2)) ≤ 1000)) := by decide +kernel

theorem witness_probes_judge_the_media_4 :
    (let s := withBay { state := .probing, tray := .closed, timers.probe := some 20000 } (withDisc { copyAt (.bay 2) with purpose := .spare, job := none, attempt := none } State.reset)
     ((s.bay 2).state = .probing ∧ (s.bay 2).errand ≠ .sense ∧ s.discAt (.bay 2) = some 0 ∧
     (s.disc 0).map Disc.purpose = some .spare ∧ (s.bay 2).offline = none ∧ blankL.blank = true)) ∧
    (let s := withBay { state := .probing, tray := .closed, timers.probe := some 20000 } (withDisc { copyAt (.bay 2) with purpose := .spare, job := none, attempt := none } State.reset)
     ((s.bay 2).state = .probing ∧ (s.bay 2).errand ≠ .sense ∧ s.discAt (.bay 2) = some 0 ∧
     (s.disc 0).map Disc.purpose = some .spare ∧ (s.disc 0).map Disc.verdict = some .pending)) := by decide +kernel

theorem witness_probes_judge_the_media_5 :
    (let s := masterInBay (masterImage false) { state := .probing, tray := .closed, timers.probe := some 20000 }
     ((s.bay 2).state = .probing ∧ (s.bay 2).errand ≠ .sense ∧ s.discAt (.bay 2) = some 0 ∧
     s.disc 0 = some (masterAt (.bay 2)) ∧ s.image? 1 = some (masterImage false) ∧ s.masterOf 1 = some 0 ∧
     (3 : Nat) ≠ 0 ∧ 3 ≤ (masterImage false).length)) := by decide +kernel

theorem witness_probes_judge_the_media_6 :
    (let s := masterInBay ({ masterImage false with refs := 1 }) { state := .probing, tray := .closed, timers.probe := some 20000 }
     ((s.bay 2).state = .probing ∧ (s.bay 2).errand ≠ .sense ∧ s.discAt (.bay 2) = some 0 ∧
     s.disc 0 = some (masterAt (.bay 2)) ∧ s.image? 1 = some ({ masterImage false with refs := 1 } : Image) ∧
     s.masterOf 1 = some 0 ∧ (masterImage false).kind = .disc)) := by decide +kernel

theorem witness_probes_judge_the_media_7 :
    (let s := masterInBay ({ masterImage false with refs := 1 }) { state := .probing, tray := .closed, timers.probe := some 20000 }
     ((s.bay 2).state = .probing ∧ (s.bay 2).errand ≠ .sense ∧ s.discAt (.bay 2) = some 0 ∧
     s.disc 0 = some (masterAt (.bay 2)) ∧ s.image? 1 = some ({ masterImage false with refs := 1 } : Image) ∧
     s.masterOf 1 = some 0 ∧ (masterImage false).kind = .disc)) := by decide +kernel

theorem witness_probes_judge_the_media_8 :
    (let s := masterInBay ({ masterImage false with refs := 1 }) { state := .probing, tray := .closed, timers.probe := some 20000 }
     ((s.bay 2).state = .probing ∧ (s.bay 2).errand ≠ .sense ∧ s.discAt (.bay 2) = some 0 ∧
     s.disc 0 = some (masterAt (.bay 2)) ∧ s.image? 1 = some ({ masterImage false with refs := 1 } : Image) ∧
     s.masterOf 1 = some 0 ∧ (masterImage false).kind = .disc)) := by decide +kernel

theorem witness_probes_judge_the_media_9 :
    (let s := copyInBay .off { state := .probing, tray := .closed, timers.probe := some 20000 }
     ((s.bay 2).state = .probing ∧ (s.bay 2).errand ≠ .sense ∧ s.discAt (.bay 2) = some 0 ∧ (s.bay 2).offline = none ∧
     s.disc 0 = some (copyAt (.bay 2)) ∧ (copyAt (.bay 2)).purpose = .copy ∧ (copyAt (.bay 2)).job = some 1 ∧
     s.job? 1 = some (job .burnOnly .off) ∧ (job .burnOnly .off).log.length < 16)) := by decide +kernel

theorem witness_probes_judge_the_media_10 :
    (let s := (masterInBay { masterImage false with refs := 1 } { state := .probing, tray := .closed, timers.probe := some 20000 })
     ((s.bay 2).state = .probing ∧ (s.bay 2).errand ≠ .sense ∧ s.discAt (.bay 2) = some 0 ∧ (s.bay 2).offline = none ∧
     s.disc 0 = some (masterAt (.bay 2)) ∧ s.image? 1 = some { masterImage false with refs := 1 } ∧
     (masterImage false).state ≠ .lost ∧ (masterImage false).readDone = false)) := by decide +kernel

theorem witness_a_speed_report_settles_the_grant_1 :
    (let s := State.reset
     ((s.bay 2).speedPending = false)) ∧
    (let s := (copyInBay .off { state := .grantWait, tray := .closed, speedPending := true, timers.speed := some 2000 }).setGrant 2 (some { kind := .write, cls := .L, step := 48, rate := 3600, phase := .speedPending })
     ((s.bay 2).speedPending = true ∧ (s.bay 2).state = .grantWait ∧
     s.grant 2 = some { kind := .write, cls := .L, step := 48, rate := 3600, phase := .speedPending } ∧
     roundUp .write .L 47 = 48 ∧ s.copyAt 2 = some (0, copyAt (.bay 2), job .burnOnly .off, blankL) ∧
     s.discImageOf (job .burnOnly .off) = some readyImage)) := by decide +kernel

theorem witness_a_speed_report_settles_the_grant_2 :
    (let s := (copyInBay .off { state := .grantWait, tray := .closed, speedPending := true, timers.speed := some 2000 }).setGrant 2 (some { kind := .write, cls := .L, step := 24, rate := 1800, phase := .speedPending })
     ((s.bay 2).speedPending = true ∧ (s.bay 2).state = .grantWait ∧
     s.grant 2 = some { kind := .write, cls := .L, step := 24, rate := 1800, phase := .speedPending } ∧
     s.copyAt 2 = some (0, copyAt (.bay 2), job .burnOnly .off, blankL) ∧
     s.discImageOf (job .burnOnly .off) = some readyImage ∧ roundUp .write .L 9 = 16)) := by decide +kernel

theorem witness_a_speed_report_settles_the_grant_3 :
    (let s := (copyInBay .off { state := .grantWait, tray := .closed, speedPending := true, timers.speed := some 2000 }).setGrant 2 (some { kind := .write, cls := .L, step := 24, rate := 1800, phase := .speedPending })
     ((s.bay 2).speedPending = true ∧ (s.bay 2).state = .grantWait ∧
     s.grant 2 = some { kind := .write, cls := .L, step := 24, rate := 1800, phase := .speedPending } ∧
     s.copyAt 2 = some (0, copyAt (.bay 2), job .burnOnly .off, blankL) ∧
     s.discImageOf (job .burnOnly .off) = some readyImage ∧ roundUp .write .L 30 = 32 ∧
     2400 ≤ min (s.sst.working.ceiling - (s.rgu.committedWrite - 1800)) (s.sst.working.budget - (s.rgu.committedTotal - 1800)))) := by decide +kernel

theorem witness_a_speed_report_settles_the_grant_4 :
    (let s := (copyInBay .count { state := .verifyWait, tray := .closed, speedPending := true, timers.speed := some 2000 }).setGrant 2 (some { kind := .verify, cls := .L, step := 24, rate := 1800, phase := .speedPending })
     ((s.bay 2).speedPending = true ∧ (s.bay 2).state = .verifyWait ∧
     s.grant 2 = some { kind := .verify, cls := .L, step := 24, rate := 1800, phase := .speedPending } ∧
     s.copyAt 2 = some (0, copyAt (.bay 2), job .burnOnly .count, blankL) ∧
     s.discImageOf (job .burnOnly .count) = some readyImage ∧ roundUp .verify .L 24 = 24)) := by decide +kernel

theorem witness_a_speed_report_settles_the_grant_5 :
    (let s := (copyInBay (.sample 2) { state := .verifyWait, tray := .closed, speedPending := true, timers.speed := some 2000 }).setGrant 2 (some { kind := .verify, cls := .L, step := 24, rate := 1800, phase := .speedPending })
     ((s.bay 2).speedPending = true ∧ (s.bay 2).state = .verifyWait ∧
     s.grant 2 = some { kind := .verify, cls := .L, step := 24, rate := 1800, phase := .speedPending } ∧
     s.copyAt 2 = some (0, copyAt (.bay 2), job .burnOnly (.sample 2), blankL) ∧
     s.discImageOf (job .burnOnly (.sample 2)) = some readyImage ∧ roundUp .verify .L 4 = 8)) := by decide +kernel

theorem witness_a_speed_report_settles_the_grant_6 :
    (let s := ((copyInBay .off { state := .grantWait, tray := .closed, speedPending := true, timers.speed := some 2000 }).setGrant 2 (some { kind := .write, cls := .L, step := 24, rate := 1800, phase := .speedPending })).setGrant 0 (some { kind := .write, cls := .M, step := 16, rate := 46000, phase := .settled })
     ((s.bay 2).speedPending = true ∧
     s.grant 2 = some { kind := .write, cls := .L, step := 24, rate := 1800, phase := .speedPending } ∧
     roundUp .write .L 40 = 40 ∧
     min (s.sst.working.ceiling - (s.rgu.committedWrite - 1800)) (s.sst.working.budget - (s.rgu.committedTotal - 1800)) < 3000)) := by decide +kernel

theorem witness_want_sends_blocks :
    (let s := copyInBay .off { state := .closing, tray := .closed, fifo := (List.range 2).map (fun k => { index := k, data := 3 }), sentBlocks := 0 }
     ((s.bay 2).state ≠ .prefill ∧ (s.bay 2).state ≠ .writing)) ∧
    (let s := copyInBay .off { state := .prefill, tray := .closed, fifo := (List.range 2).map (fun k => { index := k, data := 3 }), sentBlocks := 0 }
     ((s.bay 2).state = .prefill)) ∧
    (let s := copyInBay .off { state := .writing, tray := .closed, fifo := (List.range 3).map (fun k => { index := k, data := 3 }), sentBlocks := 0 }
     ((s.bay 2).state = .writing ∧ (s.bay 2).refillHold = false ∧
     (s.bay 2).sentBlocks + min (min 4194304 (0 + 2)) (s.bay 2).fifo.length < s.lengthAt 2)) ∧
    (let s := copyInBay .off { state := .writing, tray := .closed, fifo := (List.range 3).map (fun k => { index := k, data := 3 }), sentBlocks := 997 }
     ((s.bay 2).state = .writing ∧
     s.lengthAt 2 ≤ (s.bay 2).sentBlocks + min (min 4194304 (0 + 9)) (s.bay 2).fifo.length)) := by decide +kernel

theorem witness_pauses_are_counted_1 :
    (let s := copyInBay .off { state := .prefill, tray := .closed, fifo := (List.range 3).map (fun k => { index := k, data := 3 }), sentBlocks := 0 }
     ((s.bay 2).state ≠ .writing)) ∧
    (let s := withDisc { copyAt (.bay 2) with pauses := 7 } (copyInBay .off { state := .writing, tray := .closed, fifo := (List.range 31).map (fun k => { index := k, data := 3 }), sentBlocks := 0 })
     ((s.bay 2).state = .writing ∧ s.discAt (.bay 2) = some 0 ∧ s.disc 0 = some { copyAt (.bay 2) with pauses := 7 } ∧
     min 255 (7 + 1) ≤ s.sst.working.pauseLimit)) ∧
    (let s := withDisc { copyAt (.bay 2) with pauses := 8 } (copyInBay .off { state := .writing, tray := .closed, fifo := (List.range 31).map (fun k => { index := k, data := 3 }), sentBlocks := 0 })
     ((s.bay 2).state = .writing ∧ s.discAt (.bay 2) = some 0 ∧ s.disc 0 = some { copyAt (.bay 2) with pauses := 8 } ∧
     s.sst.working.pauseLimit < min 255 (8 + 1))) := by decide +kernel

theorem witness_pauses_are_counted_2 :
    (let s := copyInBay .off { state := .writing, tray := .closed, fifo := (List.range 3).map (fun k => { index := k, data := 3 }), sentBlocks := 0 }
     ((s.bay 2).state = .writing)) := by decide +kernel

theorem witness_burn_done_leads_to_the_next_step_1 :
    (let s := copyInBay .off { state := .writing, tray := .closed, fifo := (List.range 3).map (fun k => { index := k, data := 3 }), sentBlocks := 0 }
     ((s.bay 2).state ≠ .closing)) ∧
    (let s := copyInBay .count { state := .closing, imageLostMark := true }
     ((s.bay 2).state = .closing ∧ s.discAt (.bay 2) = some 0 ∧ s.disc 0 = some (copyAt (.bay 2)) ∧
     (s.modDisc 0 (fun r => { r with steps.write := true })).nextStepOf 0 = some .verify ∧
     (s.bay 2).imageLostMark = true)) := by decide +kernel

theorem witness_burn_done_leads_to_the_next_step_2 :
    (let s := copyInBay .count { state := .closing }
     ((s.bay 2).state = .closing ∧ s.discAt (.bay 2) = some 0 ∧ s.disc 0 = some (copyAt (.bay 2)) ∧
     (s.modDisc 0 (fun r => { r with steps.write := true })).nextStepOf 0 = some .verify ∧
     (s.bay 2).imageLostMark = false)) ∧
    (let s := withJob (job .burnThenPrint .off) (copyInBay .off { state := .closing })
     ((s.bay 2).state = .closing ∧ s.discAt (.bay 2) = some 0 ∧ s.disc 0 = some (copyAt (.bay 2)) ∧
     (s.modDisc 0 (fun r => { r with steps.write := true })).nextStepOf 0 = some .print)) := by decide +kernel

theorem witness_burn_done_leads_to_the_next_step_3 :
    (let s := copyInBay .off { state := .closing }
     ((s.bay 2).state = .closing ∧ s.discAt (.bay 2) = some 0 ∧ s.disc 0 = some (copyAt (.bay 2)) ∧
     (s.modDisc 0 (fun r => { r with steps.write := true })).nextStepOf 0 = none)) := by decide +kernel

theorem witness_burn_error_rejects_the_disc :
    (let s := copyInBay .off { state := .prefill, tray := .closed, fifo := (List.range 3).map (fun k => { index := k, data := 3 }), sentBlocks := 0 }
     ((s.bay 2).state ≠ .writing ∧ (s.bay 2).state ≠ .closing)) ∧
    (let s := copyInBay .off { state := .writing, tray := .closed, fifo := (List.range 3).map (fun k => { index := k, data := 3 }), sentBlocks := 0 }
     ((s.bay 2).state = .writing ∧ s.discAt (.bay 2) = some 0)) ∧
    (let s := (fun s => s.modBay 2 (fun b => { b with wantCredit := 4, refillHold := true, timers := { starve := some 9, close := some 9 } })) (copyInBay .off { state := .closing, tray := .closed, fifo := (List.range 3).map (fun k => { index := k, data := 3 }), sentBlocks := 5 })
     ((s.bay 2).state = .closing ∧ s.discAt (.bay 2) = some 0 ∧ (s.disc 0).map Disc.verdict = some .pending ∧
     s.waits 2 = false)) := by decide +kernel

theorem witness_read_blocks_are_compared_1 :
    (let s := State.reset
     ((s.bay 2).state ≠ .verifying ∧ (s.bay 2).state ≠ .masterRead)) ∧
    (let s := copyInBay .count { state := .verifying, tray := .closed, timers.read := some 10000, engine := { phase := .reading, rangeEnd := some 1000, readPos := 998, comparePos := 998 }, fifo := [{ index := 998, data := 3 }] }
     ((s.bay 2).state = .verifying ∧ (s.verifyCtx 2).isSome = true ∧ (s.bay 2).engine.phase = .reading ∧
     (s.bay 2).engine.rangeEnd = some 1000 ∧ (s.bay 2).engine.readPos < 1000 ∧ (s.bay 2).holding = [] ∧
     (s.bay 2).fifo = { index := 998, data := 3 } :: [] ∧ 998 = (s.bay 2).engine.comparePos ∧
     (s.bay 2).engine.held = false)) := by decide +kernel

theorem witness_read_blocks_are_compared_2 :
    (let s := copyInBay .stop { state := .verifying, tray := .closed, timers.read := some 10000, engine := { phase := .reading, rangeEnd := some 1000 }, fifo := [{ index := 0, data := 3 }] }
     ((s.bay 2).state = .verifying ∧ (s.verifyCtx 2).isSome = true ∧ (s.bay 2).engine.phase = .reading ∧
     (s.bay 2).engine.rangeEnd = some 1000 ∧ (s.bay 2).engine.readPos < 1000 ∧ (s.bay 2).holding = [] ∧
     (s.bay 2).fifo = { index := 0, data := 3 } :: [] ∧ 0 = (s.bay 2).engine.comparePos ∧
     (s.bay 2).engine.held = false ∧ (s.verifyCtx 2).map VerifyCtx.mode = some .stop)) := by decide +kernel

theorem witness_read_blocks_are_compared_3 :
    (let s := copyInBay .count { state := .verifying, tray := .closed, timers.read := some 10000, engine := { phase := .reading, rangeEnd := some 1000, readPos := 1 }, holding := [{ index := 0, status := .ok, data := 1 }] }
     ((s.bay 2).state = .verifying ∧ (s.verifyCtx 2).isSome = true ∧ (s.bay 2).engine.phase = .reading ∧
     (s.bay 2).engine.rangeEnd = some 1000 ∧ (s.bay 2).engine.readPos < 1000 ∧ (s.bay 2).fifo = [] ∧
     (s.bay 2).holding.length = 1)) := by decide +kernel

theorem witness_read_blocks_are_compared_4 :
    (let s := withDisc { copyAt (.bay 2) with steps.write := true } (copyInBay .count { state := .verifying, tray := .closed, timers.read := some 10000, engine := { phase := .reading, rangeEnd := some 1000, readPos := 999, comparePos := 999 }, fifo := [{ index := 999, data := 3 }] })
     ((s.bay 2).state = .verifying ∧ (s.verifyCtx 2).isSome = true ∧ (s.bay 2).engine.phase = .reading ∧
     (s.bay 2).engine.rangeEnd = some 1000 ∧ (s.bay 2).engine.readPos < 1000 ∧ (s.bay 2).holding = [] ∧
     (s.bay 2).fifo = { index := 999, data := 3 } :: [] ∧ 999 = (s.bay 2).engine.comparePos ∧
     (s.bay 2).engine.held = false ∧ nextInVerifySet none 1000 999 = 1000)) := by decide +kernel

theorem witness_read_blocks_are_compared_5 :
    (let s := withDisc { copyAt (.bay 2) with steps.write := true, mismatches := 2 } (copyInBay .count { state := .verifying, tray := .closed, timers.read := some 10000, engine := { phase := .reading, rangeEnd := some 1000, readPos := 999, comparePos := 999 }, fifo := [{ index := 999, data := 3 }] })
     ((s.bay 2).state = .verifying ∧ (s.verifyCtx 2).isSome = true ∧ (s.bay 2).engine.phase = .reading ∧
     (s.bay 2).engine.rangeEnd = some 1000 ∧ (s.bay 2).engine.readPos < 1000 ∧ (s.bay 2).holding = [] ∧
     (s.bay 2).fifo = { index := 999, data := 3 } :: [] ∧ 999 = (s.bay 2).engine.comparePos ∧
     (s.bay 2).engine.held = false)) := by decide +kernel

theorem witness_read_blocks_are_compared_6 :
    (let s := withJob { job .burnOnly .retry with marginalLimit := 1 } (withDisc { copyAt (.bay 2) with steps.write := true, marginals := 2 } (copyInBay .retry { state := .verifying, tray := .closed, timers.read := some 10000, engine := { phase := .reading, rangeEnd := some 1000, readPos := 999, comparePos := 999 }, fifo := [{ index := 999, data := 3 }] }))
     ((s.bay 2).state = .verifying ∧ (s.verifyCtx 2).isSome = true ∧ (s.bay 2).engine.phase = .reading ∧
     (s.bay 2).engine.rangeEnd = some 1000 ∧ (s.bay 2).engine.readPos < 1000 ∧ (s.bay 2).holding = [] ∧
     (s.bay 2).fifo = { index := 999, data := 3 } :: [] ∧ 999 = (s.bay 2).engine.comparePos ∧
     (s.bay 2).engine.held = false ∧ (s.verifyCtx 2).map VerifyCtx.limit = some 1 ∧
     (s.verifyCtx 2).map VerifyCtx.mode = some .retry)) := by decide +kernel

theorem witness_read_blocks_are_compared_7 :
    (let s := copyInBay .count { state := .verifying, tray := .closed, timers.read := some 10000, engine := { phase := .reading, rangeEnd := some 1000, readPos := 255, comparePos := 255 }, fifo := [{ index := 255, data := 3 }] }
     ((s.bay 2).state = .verifying ∧ (s.verifyCtx 2).isSome = true ∧ (s.bay 2).engine.phase = .reading ∧
     (s.bay 2).engine.rangeEnd = some 1000 ∧ (s.bay 2).engine.readPos < 1000 ∧ (s.bay 2).holding = [] ∧
     (s.bay 2).fifo = { index := 255, data := 3 } :: [] ∧ 255 = (s.bay 2).engine.comparePos ∧
     (s.bay 2).engine.held = false ∧ (s.verifyCtx 2).map VerifyCtx.mode = some .count ∧
     nextInVerifySet (none) 1000 255 < 1000)) := by decide +kernel

theorem witness_read_blocks_are_compared_8 :
    (let s := copyInBay (.sample 2) { state := .verifying, tray := .closed, timers.read := some 10000, engine := { phase := .reading, rangeEnd := some 1000, readPos := 255, comparePos := 255 }, fifo := [{ index := 255, data := 3 }] }
     ((s.bay 2).state = .verifying ∧ (s.verifyCtx 2).isSome = true ∧ (s.bay 2).engine.phase = .reading ∧
     (s.bay 2).engine.rangeEnd = some 1000 ∧ (s.bay 2).engine.readPos < 1000 ∧ (s.bay 2).holding = [] ∧
     (s.bay 2).fifo = { index := 255, data := 3 } :: [] ∧ 255 = (s.bay 2).engine.comparePos ∧
     (s.bay 2).engine.held = false ∧ (s.verifyCtx 2).map VerifyCtx.mode = some (.sample 2) ∧
     nextInVerifySet (some 2) 1000 255 < 1000)) := by decide +kernel

theorem witness_read_blocks_are_compared_9 :
    (let s := copyInBay .retry { state := .verifying, tray := .closed, timers.read := some 10000, engine := { phase := .reading, rangeEnd := some 1000, readPos := 5, comparePos := 5 }, fifo := [{ index := 5, data := 3 }] }
     ((s.bay 2).state = .verifying ∧ (s.verifyCtx 2).isSome = true ∧ (s.bay 2).engine.phase = .reading ∧
     (s.bay 2).engine.rangeEnd = some 1000 ∧ (s.bay 2).engine.readPos < 1000 ∧ (s.bay 2).holding = [] ∧
     (s.bay 2).fifo = { index := 5, data := 3 } :: [] ∧ 5 = (s.bay 2).engine.comparePos ∧
     (s.bay 2).engine.held = false ∧ (s.verifyCtx 2).map VerifyCtx.mode = some .retry)) := by decide +kernel

theorem witness_read_blocks_are_compared_10 :
    (let s := copyInBay .count { state := .verifying, tray := .closed, timers.read := some 10000, engine := { phase := .reading, rangeEnd := some 1000 } }
     ((s.bay 2).state = .verifying ∧ (s.verifyCtx 2).isSome = true ∧ (s.bay 2).engine.phase = .reading ∧
     (s.bay 2).engine.rangeEnd = some 1000 ∧ (s.bay 2).engine.readPos < 1000 ∧ (s.bay 2).fifo = [] ∧
     (s.bay 2).holding = [])) := by decide +kernel

theorem witness_read_blocks_are_compared_11 :
    (let s := masterInBay { masterImage false with refs := 1 } { state := .masterRead, masterNext := 3, holding := [], timers.read := some 10000 }
     ((s.bay 2).state = .masterRead ∧ s.masterImageAt 2 = some 1 ∧ (s.bay 2).masterReported = false ∧
     s.image? 1 = some { masterImage false with refs := 1 } ∧ 3 = (s.bay 2).masterNext ∧
     3 < (masterImage false).length ∧ (s.bay 2).holding = [])) := by decide +kernel

theorem witness_read_blocks_are_compared_12 :
    (let s := masterInBay { masterImage false with refs := 1 } { state := .masterRead, masterNext := 2, holding := [{ index := 1, status := .ok, data := 1 }], timers.read := some 10000 }
     ((s.bay 2).state = .masterRead ∧ s.masterImageAt 2 = some 1 ∧ (s.bay 2).masterReported = false ∧
     s.image? 1 = some { masterImage false with refs := 1 } ∧ 2 = (s.bay 2).masterNext ∧
     (s.bay 2).holding.length = 1)) := by decide +kernel

theorem witness_read_blocks_are_compared_13 :
    (let s := masterInBay { masterImage false with refs := 1 } { state := .masterRead, masterNext := 1, holding := [], timers.read := some 10000 }
     ((s.bay 2).state = .masterRead ∧ s.masterImageAt 2 = some 1 ∧ (s.bay 2).masterReported = false ∧
     s.image? 1 = some { masterImage false with refs := 1 } ∧ s.discAt (.bay 2) = some 0 ∧ s.masterOf 1 = some 0 ∧
     (masterImage false).state ≠ .lost ∧ (masterImage false).readDone = false ∧
     2 ≠ (s.bay 2).masterNext)) := by decide +kernel

theorem witness_read_blocks_are_compared_14 :
    (let s := masterInBay { masterImage false with refs := 1 } { state := .masterRead, masterNext := 2, holding := [], timers.read := some 10000 }
     ((s.bay 2).state = .masterRead ∧ s.masterImageAt 2 = some 1 ∧ (s.bay 2).masterReported = false ∧
     s.image? 1 = some { masterImage false with refs := 1 } ∧ s.discAt (.bay 2) = some 0 ∧ s.masterOf 1 = some 0 ∧
     (masterImage false).state ≠ .lost ∧ (masterImage false).readDone = false ∧
     ReadStatus.unreadable ≠ .ok)) := by decide +kernel

theorem witness_read_blocks_are_compared_15 :
    (let s := masterInBay { masterImage false with refs := 1 } { state := .masterRead, masterNext := 4, holding := [], timers.read := some 10000 }
     ((s.bay 2).state = .masterRead ∧ s.masterImageAt 2 = some 1 ∧ (s.bay 2).masterReported = false ∧
     s.image? 1 = some { masterImage false with refs := 1 } ∧ s.discAt (.bay 2) = some 0 ∧ s.masterOf 1 = some 0 ∧
     (masterImage false).state ≠ .lost ∧ (masterImage false).readDone = false ∧
     (masterImage false).length ≤ 4)) := by decide +kernel

theorem witness_read_blocks_are_compared_16 :
    (let s := withDisc { copyAt (.bay 2) with steps.write := true } (copyInBay .count { state := .verifying, tray := .closed, timers.read := some 10000, engine := { phase := .reading, rangeEnd := some 1000, readPos := 999, comparePos := 999 }, fifo := [{ index := 999, data := 3 }] })
     ((s.bay 2).state = .verifying ∧ (s.verifyCtx 2).isSome = true ∧ (s.bay 2).engine.phase = .reading ∧
     (s.bay 2).engine.rangeEnd = some 1000 ∧ (s.bay 2).engine.readPos < 1000 ∧ (s.bay 2).holding = [] ∧
     (s.bay 2).fifo = { index := 999, data := 3 } :: [] ∧ 999 = (s.bay 2).engine.comparePos ∧
     (s.bay 2).engine.held = false ∧ nextInVerifySet none 1000 999 = 1000 ∧
     (s.disc 0).map Disc.verdict = some .pending ∧
     (s.verifyCtx 2).map VerifyCtx.mode = some .count)) := by decide +kernel

theorem witness_read_blocks_are_compared_17 :
    (let s := copyInBay .retry { state := .verifying, tray := .closed, engine := { phase := .halting, comparePos := 5, rangeEnd := some 1000 } }
     ((s.bay 2).state = .verifying ∧ (s.verifyCtx 2).isSome = true ∧ (s.bay 2).engine.phase = .halting)) ∧
    (let s := copyInBay .retry { state := .verifying, tray := .closed, engine := { phase := .tail, comparePos := 5, rangeEnd := some 1000 } }
     ((s.bay 2).state = .verifying ∧ (s.verifyCtx 2).isSome = true ∧ (s.bay 2).engine.phase = .tail)) ∧
    (let s := copyInBay .retry { state := .verifying, tray := .closed, engine := { phase := .reread, attemptRead := true, comparePos := 5, rangeEnd := some 1000 } }
     ((s.bay 2).state = .verifying ∧ (s.verifyCtx 2).isSome = true ∧ (s.bay 2).engine.phase = .reread ∧
     (s.bay 2).engine.attemptRead = true)) := by decide +kernel

theorem witness_read_blocks_are_compared_18 :
    (let s := copyInBay .retry { state := .verifying, tray := .closed, engine := { phase := .reread, comparePos := 5, rangeEnd := some 1000 }, fifo := [{ index := 5, data := 3 }] }
     ((s.bay 2).state = .verifying ∧ (s.verifyCtx 2).isSome = true ∧ (s.bay 2).engine.phase = .reread ∧
     (s.bay 2).engine.attemptRead = false ∧ (s.bay 2).fifo = { index := 5, data := 3 } :: [])) ∧
    (let s := copyInBay .retry { state := .verifying, tray := .closed, engine := { phase := .reread, comparePos := 5, rangeEnd := some 1000 }, fifo := [{ index := 5, data := 3 }] }
     ((s.bay 2).state = .verifying ∧ (s.verifyCtx 2).isSome = true ∧ (s.bay 2).engine.phase = .reread ∧
     (s.bay 2).engine.attemptRead = false ∧ (s.bay 2).fifo = { index := 5, data := 3 } :: [])) := by decide +kernel

theorem witness_read_ends_move_the_engine_1 :
    (let s := State.reset
     ((s.bay 2).state ≠ .verifying ∧ (s.bay 2).state ≠ .masterRead)) ∧
    (let s := copyInBay .count { state := .verifying, tray := .closed, timers.read := some 10000, engine := { phase := .reading, rangeEnd := some 1000, readPos := 1000, comparePos := 999, held := true }, holding := [{ index := 999, status := .ok, data := 1 }] }
     ((s.bay 2).state = .verifying ∧ (s.verifyCtx 2).map VerifyCtx.stop = some 1000 ∧
     (s.bay 2).engine.phase = .reading ∧ (s.bay 2).engine.rangeEnd = some (s.bay 2).engine.readPos ∧
     (s.bay 2).engine.rangesLeft = 0 ∧ (s.bay 2).engine.comparePos < 1000)) := by decide +kernel

theorem witness_read_ends_move_the_engine_2 :
    (let s := copyInBay .retry { state := .verifying, engine := { phase := .halting, comparePos := 5 } }
     ((s.bay 2).state = .verifying ∧ (s.verifyCtx 2).isSome = true ∧ (s.bay 2).engine.phase = .halting)) ∧
    (let s := masterInBay (masterImage false) { state := .masterRead, timers.read := some 10000 }
     ((s.bay 2).state = .masterRead ∧ s.masterImageAt 2 = some 1 ∧
     (s.bay 2).masterReported = false)) := by decide +kernel

theorem witness_read_ends_move_the_engine_3 :
    (let s := copyInBay (.sample 2) { state := .verifying, tray := .closed, timers.read := some 10000, engine := { phase := .reading, readPos := 256, comparePos := 255, rangeEnd := some 256, rangesLeft := 2, held := true } }
     ((s.bay 2).state = .verifying ∧ (s.verifyCtx 2).isSome = true ∧ (s.verifyCtx 2).bind VerifyCtx.sampleK = some 2 ∧
     (s.bay 2).engine.phase = .reading ∧ (s.bay 2).engine.rangeEnd = some (s.bay 2).engine.readPos ∧
     0 < (s.bay 2).engine.rangesLeft)) := by decide +kernel

theorem witness_read_ends_move_the_engine_4 :
    (let s := copyInBay .count { state := .verifying, tray := .closed, timers.read := some 10000, engine := { phase := .reading, rangeEnd := some 1000, readPos := 6, comparePos := 5 } }
     ((s.bay 2).state = .verifying ∧ (s.verifyCtx 2).isSome = true ∧ s.discAt (.bay 2) = some 0 ∧
     (s.disc 0).map Disc.verdict = some .pending ∧ (s.bay 2).engine.phase = .reading ∧
     (s.bay 2).engine.rangeEnd ≠ some (s.bay 2).engine.readPos)) := by decide +kernel

theorem witness_read_ends_move_the_engine_5 :
    (let s := copyInBay .stop { state := .verifying, tray := .closed, timers.read := some 10000, engine := { phase := .reading, rangeEnd := some 1000, readPos := 6, comparePos := 5 } }
     ((s.bay 2).state = .verifying ∧ (s.verifyCtx 2).isSome = true ∧ s.discAt (.bay 2) = some 0 ∧
     (s.disc 0).map Disc.verdict = some .pending ∧ (s.bay 2).engine.phase = .reading ∧
     (s.bay 2).engine.rangeEnd ≠ some (s.bay 2).engine.readPos)) ∧
    (let s := copyInBay .retry { state := .verifying, tray := .closed, engine := { phase := .reread, attemptRead := true, retryAttempt := 2, comparePos := 5, rangeEnd := some 1000 } }
     ((s.bay 2).state = .verifying ∧ (s.verifyCtx 2).isSome = true ∧ (s.bay 2).engine.phase = .reread ∧
     (s.bay 2).engine.retryMatched = false ∧ (s.bay 2).engine.retryAttempt < 3)) := by decide +kernel

theorem witness_read_ends_move_the_engine_6 :
    (let s := copyInBay .retry { state := .verifying, tray := .closed, engine := { phase := .reread, attemptRead := true, retryAttempt := 3, retryMatched := true, comparePos := 5, rangeEnd := some 1000 }, fifo := [{ index := 5, data := 3 }] }
     ((s.bay 2).state = .verifying ∧ (s.verifyCtx 2).isSome = true ∧ (s.bay 2).engine.phase = .reread ∧
     ((s.bay 2).engine.retryMatched = true ∨ 3 ≤ (s.bay 2).engine.retryAttempt) ∧
     (s.bay 2).engine.rangeEnd = some 1000 ∧ s.disc 0 = some (copyAt (.bay 2)) ∧
     nextInVerifySet none 1000 5 < 1000)) := by decide +kernel

theorem witness_read_ends_move_the_engine_7 :
    (let s := withJob { job .burnOnly .retry with marginalLimit := 255 } (withDisc { copyAt (.bay 2) with steps.write := true } (copyInBay .retry { state := .verifying, tray := .closed, engine := { phase := .reread, attemptRead := true, retryAttempt := 3, retryMatched := true, comparePos := 999, rangeEnd := some 1000 }, fifo := [{ index := 999, data := 3 }] }))
     ((s.bay 2).state = .verifying ∧ (s.verifyCtx 2).isSome = true ∧ (s.bay 2).engine.phase = .reread ∧
     (s.bay 2).engine.rangeEnd = some 1000 ∧ nextInVerifySet none 1000 999 = 1000 ∧ (s.bay 2).holding = [] ∧
     (s.disc 0).map Disc.verdict = some .pending ∧ (s.verifyCtx 2).map VerifyCtx.limit = some 255)) := by decide +kernel

theorem witness_read_ends_move_the_engine_8 :
    (let s := withJob { job .burnOnly .retry with marginalLimit := 0 } (withDisc { copyAt (.bay 2) with steps.write := true } (copyInBay .retry { state := .verifying, tray := .closed, engine := { phase := .reread, attemptRead := true, retryAttempt := 3, retryMatched := true, comparePos := 999, rangeEnd := some 1000 }, fifo := [{ index := 999, data := 3 }] }))
     ((s.bay 2).state = .verifying ∧ (s.verifyCtx 2).isSome = true ∧ (s.bay 2).engine.phase = .reread ∧
     (s.bay 2).engine.rangeEnd = some 1000 ∧ nextInVerifySet none 1000 999 = 1000 ∧ (s.bay 2).holding = [] ∧
     (s.disc 0).map Disc.verdict = some .pending ∧ (s.verifyCtx 2).map VerifyCtx.limit = some 0)) := by decide +kernel

theorem witness_read_ends_move_the_engine_9 :
    (let s := copyInBay .retry { state := .verifying, tray := .closed, engine := { phase := .reread, attemptRead := true, retryAttempt := 3, retryMatched := false, comparePos := 5, rangeEnd := some 1000 }, fifo := [{ index := 5, data := 3 }] }
     ((s.bay 2).state = .verifying ∧ (s.verifyCtx 2).isSome = true ∧ (s.bay 2).engine.phase = .reread ∧
     ((s.bay 2).engine.retryMatched = true ∨ 3 ≤ (s.bay 2).engine.retryAttempt) ∧
     (s.bay 2).engine.rangeEnd = some 1000 ∧ s.disc 0 = some (copyAt (.bay 2)) ∧
     nextInVerifySet none 1000 5 < 1000)) := by decide +kernel

theorem witness_read_ends_move_the_engine_10 :
    (let s := withJob { job .burnOnly .retry with marginalLimit := 255 } (withDisc { copyAt (.bay 2) with steps.write := true } (copyInBay .retry { state := .verifying, tray := .closed, engine := { phase := .reread, attemptRead := true, retryAttempt := 3, retryMatched := false, comparePos := 999, rangeEnd := some 1000 }, fifo := [{ index := 999, data := 3 }] }))
     ((s.bay 2).state = .verifying ∧ (s.verifyCtx 2).isSome = true ∧ (s.bay 2).engine.phase = .reread ∧
     (s.bay 2).engine.rangeEnd = some 1000 ∧ nextInVerifySet none 1000 999 = 1000 ∧ (s.bay 2).holding = [] ∧
     (s.disc 0).map Disc.verdict = some .pending ∧ (s.verifyCtx 2).map VerifyCtx.limit = some 255)) := by decide +kernel

theorem witness_the_door_stops_the_arm :
    (let s := State.reset
     (s.tsq.door = .closed ∧ s.tsq.arm.state ≠ .stopped ∧ s.tsq.arm.state ≠ .fault)) ∧
    (let s := withArm { state := .fault } State.reset
     (s.tsq.door = .closed ∧ s.tsq.arm.state = .fault)) ∧
    (let s := { withArm { state := .stopped } State.reset with tsq.door := .opened }
     (s.tsq.door = .opened ∧ s.tsq.arm.state = .stopped)) ∧
    (let s := { withArm { state := .fault } State.reset with tsq.door := .opened }
     (s.tsq.door = .opened ∧ s.tsq.arm.state ≠ .stopped)) := by decide +kernel

theorem witness_the_arm_arrives_1 :
    (let s := State.reset
     ((s.tsq.arm.motion != some (.goto .home)) = true ∧ s.tsq.arm.motion = some .home)) ∧
    (let s := withArm { state := .toSource, motion := some (.goto .inA), timer := some 6000, move := some { entry := loadEntry, reserved := .tray } } State.reset
     (s.tsq.arm.motion = some (.goto .inA) ∧ s.tsq.arm.move = some { entry := loadEntry, reserved := .tray } ∧
     s.tsq.arm.state = .toSource ∧ loadEntry.source = .spindle .inA ∧ loadEntry.source.position = some .inA ∧
     s.masterGone loadEntry = false)) := by decide +kernel

theorem witness_the_arm_arrives_2 :
    (let s := withDisc (copyAt .arm) (withArm { state := .toDest, motion := some (.goto .out), timer := some 6000, move := some { entry := clearEntry, reserved := .out, gripped := true } } State.reset)
     (s.tsq.arm.motion = some (.goto .out) ∧
     s.tsq.arm.move = some { entry := clearEntry, reserved := .out, gripped := true } ∧ s.tsq.arm.state = .toDest ∧
     clearEntry.dest.position = .out ∧
     s.mustReroute { entry := clearEntry, reserved := .out, gripped := true } = false)) := by decide +kernel

theorem witness_the_arm_arrives_3 :
    (let s := withDisc (copyAt .arm) (withArm { state := .toDest, motion := some (.goto (.bay 2)), timer := some 6000, trayReady := true, move := some { entry := { loadEntry with disc := some 0 }, reserved := .tray, gripped := true } } State.reset)
     (s.tsq.arm.motion = some (.goto (.bay 2)) ∧
     s.tsq.arm.move = some { entry := { loadEntry with disc := some 0 }, reserved := .tray, gripped := true } ∧
     s.tsq.arm.state = .toDest ∧
     s.mustReroute { entry := { loadEntry with disc := some 0 }, reserved := .tray, gripped := true } = false ∧
     s.tsq.arm.trayReady = true)) := by decide +kernel

theorem witness_the_arm_arrives_4 :
    (let s := withDisc (copyAt .arm) (withArm { state := .toDest, motion := some (.goto (.bay 2)), timer := some 6000, trayReady := false, move := some { entry := { loadEntry with disc := some 0 }, reserved := .tray, gripped := true } } State.reset)
     (s.tsq.arm.motion = some (.goto (.bay 2)) ∧
     s.tsq.arm.move = some { entry := { loadEntry with disc := some 0 }, reserved := .tray, gripped := true } ∧
     s.tsq.arm.state = .toDest ∧
     s.mustReroute { entry := { loadEntry with disc := some 0 }, reserved := .tray, gripped := true } = false ∧
     s.tsq.arm.trayReady = false)) := by decide +kernel

theorem witness_grips_move_the_record_1 :
    (let s := State.reset
     (s.tsq.arm.motion ≠ some .grip)) ∧
    (let s := withArm { state := .picking, position := .inA, motion := some .grip, timer := some 6000, move := some { entry := loadEntry, reserved := .tray, retries := 1 } } (withJob { job .burnOnly .off with loads := 1 } (withImages [readyImage] State.reset))
     (s.tsq.arm.motion = some .grip ∧ s.tsq.arm.move = some { entry := loadEntry, reserved := .tray, retries := 1 } ∧
     loadEntry.source = .spindle .inA ∧ s.disc 0 = none ∧ 1 < 2)) := by decide +kernel

theorem witness_grips_move_the_record_2 :
    (let s := withDisc (copyAt (.bay 2)) (withArm { state := .picking, position := .bay 2, motion := some .grip, timer := some 6000, move := some { entry := clearEntry, reserved := .out } } State.reset)
     (s.tsq.arm.motion = some .grip ∧ s.tsq.arm.move = some { entry := clearEntry, reserved := .out } ∧
     clearEntry.source = .bay 2 ∧ clearEntry.disc = some 0 ∧ s.disc 0 = some (copyAt (.bay 2)))) ∧
    (let s := withArm { state := .picking, position := .inA, motion := some .grip, timer := some 6000, move := some { entry := loadEntry, reserved := .tray } } (withJob { job .burnOnly .off with loads := 1 } (withImages [readyImage] State.reset))
     (s.tsq.arm.motion = some .grip ∧ s.tsq.arm.move = some { entry := loadEntry, reserved := .tray } ∧
     loadEntry.source = .spindle .inA ∧ s.disc 0 = none ∧
     (∀ c < (0 : DiscId), (s.disc c).isSome = true))) := by decide +kernel

theorem witness_grips_move_the_record_3 :
    (let s := withArm { state := .picking, position := .inA, motion := some .grip, timer := some 6000, move := some { entry := loadEntry, reserved := .tray } } (withJob { job .burnOnly .off with loads := 1 } (withImages [readyImage] State.reset))
     (s.tsq.arm.motion = some .grip ∧ s.tsq.arm.move = some { entry := loadEntry, reserved := .tray } ∧
     loadEntry.source = .spindle .inA ∧ s.disc 0 = none ∧
     (∀ c < (0 : DiscId), (s.disc c).isSome = true))) := by decide +kernel

theorem witness_grips_move_the_record_4 :
    (let s := withArm { state := .picking, position := .inA, motion := some .grip, timer := some 6000, move := some { entry := loadEntry, reserved := .tray, retries := 2 } } (withJob { job .burnOnly .off with loads := 1 } (withImages [readyImage] State.reset))
     (s.tsq.arm.motion = some .grip ∧ s.tsq.arm.move = some { entry := loadEntry, reserved := .tray, retries := 2 } ∧
     loadEntry.source = .spindle .inA ∧ s.disc 0 = none ∧ (∀ c < (0 : DiscId), (s.disc c).isSome = true) ∧
     2 ≤ 2)) := by decide +kernel

theorem witness_grips_move_the_record_5 :
    (let s := withDisc (copyAt (.bay 2)) (withArm { state := .picking, position := .bay 2, motion := some .grip, timer := some 6000, move := some { entry := clearEntry, reserved := .out } } State.reset)
     (s.tsq.arm.motion = some .grip ∧ s.tsq.arm.move = some { entry := clearEntry, reserved := .out } ∧
     clearEntry.source = .bay 2 ∧ clearEntry.disc = some 0 ∧ s.disc 0 = some (copyAt (.bay 2)))) ∧
    (let s := withDisc { copyAt (.bay 2) with verdict := .reject, cause := some .cleared } (withArm { state := .picking, position := .bay 2, motion := some .grip, timer := some 6000, move := some { entry := clearEntry, reserved := .out } } State.reset)
     (s.tsq.arm.motion = some .grip ∧ s.tsq.arm.move = some { entry := clearEntry, reserved := .out } ∧
     clearEntry.source = .bay 2 ∧ clearEntry.disc = some 0 ∧
     (s.disc 0).map Disc.verdict = some .reject)) := by decide +kernel

theorem witness_grips_move_the_record_6 :
    (let s := withDisc (copyAt (.bay 2)) (withArm { state := .picking, position := .bay 2, motion := some .grip, timer := some 6000, move := some { entry := clearEntry, reserved := .out } } State.reset)
     (s.tsq.arm.motion = some .grip ∧ s.tsq.arm.move = some { entry := clearEntry, reserved := .out } ∧
     clearEntry.source = .bay 2 ∧ clearEntry.disc = some 0 ∧ s.disc 0 = some (copyAt (.bay 2)) ∧
     (∀ x ∈ [Spindle.inA, .inB], clearEntry.source ≠ .spindle x))) ∧
    (let s := withDisc (copyAt .printer) (withArm { state := .picking, position := .printer, motion := some .grip, timer := some 6000, move := some { entry := { clearEntry with source := .printer }, reserved := .out } } { State.reset with psc := { state := .loaded, step := some .leaving } })
     (s.tsq.arm.motion = some .grip ∧
     s.tsq.arm.move = some { entry := { clearEntry with source := .printer }, reserved := .out } ∧
     s.disc 0 = some (copyAt .printer))) := by decide +kernel

theorem witness_grips_move_the_record_7 :
    (let s := withDisc (copyAt .printer) (withArm { state := .picking, position := .printer, motion := some .grip, timer := some 6000, move := some { entry := { clearEntry with source := .printer }, reserved := .out } } { State.reset with psc := { state := .loaded, step := some .leaving } })
     (s.tsq.arm.motion = some .grip ∧
     s.tsq.arm.move = some { entry := { clearEntry with source := .printer }, reserved := .out } ∧
     s.disc 0 = some (copyAt .printer))) ∧
    (let s := withDisc (copyAt .printer) (withArm { state := .picking, position := .printer, motion := some .grip, timer := some 6000, move := some { entry := { clearEntry with source := .printer }, reserved := .out } } { State.reset with psc := { state := .jammed } })
     (s.tsq.arm.motion = some .grip ∧
     s.tsq.arm.move = some { entry := { clearEntry with source := .printer }, reserved := .out } ∧
     s.disc 0 = some (copyAt .printer))) := by decide +kernel

theorem witness_releases_place_the_disc_1 :
    (let s := State.reset
     (s.tsq.arm.motion ≠ some .release)) ∧
    (let s := withArm { state := .picking, motion := some .release, timer := some 6000, move := some { entry := loadEntry, reserved := .tray, retries := 1, cmd := some .release } } State.reset
     (s.tsq.arm.motion = some .release ∧
     s.tsq.arm.move = some { entry := loadEntry, reserved := .tray, retries := 1, cmd := some .release } ∧
     s.tsq.arm.state = .picking)) := by decide +kernel

theorem witness_releases_place_the_disc_2 :
    (let s := withDisc { copyAt .arm with verdict := .good } (withArm { state := .placing, motion := some .release, timer := some 6000, move := some { entry := clearEntry, reserved := .out, gripped := true, cmd := some .release } } State.reset)
     (s.tsq.arm.motion = some .release ∧
     s.tsq.arm.move = some { entry := clearEntry, reserved := .out, gripped := true, cmd := some .release } ∧
     s.tsq.arm.state = .placing ∧ clearEntry.disc = some 0 ∧ s.disc 0 = some { copyAt .arm with verdict := .good } ∧
     clearEntry.dest = .out)) := by decide +kernel

theorem witness_releases_place_the_disc_3 :
    (let s := withDisc (copyAt .arm) (withArm { state := .placing, motion := some .release, timer := some 6000, move := some { entry := { loadEntry with disc := some 0 }, reserved := .tray, gripped := true } } State.reset)
     (s.tsq.arm.motion = some .release ∧
     s.tsq.arm.move = some { entry := { loadEntry with disc := some 0 }, reserved := .tray, gripped := true } ∧
     s.tsq.arm.state = .placing ∧ loadEntry.dest ≠ .out ∧ loadEntry.dest ≠ .rej)) := by decide +kernel

theorem witness_releases_place_the_disc_4 :
    (let s := (withArm { state := .picking, motion := some .release, timer := some 6000, move := some { entry := { loadEntry with purpose := some .master, job := none, attempt := none, image := some 1 }, reserved := .tray, retries := 1, cmd := some .release } } State.reset).setBayRes 2 (some (.master 1))
     (s.tsq.arm.motion = some .release ∧
     s.tsq.arm.move = some { entry := { loadEntry with purpose := some .master, job := none, attempt := none, image := some 1 }, reserved := .tray, retries := 1, cmd := some .release } ∧ s.tsq.arm.state = .picking ∧ s.masterGone { loadEntry with purpose := some .master, job := none, attempt := none, image := some 1 } = true)) := by decide +kernel

theorem witness_releases_place_the_disc_5 :
    (let s := (withBay { state := .trayOut, tray := .opened, errand := .place }) (withDisc ({ copyAt .arm with verdict := .reject, cause := some .cancelled, dest := some .rej }) (withArm { state := .placing, motion := some .release, timer := some 6000, move := some { entry := { loadEntry with disc := some 0 }, gripped := true, reserved := .tray } } State.reset))
     (s.tsq.arm.motion = some .release ∧
     s.tsq.arm.move = some { entry := { loadEntry with disc := some 0 }, gripped := true, reserved := .tray } ∧
     s.tsq.arm.state = .placing ∧ ({ loadEntry with disc := some 0 } : Entry).disc = some 0 ∧
     s.disc 0 = some ({ copyAt .arm with verdict := .reject, cause := some .cancelled, dest := some .rej }) ∧
     ({ loadEntry with disc := some 0 } : Entry).dest = .bay 2 ∧
     ({ copyAt .arm with verdict := .reject, cause := some .cancelled, dest := some .rej } : Disc).verdict = .reject ∧
     ({ copyAt .arm with verdict := .reject, cause := some .cancelled, dest := some .rej } : Disc).purpose ≠ .master)) := by decide +kernel

theorem witness_releases_place_the_disc_6 :
    (let s := (fun s => { s with psc.state := .reserved }) (withDisc ({ copyAt .arm with verdict := .reject, cause := some .cancelled, dest := some .rej }) (withArm { state := .placing, motion := some .release, timer := some 6000, move := some { entry := { clearEntry with dest := .printer }, gripped := true, reserved := .printer false } } State.reset))
     (s.tsq.arm.motion = some .release ∧
     s.tsq.arm.move = some { entry := { clearEntry with dest := .printer }, gripped := true, reserved := .printer false } ∧ s.tsq.arm.state = .placing ∧ ({ clearEntry with dest := .printer } : Entry).disc = some 0 ∧ s.disc 0 = some ({ copyAt .arm with verdict := .reject, cause := some .cancelled, dest := some .rej }) ∧ ({ clearEntry with dest := .printer } : Entry).dest = .printer)) := by decide +kernel

theorem witness_releases_place_the_disc_7 :
    (let s := (fun s => withBay { state := .trayOut, tray := .opened, errand := .place } (withJob (job .burnOnly .off) s)) (withDisc (copyAt .arm) (withArm { state := .placing, motion := some .release, timer := some 6000, move := some { entry := { loadEntry with disc := some 0 }, gripped := true, reserved := .tray } } State.reset))
     (s.tsq.arm.motion = some .release ∧
     s.tsq.arm.move = some { entry := { loadEntry with disc := some 0 }, gripped := true, reserved := .tray } ∧
     s.tsq.arm.state = .placing ∧ ({ loadEntry with disc := some 0 } : Entry).disc = some 0 ∧
     s.disc 0 = some (copyAt .arm) ∧ ({ loadEntry with disc := some 0 } : Entry).dest = .bay 2 ∧
     (s.bay 2).state = .trayOut ∧ (s.bay 2).errand = .place ∧ (s.bay 2).tray = .opened ∧
     s.jobOf (copyAt .arm) = some (job .burnOnly .off) ∧ (job .burnOnly .off).state ≠ .draining)) := by decide +kernel

theorem witness_releases_place_the_disc_8 :
    (let s := (fun s => { withJob (job .printOnly .off) (withImages [labelImage] s) with psc.state := .reserved, psc.reservedFor := some (.disc 0) }) (withDisc (copyAt .arm) (withArm { state := .placing, motion := some .release, timer := some 6000, move := some { entry := { clearEntry with dest := .printer }, gripped := true, reserved := .printer false } } State.reset))
     (s.tsq.arm.motion = some .release ∧
     s.tsq.arm.move = some { entry := { clearEntry with dest := .printer }, gripped := true, reserved := .printer false } ∧ s.tsq.arm.state = .placing ∧ ({ clearEntry with dest := .printer } : Entry).disc = some 0 ∧ s.disc 0 = some (copyAt .arm) ∧ ({ clearEntry with dest := .printer } : Entry).dest = .printer ∧ s.jobOf (copyAt .arm) = some (job .printOnly .off) ∧ (job .printOnly .off).state ≠ .draining ∧ nextStep (job .printOnly .off) (copyAt .arm) = some .print ∧ s.image? 2 = some labelImage ∧ s.psc.cacheTag ≠ some 2)) := by decide +kernel

theorem witness_releases_place_the_disc_9 :
    (let s := (fun s => { withJob (job .printOnly .off) s with psc.state := .jammed }) (withDisc (copyAt .arm) (withArm { state := .placing, motion := some .release, timer := some 6000, move := some { entry := { clearEntry with dest := .printer }, gripped := true, reserved := .printer false } } State.reset))
     (s.tsq.arm.motion = some .release ∧
     s.tsq.arm.move = some { entry := { clearEntry with dest := .printer }, gripped := true, reserved := .printer false } ∧ s.tsq.arm.state = .placing ∧ ({ clearEntry with dest := .printer } : Entry).disc = some 0 ∧ s.disc 0 = some (copyAt .arm) ∧ ({ clearEntry with dest := .printer } : Entry).dest = .printer ∧ s.jobOf (copyAt .arm) = some (job .printOnly .off) ∧ (job .printOnly .off).state ≠ .draining ∧ s.psc.state = .jammed)) := by decide +kernel

theorem witness_releases_place_the_disc_10 :
    (let s := (fun s => { withJob (job .printOnly .off) s with psc.state := .reserved }) (withDisc ({ copyAt .arm with verdict := .good }) (withArm { state := .placing, motion := some .release, timer := some 6000, move := some { entry := { clearEntry with dest := .printer }, gripped := true, reserved := .printer false } } State.reset))
     (s.tsq.arm.motion = some .release ∧
     s.tsq.arm.move = some { entry := { clearEntry with dest := .printer }, gripped := true, reserved := .printer false } ∧ s.tsq.arm.state = .placing ∧ ({ clearEntry with dest := .printer } : Entry).disc = some 0 ∧ s.disc 0 = some ({ copyAt .arm with verdict := .good }) ∧ ({ clearEntry with dest := .printer } : Entry).dest = .printer ∧ s.psc.state = .reserved)) := by decide +kernel

theorem witness_releases_place_the_disc_11 :
    (let s := (fun s => s) (withDisc ({ masterAt .arm with verdict := .reject, cause := some .doublePick }) (withArm { state := .placing, motion := some .release, timer := some 6000, move := some { entry := { clearEntry with source := .arm }, gripped := true, reserved := .out } } State.reset))
     (s.tsq.arm.motion = some .release ∧
     s.tsq.arm.move = some { entry := { clearEntry with source := .arm }, gripped := true, reserved := .out } ∧
     s.tsq.arm.state = .placing ∧ ({ clearEntry with source := .arm } : Entry).disc = some 0 ∧
     s.disc 0 = some ({ masterAt .arm with verdict := .reject, cause := some .doublePick }) ∧
     ({ masterAt .arm with verdict := .reject, cause := some .doublePick } : Disc).places = 2)) := by decide +kernel

theorem witness_homed_sweeps_or_recovers_1 :
    (let s := withArm { state := .fault } State.reset
     (s.tsq.arm.motion ≠ some .home)) ∧
    (let s := State.reset
     (s.tsq.arm.motion = some .home ∧ s.tsq.phase = .sweeping .arm)) ∧
    (let s := withArm { motion := some .home, timer := some 6000, move := some { entry := loadEntry, reserved := .tray, retries := 1, cmd := some .release } } State.reset
     (s.tsq.arm.motion = some .home ∧ s.tsq.phase = .running ∧ s.discAt .arm = none ∧
     s.tsq.arm.move = some { entry := loadEntry, reserved := .tray, retries := 1, cmd := some .release } ∧
     loadEntry.source = .spindle .inA)) := by decide +kernel

theorem witness_homed_sweeps_or_recovers_2 :
    (let s := withDisc (copyAt .arm) { State.reset with tsq.phase := .sweeping .printer }
     (s.tsq.arm.motion = some .home ∧ s.tsq.phase = .sweeping .printer ∧ SweepAt.printer ≠ .arm ∧
     s.discAt .arm = some 0 ∧ s.disc 0 = some (copyAt .arm))) ∧
    (let s := State.reset
     (s.discAt .printer = none ∧ s.disc 0 = none ∧ (∀ c < (0 : DiscId), (s.disc c).isSome = true) ∧
     s.hasEntry 0 = false)) := by decide +kernel

theorem witness_homed_sweeps_or_recovers_3 :
    (let s := withDisc (copyAt (.bay 2)) (withJob (job .burnOnly .off) State.reset)
     (s.discAt (.bay 2) = some 0 ∧ s.disc 0 = some (copyAt (.bay 2)) ∧ s.job? 1 = some (job .burnOnly .off) ∧
     s.hasEntry 0 = false)) ∧
    (let s := withDisc (masterAt .arm) State.reset
     (s.discAt .arm = some 0 ∧ s.disc 0 = some (masterAt .arm) ∧ s.hasEntry 0 = false)) := by decide +kernel

theorem witness_clears_go_before_loads_1 :
    (let s := (fun s => { s with tsq.queue := [loadEntry, clearEntry] }) (withDisc { copyAt (.bay 2) with verdict := .good } (withArm { state := .parked } State.reset))
     (s.tsq.arm.state = .parked ∧ s.tsq.phase = .running ∧ s.tsq.door = .closed ∧ s.tsq.tenure = none ∧
     clearEntry ∈ s.tsq.queue ∧ clearEntry.cls = .clear ∧ s.mayMove clearEntry = true ∧
     s.reservable clearEntry = true)) ∧
    (let s := withJob { job .burnOnly .off with copies := 9 } State.reset
     (s.tsq.phase ≠ .running)) := by decide +kernel

theorem witness_clears_go_before_loads_2 :
    (let s := (fun s => { s with jsc.jobs := [{ job .burnOnly .off with seq := 2, priority := 3, copies := 2 }, { job .burnOnly .off with number := 2, seq := 1, priority := 3, copies := 2 }], tsq.inA.cls := some .L, tsq.inA.count := some 9, tsq.phase := .running }) (withImages [readyImage] State.reset)
     (s.tsq.phase = .running ∧ s.jsc.masters = [] ∧
     { job .burnOnly .off with number := 2, seq := 1, priority := 3, copies := 2 } ∈ s.jsc.jobs ∧
     (s.assignCopy { job .burnOnly .off with number := 2, seq := 1, priority := 3, copies := 2 }).isSome = true ∧
     Job.priority { job .burnOnly .off with seq := 2, priority := 3, copies := 2 } = Job.priority { job .burnOnly .off with number := 2, seq := 1, priority := 3, copies := 2 } ∧ Job.seq { job .burnOnly .off with number := 2, seq := 1, priority := 3, copies := 2 } < Job.seq { job .burnOnly .off with seq := 2, priority := 3, copies := 2 })) := by decide +kernel

theorem witness_clears_go_before_loads_3 :
    (let s := (fun s => { s with jsc.jobs := [{ job .burnOnly .off with seq := 2, priority := 3, copies := 2 }, { job .burnOnly .off with number := 2, seq := 1, priority := 3, copies := 2 }], tsq.inA.cls := some .L, tsq.inA.count := some 9, tsq.phase := .running }) (withImages [readyImage] State.reset)
     (Job.order { job .burnOnly .off with number := 2, seq := 1, priority := 3, copies := 2 } = .burnOnly ∧
     Job.state { job .burnOnly .off with number := 2, seq := 1, priority := 3, copies := 2 } = .active ∧
     Job.good { job .burnOnly .off with number := 2, seq := 1, priority := 3, copies := 2 } + s.active 2 + Job.loads { job .burnOnly .off with number := 2, seq := 1, priority := 3, copies := 2 } < Job.copies { job .burnOnly .off with number := 2, seq := 1, priority := 3, copies := 2 } ∧ Job.attempts { job .burnOnly .off with number := 2, seq := 1, priority := 3, copies := 2 } < 65535 ∧ (∀ n, s.spareFits { job .burnOnly .off with number := 2, seq := 1, priority := 3, copies := 2 } n = false) ∧ s.freeBay 0 = true ∧ s.tsq.queue.length < 24 ∧ s.usableFor { job .burnOnly .off with number := 2, seq := 1, priority := 3, copies := 2 } .inA = true)) := by decide +kernel

theorem witness_clears_go_before_loads_4 :
    (let s := withDisc { copyAt (.bay 2) with purpose := .spare, job := none, attempt := none } (withBay { state := .spare } ((fun s => { s with jsc.jobs := [{ job .burnOnly .off with seq := 2, priority := 3, copies := 2 }, { job .burnOnly .off with number := 2, seq := 1, priority := 3, copies := 2 }], tsq.inA.cls := some .L, tsq.inA.count := some 9, tsq.phase := .running }) (withImages [readyImage] State.reset)))
     (s.spareFits { job .burnOnly .off with number := 2, seq := 1, priority := 3, copies := 2 } 2 = true ∧
     (∀ k < (2 : BayId), s.spareFits { job .burnOnly .off with number := 2, seq := 1, priority := 3, copies := 2 } k = false) ∧ s.discAt (.bay 2) = some 0 ∧ Job.state { job .burnOnly .off with number := 2, seq := 1, priority := 3, copies := 2 } = .active ∧ Job.good { job .burnOnly .off with number := 2, seq := 1, priority := 3, copies := 2 } + s.active 2 + Job.loads { job .burnOnly .off with number := 2, seq := 1, priority := 3, copies := 2 } < Job.copies { job .burnOnly .off with number := 2, seq := 1, priority := 3, copies := 2 })) := by decide +kernel

theorem witness_clears_go_before_loads_5 :
    (let s := (fun s => { s with jsc.jobs := [{ job .burnOnly .off with seq := 2, priority := 3, copies := 2 }, { job .burnOnly .off with number := 2, seq := 1, priority := 3, copies := 2 }], tsq.inA.cls := some .L, tsq.inA.count := some 9, tsq.phase := .running }) (withImages [readyImage] State.reset)
     ((s.assignMaster { image := 1, spindle := .inA, seq := 5 }).isSome = true)) ∧
    (let s := (fun s => { s with jsc.jobs := [{ { job .burnOnly .off with number := 2, seq := 1, priority := 3, copies := 2 } with copies := 1 }] }) ((fun s => { s with jsc.jobs := [{ job .burnOnly .off with seq := 2, priority := 3, copies := 2 }, { job .burnOnly .off with number := 2, seq := 1, priority := 3, copies := 2 }], tsq.inA.cls := some .L, tsq.inA.count := some 9, tsq.phase := .running }) (withImages [readyImage] State.reset))
     (s.tsq.phase = .running ∧ s.assignOne.isSome = true ∧ (s.assignOne.bind State.assignOne).isNone = true)) ∧
    (let s := State.reset
     (s.rgu.queue = [])) := by decide +kernel

theorem witness_clears_go_before_loads_6 :
    (let s := (fun s => { s with rgu.queue := [{ bay := 1, kind := .write, cls := .L, requested := 48, minimum := none, passes := 0 }, { bay := 2, kind := .write, cls := .L, requested := 48, minimum := none, passes := 0 }] }) (State.reset.setGrant 0 (some { kind := .write, cls := .M, step := 16, rate := 40000, phase := .settled }))
     (s.rgu.queue = [{ bay := 1, kind := .write, cls := .L, requested := 48, minimum := none, passes := 0 }, { bay := 2, kind := .write, cls := .L, requested := 48, minimum := none, passes := 0 }] ∧ (24 ∈ listedSteps .write .L) ∧ stepRate .L 24 ≤ s.freeRate .write)) := by decide +kernel

theorem witness_clears_go_before_loads_7 :
    (let s := (fun s => { s with rgu.queue := [{ bay := 1, kind := .write, cls := .M, requested := 16, minimum := some 16, passes := 3 }, { bay := 2, kind := .write, cls := .L, requested := 4, minimum := none, passes := 0 }] }) (State.reset.setGrant 0 (some { kind := .write, cls := .M, step := 16, rate := 40000, phase := .settled }))
     (s.rgu.queue = [{ bay := 1, kind := .write, cls := .M, requested := 16, minimum := some 16, passes := 3 }, { bay := 2, kind := .write, cls := .L, requested := 4, minimum := none, passes := 0 }] ∧ (∀ m ∈ listedSteps .write .M, ¬(m ≤ 16 ∧ 16 ≤ m ∧ stepRate .M m ≤ s.freeRate .write)) ∧ 3 < 4)) := by decide +kernel

theorem witness_clears_go_before_loads_8 :
    (let s := (fun s => { s with rgu.queue := [{ bay := 1, kind := .write, cls := .M, requested := 16, minimum := some 16, passes := 4 }, { bay := 2, kind := .write, cls := .L, requested := 4, minimum := none, passes := 0 }] }) (State.reset.setGrant 0 (some { kind := .write, cls := .M, step := 16, rate := 40000, phase := .settled }))
     (s.rgu.queue = [{ bay := 1, kind := .write, cls := .M, requested := 16, minimum := some 16, passes := 4 }, { bay := 2, kind := .write, cls := .L, requested := 4, minimum := none, passes := 0 }] ∧ (∀ m ∈ listedSteps .write .M, ¬(m ≤ 16 ∧ 16 ≤ m ∧ stepRate .M m ≤ s.freeRate .write)) ∧ 4 ≤ 4)) := by decide +kernel

theorem witness_a_print_runs_to_its_end_1 :
    (let s := State.reset
     (s.psc.state ≠ .loaded ∧ s.psc.state ≠ .printing)) ∧
    (let s := copyOnTray { state := .loaded, step := some .artworkWait, timer := some 60000 }
     (s.psc.state = .loaded ∧ s.psc.step = some .artworkWait ∧ s.discAt .printer = some 0 ∧
     s.disc 0 = some (copyAt .printer) ∧ s.jobOf (copyAt .printer) = some (job .printOnly .off) ∧
     (job .printOnly .off).serial.any (fun p => !p.atEnd) = true)) ∧
    (let s := copyOnTray { state := .printing, timer := some 60000 }
     (s.psc.state = .printing ∧ s.discAt .printer = some 0 ∧ s.drainsHard 0 = false ∧
     (s.modDisc 0 (fun r => { r with steps.print := true })).nextStepOf 0 = none)) := by decide +kernel

theorem witness_a_print_runs_to_its_end_2 :
    (let s := withJob (job .printThenBurn .off) (copyOnTray { state := .printing, timer := some 60000 })
     (s.psc.state = .printing ∧ s.discAt .printer = some 0 ∧ s.drainsHard 0 = false ∧
     (s.modDisc 0 (fun r => { r with steps.print := true })).nextStepOf 0 = some .write)) ∧
    (let s := (fun s => { withJob ({ job .printOnly .off with state := .draining, drain := some .hard }) s with tsq.phase := .running, tsq.arm.state := .fault }) (copyOnTray { state := .printing, timer := some 60000 })
     (s.psc.state = .printing ∧ s.discAt .printer = some 0 ∧ s.disc 0 = some (copyAt .printer) ∧
     (copyAt .printer).verdict = .pending ∧ s.drainsHard 0 = true ∧ s.tsq.phase = .running ∧
     s.hasEntry 0 = false)) := by decide +kernel

theorem witness_block_reads_back_as_written :
    (let s := { State.reset with mem := [(3, 1), (2050, 2), (4100, 3)] }
     (s.mem.wf = true)) := by decide +kernel

theorem witness_step_keeps_memory_form_store :
    (let s := { State.reset with pending := [.jam] }
     (s.mem.wf = true ∧ s.pending = [.jam])) := by decide +kernel

theorem witness_tray_motions_end_1 :
    (let s := withBay { state := .offline, tray := .moving } State.reset
     ((s.bay 2).state = .offline)) ∧
    (let s := State.reset
     ((s.bay 2).tray ≠ .moving ∧ (s.bay 2).timers.tray = none ∧ (s.bay 2).state ≠ .absent ∧
     (s.bay 2).state ≠ .offline)) ∧
    (let s := withBay { state := .fault, tray := .unknown, timers.tray := some 4000 } State.reset
     ((s.bay 2).tray ≠ .moving ∧ (s.bay 2).timers.tray.isSome = true ∧ (s.bay 2).state = .fault)) := by decide +kernel

theorem witness_tray_motions_end_2 :
    (let s := { withBay { state := .holding, tray := .moving, traysIn := false, errand := .pick, timers.tray := some 4000 } State.reset with tsq.phase := .sweeping (.bay 2) }
     ((s.bay 2).tray = .moving ∧ s.tsq.phase = .sweeping (.bay 2) ∧ (s.bay 2).state ≠ .fault ∧
     (s.bay 2).traysIn = false)) ∧
    (let s := { withBay { state := .holding, tray := .moving, traysIn := true, errand := .pick, timers.tray := some 4000 } State.reset with tsq.phase := .sweeping (.bay 2) }
     ((s.bay 2).tray = .moving ∧ s.tsq.phase = .sweeping (.bay 2) ∧ (s.bay 2).state ≠ .fault ∧
     (s.bay 2).traysIn = true)) := by decide +kernel

theorem witness_tray_motions_end_3 :
    (let s := withBay { state := .trayOut, tray := .moving, traysIn := false, errand := .pick, timers.tray := some 4000 } (withArm { state := .toSource, motion := some (.goto (.bay 2)), timer := some 6000, move := some { entry := clearEntry, reserved := .out } } State.reset)
     ((s.bay 2).tray = .moving ∧ s.tsq.phase = .running ∧ (s.bay 2).traysIn = false ∧
     s.tsq.arm.move = some { entry := clearEntry, reserved := .out } ∧ (s.bay 2).errand = .pick ∧
     clearEntry.source = .bay 2 ∧ s.tsq.arm.motion.isSome = true)) := by decide +kernel

theorem witness_tray_motions_end_4 :
    (let s := withBay { state := .fault, tray := .moving, traysIn := false, errand := .pick, timers.tray := some 4000 } (withArm { state := .toSource, position := .bay 2, move := some { entry := clearEntry, reserved := .out } } State.reset)
     ((s.bay 2).tray = .moving ∧ s.tsq.phase = .running ∧ (s.bay 2).traysIn = false ∧
     s.tsq.arm.move = some { entry := clearEntry, reserved := .out } ∧ (s.bay 2).errand = .pick ∧
     clearEntry.source = .bay 2 ∧ s.tsq.arm.state = .toSource ∧ s.tsq.arm.motion = none ∧ s.tsq.arm.position = .bay 2 ∧
     s.masterGone clearEntry = false)) := by decide +kernel

theorem witness_tray_motions_end_5 :
    (let s := withDisc (copyAt .arm) (withBay { state := .trayOut, tray := .moving, traysIn := false, errand := .place, timers.tray := some 4000 } (withArm { state := .toDest, position := .bay 2, move := some { entry := { loadEntry with disc := some 0 }, reserved := .tray, gripped := true } } State.reset))
     ((s.bay 2).tray = .moving ∧ s.tsq.phase = .running ∧ (s.bay 2).traysIn = false ∧
     s.tsq.arm.move = some { entry := { loadEntry with disc := some 0 }, reserved := .tray, gripped := true } ∧
     (s.bay 2).errand = .place ∧ loadEntry.dest = .bay 2 ∧ s.tsq.arm.state = .toDest ∧ s.tsq.arm.motion = none ∧
     s.tsq.arm.position = .bay 2 ∧
     s.mustReroute { entry := { loadEntry with disc := some 0 }, reserved := .tray, gripped := true } = false)) := by decide +kernel

theorem witness_tray_motions_end_6 :
    (let s := copyInBay .off { state := .trayOut, tray := .moving, traysIn := true, errand := .place, timers.tray := some 4000 }
     ((s.bay 2).tray = .moving ∧ s.tsq.phase ≠ .sweeping (.bay 2) ∧ (s.bay 2).traysIn = true ∧
     (s.bay 2).errand = .place ∧ (s.bay 2).state ≠ .fault ∧ s.discAt (.bay 2) = some 0 ∧
     s.disc 0 = some (copyAt (.bay 2)))) := by decide +kernel

theorem witness_tray_motions_end_7 :
    (let s := masterInBay (masterImage false) { state := .trayOut, tray := .moving, traysIn := true, errand := .place, timers.tray := some 4000 }
     ((s.bay 2).tray = .moving ∧ s.tsq.phase ≠ .sweeping (.bay 2) ∧ (s.bay 2).traysIn = true ∧
     (s.bay 2).errand = .place ∧ s.discAt (.bay 2) = some 0 ∧ s.disc 0 = some (masterAt (.bay 2)) ∧
     s.image? 1 = some (masterImage false))) := by decide +kernel

theorem witness_tray_motions_end_8 :
    (let s := (withBay { state := .trayOut, tray := .moving, traysIn := true, errand := .place, timers.tray := some 4000 } State.reset).setBayRes 2 (some (.copy 1 1))
     ((s.bay 2).tray = .moving ∧ s.tsq.phase ≠ .sweeping (.bay 2) ∧ (s.bay 2).traysIn = true ∧
     (s.bay 2).errand = .place ∧ s.discAt (.bay 2) = none ∧ (s.bayRes 2).isSome = true)) := by decide +kernel

theorem witness_tray_motions_end_9 :
    (let s := withBay { ({ state := .trayOut, tray := .moving, traysIn := true, errand := .pick, timers.tray := some 4000 } : Bay) with offline := some .quarantine } State.reset
     ((s.bay 2).tray = .moving ∧ s.tsq.phase ≠ .sweeping (.bay 2) ∧ (s.bay 2).traysIn = true ∧
     (s.bay 2).errand = .pick ∧ s.discAt (.bay 2) = none ∧ (s.bay 2).offline = some .quarantine ∧
     s.bayRes 2 = none)) := by decide +kernel

theorem witness_tray_motions_end_10 :
    (let s := copyInBay .off { state := .trayOut, tray := .moving, traysIn := true, errand := .pick, timers.tray := some 4000 }
     ((s.bay 2).tray = .moving ∧ s.tsq.phase ≠ .sweeping (.bay 2) ∧ (s.bay 2).traysIn = true ∧
     (s.bay 2).errand = .pick ∧ s.discAt (.bay 2) = some 0)) ∧
    (let s := copyInBay .off { state := .fault, tray := .moving, traysIn := true, errand := .pick, timers.tray := some 4000 }
     ((s.bay 2).tray = .moving ∧ s.tsq.phase ≠ .sweeping (.bay 2) ∧ (s.bay 2).traysIn = true ∧
     (s.bay 2).state = .fault ∧ (s.bay 2).offline = none)) := by decide +kernel

theorem witness_bays_fault_1 :
    (let s := copyInBay .off { state := .absent }
     ((s.bay 2).state = .absent)) ∧
    (let s := copyInBay .off { state := .offline }
     ((s.bay 2).state = .offline)) ∧
    (let s := copyInBay .off { state := .fault, tray := .moving, errand := .pick, timers.tray := some 4000, offline := some .client }
     ((s.bay 2).state = .fault ∧ (s.discAt (.bay 2)).isSome = true ∧ (s.bay 2).errand ≠ .none)) ∧
    (let s := copyInBay .off { state := .writing, timers.starve := some 2000 }
     ((s.bay 2).state = .writing ∧ (s.bay 2).offline = none ∧ s.discAt (.bay 2) = some 0 ∧
     s.disc 0 = some (copyAt (.bay 2)) ∧ s.waits 2 = false)) := by decide +kernel

theorem witness_bays_fault_2 :
    (let s := copyInBay .off { state := .trayOut, tray := .moving, errand := .place, timers.tray := some 4000 }
     ((s.bay 2).state ≠ .fault ∧ (s.bay 2).timers.tray.isSome = true ∧ (s.bay 2).errand ≠ .none)) ∧
    (let s := copyInBay .off { state := .probing, timers.probe := some 20000 }
     ((s.bay 2).state ≠ .fault ∧ (s.bay 2).timers.probe.isSome = true)) ∧
    (let s := copyInBay .off { state := .grantWait, speedPending := true, timers.speed := some 2000 }
     ((s.bay 2).state ≠ .fault ∧ (s.bay 2).timers.speed.isSome = true)) ∧
    (let s := copyInBay .off { state := .closing, timers.close := some 240000 }
     ((s.bay 2).state ≠ .fault ∧ (s.bay 2).timers.close.isSome = true)) := by decide +kernel

theorem witness_waits_run_out_1 :
    (let s := State.reset
     ((s.bay 2).timers.starve = none ∧ (s.bay 2).timers.read = none ∧ s.jsc.spareHold[(2 : BayId)] = none)) ∧
    (let s := copyInBay .off { state := .writing, fifo := [{ index := 0, data := 3 }], timers.starve := some 2000 }
     (s.discAt (.bay 2) = some 0 ∧ (s.disc 0).map Disc.verdict = some .pending ∧
     (s.bay 2).timers.starve.isSome = true ∧ (s.bay 2).state = .writing)) := by decide +kernel

theorem witness_waits_run_out_2 :
    (let s := copyInBay .count { state := .verifying, tray := .closed, timers.read := some 10000, engine := { phase := .reading, rangeEnd := some 1000, comparePos := 5 } }
     (s.discAt (.bay 2) = some 0 ∧ (s.disc 0).map Disc.verdict = some .pending ∧ (s.bay 2).timers.read.isSome = true ∧
     (s.bay 2).state = .verifying ∧ (s.verifyCtx 2).map VerifyCtx.stop = some 1000)) ∧
    (let s := copyInBay .stop { state := .verifying, tray := .closed, timers.read := some 10000, engine := { phase := .reading, rangeEnd := some 1000, comparePos := 5 } }
     (s.discAt (.bay 2) = some 0 ∧ (s.disc 0).map Disc.verdict = some .pending ∧ (s.bay 2).timers.read.isSome = true ∧
     (s.bay 2).state = .verifying ∧ (s.verifyCtx 2).map VerifyCtx.stop = some 1000)) := by decide +kernel

theorem witness_waits_run_out_3 :
    (let s := masterInBay { masterImage false with refs := 1 } { state := .masterRead, masterNext := 1, holding := [], timers.read := some 10000 }
     ((s.bay 2).state = .masterRead ∧ s.masterImageAt 2 = some 1 ∧ (s.bay 2).masterReported = false ∧
     s.image? 1 = some { masterImage false with refs := 1 } ∧ s.discAt (.bay 2) = some 0 ∧
     (s.disc 0).map Disc.verdict = some .pending ∧ s.masterOf 1 = some 0 ∧ (s.bay 2).timers.read.isSome = true ∧
     (masterImage false).state ≠ .lost ∧ (masterImage false).readDone = false ∧
     (masterImage false).kind = .disc)) := by decide +kernel

theorem witness_waits_run_out_4 :
    (let s := (withBay { state := .spare } (withDisc { copyAt (.bay 2) with purpose := .spare, job := none, attempt := none } State.reset)).setSpareHold 2 (some 60000)
     (s.discAt (.bay 2) = some 0 ∧ (s.disc 0).map Disc.verdict = some .pending ∧
     (s.jsc.spareHold[(2 : BayId)]).isSome = true ∧ (s.bay 2).state = .spare ∧
     (s.disc 0).map Disc.purpose = some .spare)) := by decide +kernel

theorem witness_the_printer_stops_1 :
    (let s := State.reset
     (s.psc.state ≠ .printing)) ∧
    (let s := copyOnTray { state := .printing, timer := some 60000 }
     (s.psc.state = .printing ∧ s.discAt .printer = some 0 ∧ s.disc 0 = some (copyAt .printer) ∧
     s.job? 1 = some (job .printOnly .off) ∧ (job .printOnly .off).state ≠ .draining ∧
     s.tsq.phase ≠ .sweeping .printer)) := by decide +kernel

theorem witness_the_printer_stops_2 :
    (let s := (copyOnTray { state := .printing, cacheTag := some 2, timer := some 60000 }).modPort 0 (fun x => { x with bookings := x.bookings.set 3 (some { kind := .printerJam, scope := some 1, tag := 5, action := .notify }) })
     (s.psc.state ≠ .jammed ∧ s.psc.state = .printing ∧ s.discAt .printer = some 0 ∧
     s.disc 0 = some (copyAt .printer) ∧
     (s.port 0).booked = [{ kind := .printerJam, scope := some 1, tag := 5, action := .notify }] ∧
     s.printerJob = some 1 ∧ (s.port 0).notices.length < 16)) := by decide +kernel

theorem witness_the_printer_stops_3 :
    (let s := (copyOnTray { state := .loaded, step := some .transfer }).modPort 0 (fun x => { x with bookings := x.bookings.set 3 (some { kind := .printerJam, scope := some 1, tag := 5, action := .notify }) })
     (s.psc.state ≠ .jammed ∧ s.psc.state = .loaded ∧ s.psc.step = some .transfer ∧ s.discAt .printer = some 0 ∧
     s.disc 0 = some (copyAt .printer) ∧
     (s.port 0).booked = [{ kind := .printerJam, scope := some 1, tag := 5, action := .notify }] ∧
     s.printerJob = some 1 ∧ (s.port 0).notices.length < 16)) := by decide +kernel

theorem witness_the_printer_stops_4 :
    (let s := (copyOnTray { state := .loaded, step := some .leaving }).modPort 0 (fun x => { x with bookings := x.bookings.set 3 (some { kind := .printerJam, scope := some 1, tag := 5, action := .notify }) })
     (s.psc.state ≠ .jammed ∧ s.psc.state = .loaded ∧ s.psc.step ≠ some .transfer ∧ s.psc.step ≠ some .artworkWait ∧
     s.discAt .printer = some 0 ∧ s.disc 0 = some (copyAt .printer) ∧
     (s.port 0).booked = [{ kind := .printerJam, scope := some 1, tag := 5, action := .notify }] ∧
     s.printerJob = some 1 ∧ (s.port 0).notices.length < 16)) ∧
    (let s := copyOnTray { state := .jammed }
     (s.psc.state = .jammed ∧ s.psc.state ≠ .printing)) := by decide +kernel

theorem witness_the_printer_stops_5 :
    (let s := (copyOnTray { state := .printing, cacheTag := some 2, timer := some 60000 }).modPort 0 (fun x => { x with bookings := x.bookings.set 3 (some { kind := .printerJam, scope := some 1, tag := 5, action := .notify }) })
     (s.psc.timer.isSome = true ∧ s.psc.state = .printing ∧ s.discAt .printer = some 0 ∧
     s.disc 0 = some (copyAt .printer) ∧
     (s.port 0).booked = [{ kind := .printerJam, scope := some 1, tag := 5, action := .notify }] ∧
     s.printerJob = some 1)) := by decide +kernel

theorem witness_the_printer_stops_6 :
    (let s := (copyOnTray { state := .loaded, step := some .artworkWait, timer := some 60000 }).modPort 0 (fun x => { x with bookings := x.bookings.set 3 (some { kind := .printerJam, scope := some 1, tag := 5, action := .notify }) })
     (s.psc.timer.isSome = true ∧ s.psc.state = .loaded ∧ s.psc.step = some .artworkWait ∧ s.psc.sense = none ∧
     s.discAt .printer = some 0 ∧ s.disc 0 = some (copyAt .printer) ∧
     (s.port 0).booked = [{ kind := .printerJam, scope := some 1, tag := 5, action := .notify }] ∧
     s.printerJob = some 1)) ∧
    (let s := State.reset
     (s.psc.timer = none)) := by decide +kernel

theorem witness_only_memory_completions_stop :
    (Instr.jam ≠ .intakeWriteDone ∧ Instr.jam ≠ .masterWriteDone ∧ (∀ d, Instr.jam ≠ .feedReadDone d) ∧
      (∀ d, Instr.jam ≠ .rereadDone d) ∧ ∀ d, Instr.jam ≠ .artworkReadDone d) :=
  ⟨by decide, by decide, nofun, nofun, nofun⟩

/-- The state in which the invariants are met by more than empty tables: a stored block, two images, a settled grant and
an open door, with a command waiting. -/
def wellKept : State :=
  let s := withImages [readyImage, labelImage] (State.reset.setGrant 2
    (some { kind := .write, cls := .L, step := 48, rate := 3600, phase := .settled }))
  { s with
    mem := [(2048, 7)], pending := [.doorLineClosed], tsq.door := .opened, tsq.arm.state := .stopped
    tsq.arm.motion := none }

theorem witness_step_keeps_memory_form : wellKept.memorySafe ∧ ∃ t, step wellKept = .next t :=
  ⟨by show wellKept.mem.wf = true; decide, _, rfl⟩

theorem witness_step_keeps_ledger_within_budget : wellKept.ledgerSafe ∧ ∃ t, step wellKept = .next t := by
  refine ⟨⟨?_, by decide +kernel, by decide +kernel⟩, _, rfl⟩
  show ∀ n, ∀ g ∈ wellKept.grant n, g.rate = stepRate g.cls g.step
  decide +kernel

theorem witness_step_keeps_arm_still_with_door_open :
    wellKept.doorSafe ∧ wellKept.tsq.door = .opened ∧ ∃ t, step wellKept = .next t :=
  ⟨⟨fun _ => rfl, fun _ => .inl rfl⟩, rfl, _, rfl⟩

/-- A HELD job beside one that drains with its hold set, with a command waiting. -/
def wellHeld : State :=
  { State.reset with
    jsc.jobs := [{ job .burnOnly .off with state := .held, holds.byClient := true },
      { job .burnOnly .off with number := 2, state := .draining, holds.byClient := true }]
    pending := [.doorLineOpen] }

theorem witness_step_keeps_jobs : wellHeld.jobsSafe ∧ ∃ t, step wellHeld = .next t := by
  refine ⟨⟨by decide +kernel, ?_⟩, _, rfl⟩
  show ∀ j ∈ wellHeld.jsc.jobs, j.live = true → (j.state = .held ↔ j.holds.nonempty = true)
  decide +kernel

theorem witness_step_keeps_extents_apart : wellKept.extentsSafe ∧ ∃ t, step wellKept = .next t :=
  ⟨⟨by decide +kernel, by decide +kernel⟩, _, rfl⟩

theorem witness_reset_commands :
    (∃ w, Instr.powerOnReset true = .powerOnReset w ∨ Instr.powerOnReset true = .lineReset w) ∧
      ∃ w, Instr.lineReset false = .powerOnReset w ∨ Instr.lineReset false = .lineReset w :=
  ⟨⟨true, .inl rfl⟩, ⟨false, .inr rfl⟩⟩

end Sys2Proof.Tests
end

section
/-! PROOFS. READ-REJECTS (R39): what the Job Scheduler answers in each case, and that a held request only puts that answer
on its port. -/

namespace Sys2Proof.Machine

/-- A kind that needs no right may be sent from every port (test 4 of R193). -/
theorem State.mayRequest_of_kindRights_nil {kind : Nat} (h : kindRights kind = []) (s : State) (p : PortId) :
    s.mayRequest p kind = true := by
  simp [State.mayRequest, h]

@[simp] theorem State.begin_job? (s : State) (job : Nat) : s.begin.job? job = s.job? job := rfl

/-- The layout of 11.2, with the entry count counted from the first index. -/
theorem Job.rejectBytes_eq (j : Job) (first : Nat) :
    j.rejectBytes first = u8 (j.log.length - first) ++ u16 (j.rejected - j.log.length) ++
      ((j.log.drop first).map (fun e =>
        u16 e.attempt ++ opt8 (e.workBay.map Fin.val) ++ u8 e.cause.code ++ opt32 e.firstMismatch)).flatten := by
  rw [← List.length_drop]
  rfl

section
variable {s : State} {job first : Nat}

theorem ownReadRejects_of_job?_none (h : s.job? job = none) :
    ownReadRejects job first s = .refused .noSuch [] := by
  simp [ownReadRejects, h]

theorem ownReadRejects_of_length_lt {j : Job} (h : s.job? job = some j) (hlt : j.log.length < first) :
    ownReadRejects job first s = .refused .badParameter [] := by
  simp [ownReadRejects, h, hlt]

theorem ownReadRejects_of_le_length {j : Job} (h : s.job? job = some j) (hle : first ≤ j.log.length) :
    ownReadRejects job first s = .good (j.rejectBytes first) := by
  simp [ownReadRejects, h, Nat.not_lt.mpr hle]

theorem ownReadRejects_begin : ownReadRejects job first s.begin = ownReadRejects job first s := by
  simp only [ownReadRejects, State.begin_job?]

/-- READ-REJECTS that a port holds: the port gets the owner's answer, computed from the state before the step, and nothing
else changes. -/
theorem exec_readRejects_of_holds {p : PortId} {tag : Nat}
    (h : (s.port p).holdsRequest (requestFrame 13 tag (u16 job ++ u8 first)) = true) :
    exec (.readRejects p tag job first) s =
      .next (s.begin.answer p 13 tag (ownReadRejects job first s)) := by
  change execReadRejects p tag job first s = _
  rw [execReadRejects, requestRead_of_holds h, ownReadRejects_begin]

end

/-- Settles O14, by the three answers that R39 gives: no such job, an index past the log's end, the entries from it. -/
theorem readRejectsListsTheLog : Obligations.ReadRejectsListsTheLog := by
  intro s p tag job first
  refine ⟨s.mayRequest_of_kindRights_nil rfl p, fun hheld => ⟨?noSuch, ?pastEnd, ?listed⟩⟩
  case noSuch =>
    intro hnone
    rw [exec_readRejects_of_holds hheld, ownReadRejects_of_job?_none hnone]
  case pastEnd =>
    intro j hj hlt
    rw [exec_readRejects_of_holds hheld, ownReadRejects_of_length_lt hj hlt]
  case listed =>
    intro j hj hle
    rw [exec_readRejects_of_holds hheld, ownReadRejects_of_le_length hj hle, Job.rejectBytes_eq]

end Sys2Proof.Machine
end

section
/-! PROOFS. The two resets (R88, R90, R201): the blocks that the writing of the bays' reset states does not touch stand at
their reset values. -/

namespace Sys2Proof.Machine

/-- A part of the state that an operation never changes, its repetition does not change. -/
theorem forEach_frame {α β : Type} (part : State → β) {f : α → State → State}
    (hf : ∀ x s, part (f x s) = part s) (xs : List α) (s : State) : part (forEach xs f s) = part s :=
  forEach_keeps (P := fun t => part t = part s) (fun x _ t ht => (hf x t).trans ht) rfl

section
variable (cause : ResetCause) (written : Bool) (s : State)

@[simp] theorem State.afterReset_sst : (s.afterReset cause written).sst = s.sst.load written :=
  forEach_frame State.sst (fun n => State.modBay_sst n _) allBays _

@[simp] theorem State.afterReset_rgu : (s.afterReset cause written).rgu = {} :=
  forEach_frame State.rgu (fun n => State.modBay_rgu n _) allBays _

@[simp] theorem State.afterReset_fdr : (s.afterReset cause written).fdr = {} :=
  forEach_frame State.fdr (fun n => State.modBay_fdr n _) allBays _

end

/-- Both resets leave the state of `afterReset`; they differ only in the cause that it records. -/
theorem exec_reset {c : Instr} {written : Bool} (hc : c = .powerOnReset written ∨ c = .lineReset written) (s : State) :
    ∃ cause, exec c s = .next (s.afterReset cause written) := by
  rcases hc with rfl | rfl
  · exact ⟨.powerOn, rfl⟩
  · exact ⟨.line, rfl⟩

section
variable {s : State}

theorem State.grant_of_rgu_empty (h : s.rgu = {}) (n : BayId) : s.grant n = none := by
  simp [State.grant, h]

theorem State.waits_of_rgu_empty (h : s.rgu = {}) (n : BayId) : s.waits n = false := by
  simp [State.waits, h]

theorem State.stream_of_fdr_empty (h : s.fdr = {}) (n : BayId) : s.stream n = none := by
  simp [State.stream, h]

end

/-- An empty ledger commits no write rate (R76). -/
theorem Rgu.committedWrite_empty : Rgu.committedWrite {} = 0 := rfl

/-- An empty ledger commits nothing of the budget (R76). -/
theorem Rgu.committedTotal_empty : Rgu.committedTotal {} = 0 := rfl

/-- Settles O9: after either reset the Rate Grant Unit and the Feeder stand at their reset values, in which the ledger, the
wait queue and the streams are empty, and the store is the loaded one. -/
theorem resetEmptiesTheGrants : Obligations.ResetEmptiesTheGrants := by
  intro s w c hc
  obtain ⟨cause, hexec⟩ := exec_reset hc s
  have hrgu := s.afterReset_rgu cause w
  have hfdr := s.afterReset_fdr cause w
  refine ⟨s.afterReset cause w, hexec, State.grant_of_rgu_empty hrgu, ?write, ?total, ?queue, ?settings,
    State.stream_of_fdr_empty hfdr, State.waits_of_rgu_empty hrgu⟩
  case write => rw [hrgu, Rgu.committedWrite_empty]
  case total => rw [hrgu, Rgu.committedTotal_empty]
  case queue => rw [hrgu]
  case settings => rw [State.afterReset_sst]

end Sys2Proof.Machine
end

section
/-! PROOFS. What every operation inside a step keeps: the commands waiting, staging memory, the store and the door; the
ledger within its limits (R76, R77), the extents apart (R50, R51), the jobs' numbers and states in order (R20, R25), and a
stopped arm still (R167, R169). One relation says it, and each operation of the model has one lemma. -/

namespace Sys2Proof.Machine

/-! ### The relation -/

/-- What an operation keeps, the arm left aside. -/
structure State.Retains (s t : State) : Prop where
  pending : t.pending = s.pending
  mem : t.mem = s.mem
  sst : t.sst = s.sst
  door : t.tsq.door = s.tsq.door
  ledger : s.ledgerSafe → t.ledgerSafe
  extents : s.extentsSafe → t.extentsSafe
  jobs : s.jobsSafe → t.jobsSafe

/-- What an operation keeps while the door is closed. An operation that moves the arm keeps no more than this: it is
reached only from an arm at work, which a door that is open excludes (R167). -/
structure State.Evolves (s t : State) : Prop extends State.Retains s t where
  shut : s.tsq.door = .closed → s.doorSafe → t.doorSafe

/-- What an operation keeps wherever the door stands. -/
structure State.Keeps (s t : State) : Prop extends State.Evolves s t where
  arm : s.doorSafe → t.doorSafe

/-- An arm in STOPPED or in FAULT. -/
def Arm.stands (a : Arm) : Prop := a.state = .stopped ∨ a.state = .fault

theorem State.doorSafe_iff {s : State} :
    s.doorSafe ↔ (s.tsq.arm.stands → s.tsq.arm.motion = none) ∧ (s.tsq.door = .opened → s.tsq.arm.stands) := Iff.rfl

theorem State.doorSafe.closed {s : State} (h : s.doorSafe) (work : ¬ s.tsq.arm.stands) : s.tsq.door = .closed := by
  cases hd : s.tsq.door with
  | closed => rfl
  | opened => exact absurd (h.2 hd) work

/-- With the door closed the arm is safe once it has no motion in STOPPED or FAULT. -/
theorem State.doorSafe_of_closed {s : State} (hd : s.tsq.door = .closed)
    (h : s.tsq.arm.stands → s.tsq.arm.motion = none) : s.doorSafe :=
  ⟨h, fun ho => by simp [hd] at ho⟩

theorem State.doorSafe_congr {s t : State} (hs : t.tsq.arm.state = s.tsq.arm.state)
    (hm : t.tsq.arm.motion = s.tsq.arm.motion) (hd : t.tsq.door = s.tsq.door) : t.doorSafe ↔ s.doorSafe := by
  simp only [State.doorSafe, hs, hm, hd]

theorem State.ledgerSafe_congr {s t : State} (hl : t.rgu.ledger = s.rgu.ledger) (hs : t.sst = s.sst) :
    t.ledgerSafe ↔ s.ledgerSafe := by
  simp only [State.ledgerSafe, State.grant, Rgu.committedWrite, Rgu.committedTotal, hl, hs]

theorem State.extentsSafe_congr {s t : State} (h : t.cat = s.cat) : t.extentsSafe ↔ s.extentsSafe := by
  simp only [State.extentsSafe, h]

theorem State.jobsSafe_congr {s t : State} (h : t.jsc.jobs = s.jsc.jobs) : t.jobsSafe ↔ s.jobsSafe := by
  simp only [State.jobsSafe, h]

namespace State

variable {s t u : State}

@[refl] theorem Keeps.refl : s.Keeps s :=
  { pending := rfl, mem := rfl, sst := rfl, door := rfl, ledger := id, extents := id, jobs := id
    shut := fun _ => id, arm := id }

theorem Evolves.refl : s.Evolves s := Keeps.refl.toEvolves

theorem Retains.trans (h : s.Retains t) (k : t.Retains u) : s.Retains u where
  pending := k.pending.trans h.pending
  mem := k.mem.trans h.mem
  sst := k.sst.trans h.sst
  door := k.door.trans h.door
  ledger := k.ledger ∘ h.ledger
  extents := k.extents ∘ h.extents
  jobs := k.jobs ∘ h.jobs

theorem Evolves.trans (h : s.Evolves t) (k : t.Evolves u) : s.Evolves u :=
  { h.toRetains.trans k.toRetains with shut := fun hd hs => k.shut (h.door.trans hd) (h.shut hd hs) }

theorem Keeps.trans (h : s.Keeps t) (k : t.Keeps u) : s.Keeps u :=
  { h.toEvolves.trans k.toEvolves with arm := k.arm ∘ h.arm }

theorem Keeps.move (h : s.Keeps t) (k : t.Evolves u) : s.Evolves u := h.toEvolves.trans k

/-- An operation that also keeps the arm safe keeps everything. -/
theorem Retains.keeps (h : s.Retains t) (arm : s.doorSafe → t.doorSafe) : s.Keeps t :=
  { h with shut := fun _ => arm, arm }

/-- An operation reached only from an arm at work keeps what it keeps with the door closed. -/
theorem Evolves.keeps_of_work (h : s.Evolves t) (work : ¬ s.tsq.arm.stands) : s.Keeps t :=
  { h with arm := fun hs => h.shut (hs.closed work) hs }

theorem Keeps.ite {c : Prop} [Decidable c] (h : s.Keeps t) (k : s.Keeps u) : s.Keeps (if c then t else u) := by
  split
  · exact h
  · exact k

theorem Evolves.ite {c : Prop} [Decidable c] (h : s.Evolves t) (k : s.Evolves u) : s.Evolves (if c then t else u) := by
  split
  · exact h
  · exact k

theorem Keeps.of_parts (pending : t.pending = s.pending) (mem : t.mem = s.mem) (sst : t.sst = s.sst)
    (door : t.tsq.door = s.tsq.door) (ledger : s.ledgerSafe → t.ledgerSafe) (extents : s.extentsSafe → t.extentsSafe)
    (jobs : s.jobsSafe → t.jobsSafe) (arm : s.doorSafe → t.doorSafe) : s.Keeps t :=
  { pending, mem, sst, door, ledger, extents, jobs, arm, shut := fun _ => arm }

/-- The parts of the state that the invariants speak of. -/
def guarded (s : State) :
    (List Instr × Memory × Sst) × (Vector (Option Grant) 12 × Cat × List Job) × Door × ArmState × Option Motion :=
  ((s.pending, s.mem, s.sst), (s.rgu.ledger, s.cat, s.jsc.jobs), s.tsq.door, s.tsq.arm.state, s.tsq.arm.motion)

/-- A change of what none of the invariants speaks of. -/
theorem Keeps.of_frame (h : t.guarded = s.guarded) : s.Keeps t := by
  simp only [guarded, Prod.mk.injEq] at h
  obtain ⟨⟨pending, mem, sst⟩, ⟨ledger, cat, jobs⟩, door, state, motion⟩ := h
  exact .of_parts pending mem sst door (ledgerSafe_congr ledger sst).2 (extentsSafe_congr cat).2 (jobsSafe_congr jobs).2
    (doorSafe_congr state motion door).2

/-- A change of the arm that, with the door closed, leaves no motion in STOPPED or FAULT. -/
theorem Evolves.of_arm (h : ({ t with tsq.arm := s.tsq.arm } : State).guarded = s.guarded)
    (shut : s.tsq.door = .closed → s.doorSafe → t.tsq.arm.stands → t.tsq.arm.motion = none) : s.Evolves t := by
  simp only [guarded, Prod.mk.injEq] at h
  obtain ⟨⟨pending, mem, sst⟩, ⟨ledger, cat, jobs⟩, door, -, -⟩ := h
  exact
    { pending, mem, sst, door
      ledger := (ledgerSafe_congr ledger sst).2
      extents := (extentsSafe_congr cat).2
      jobs := (jobsSafe_congr jobs).2
      shut := fun hd hs => doorSafe_of_closed (door.trans hd) (shut hd hs) }

/-- What an operation keeps for each member of a list, its repetition keeps. -/
theorem Keeps.repeat {α : Type} {f : α → State → State} {xs : List α} (hf : ∀ x s, Keeps s (f x s)) :
    s.Keeps (forEach xs f s) :=
  forEach_keeps (P := s.Keeps) (fun x _ t ht => ht.trans (hf x t)) Keeps.refl

/-! ### Tables that none of the invariants speaks of -/

section
variable {s : State}

theorem begin_keeps : s.Keeps s.begin := .of_frame rfl
theorem emit_keeps {m : OutMsg} : s.Keeps (s.emit m) := .of_frame rfl
theorem toBay_keeps {n : BayId} {m : BayMsg} : s.Keeps (s.toBay n m) := .of_frame rfl
theorem toArm_keeps {m : ArmMsg} : s.Keeps (s.toArm m) := .of_frame rfl
theorem toPrinter_keeps {m : PrinterMsg} : s.Keeps (s.toPrinter m) := .of_frame rfl
theorem duePass_keeps : s.Keeps s.duePass := .of_frame rfl
theorem dueSelect_keeps : s.Keeps s.dueSelect := .of_frame rfl
theorem dueBoth_keeps : s.Keeps s.dueBoth := .of_frame rfl
theorem dueSweep_keeps : s.Keeps s.dueSweep := .of_frame rfl
theorem modBay_keeps {n : BayId} {f : Bay → Bay} : s.Keeps (s.modBay n f) := .of_frame rfl
theorem bayTo_keeps {n : BayId} {x : BayState} : s.Keeps (s.bayTo n x) := .of_frame rfl
theorem modTimers_keeps {n : BayId} {f : BayTimers → BayTimers} : s.Keeps (s.modTimers n f) := .of_frame rfl
theorem modPort_keeps {p : PortId} {f : Port → Port} : s.Keeps (s.modPort p f) := .of_frame rfl
theorem modDisc_keeps {d : DiscId} {f : Disc → Disc} : s.Keeps (s.modDisc d f) := .of_frame rfl
theorem freeSlot_keeps {d : DiscId} : s.Keeps (s.freeSlot d) := .of_frame rfl
theorem setBayRes_keeps {n : BayId} {r : Option BayRes} : s.Keeps (s.setBayRes n r) := .of_frame rfl
theorem setSpareHold_keeps {n : BayId} {x : Timer} : s.Keeps (s.setSpareHold n x) := .of_frame rfl
theorem setStream_keeps {n : BayId} {x : Option Stream} : s.Keeps (s.setStream n x) := .of_frame rfl
theorem modStream_keeps {n : BayId} {f : Stream → Stream} : s.Keeps (s.modStream n f) := .of_frame rfl
theorem modDraining_keeps {n : BayId} {f : Nat → Nat} : s.Keeps (s.modDraining n f) := .of_frame rfl
theorem modMove_keeps {f : Move → Move} : s.Keeps (s.modMove f) := .of_frame rfl
theorem deliver_keeps {e : Event} : s.Keeps (s.deliver e) := .of_frame rfl
theorem answer_keeps {p : PortId} {kind tag : Nat} {a : Answer} : s.Keeps (s.answer p kind tag a) := .of_frame rfl
theorem served_keeps : s.Keeps s.served := .of_frame rfl
theorem smcServe_keeps : s.Keeps s.smcServe := .of_frame rfl
theorem sweepTo_keeps {x : SweepAt} : s.Keeps (s.sweepTo x) := .of_frame rfl
theorem stationTo_keeps {x : StationState} : s.Keeps (s.stationTo x) := .of_frame rfl

theorem modSpindle_keeps {x : Spindle} {f : SpindleRec → SpindleRec} : s.Keeps (s.modSpindle x f) := by
  cases x <;> exact .of_frame rfl

theorem createDisc_keeps {r : Disc} : s.Keeps (s.createDisc r).2 := by
  unfold createDisc
  split
  · exact .refl
  · exact .of_frame rfl

end

end State

/-! ### Images -/

namespace State
variable {s t : State}

/-- A change of the catalogue alone. -/
theorem Keeps.of_cat (h : ({ t with cat := s.cat } : State).guarded = s.guarded)
    (extents : s.extentsSafe → t.extentsSafe) : s.Keeps t := by
  simp only [guarded, Prod.mk.injEq] at h
  obtain ⟨⟨pending, mem, sst⟩, ⟨ledger, -, jobs⟩, door, state, motion⟩ := h
  exact .of_parts pending mem sst door (ledgerSafe_congr ledger sst).2 extents (jobsSafe_congr jobs).2
    (doorSafe_congr state motion door).2

/-- A change of images that gives none an extent more keeps the extents apart. -/
theorem modImage_keeps_of_sublist {i : Nat} {f : Image → Image} (hf : ∀ x, (f x).extents.Sublist x.extents) :
    s.Keeps (s.modImage i f) := by
  have hsub : ∀ x : Image, (if x.number = i then f x else x).extents.Sublist x.extents := fun x => by
    split
    · exact hf x
    · exact .refl _
  refine .of_cat rfl fun ⟨hin, hap⟩ => ⟨?_, ?_⟩
  · intro y hy
    obtain ⟨x, hx, rfl⟩ := List.mem_map.1 hy
    exact ⟨(hin x hx).1.sublist (hsub x), fun e he => (hin x hx).2 e ((hsub x).mem he)⟩
  · exact List.pairwise_map.2 (hap.imp fun h e he he' => h e ((hsub _).mem he) ((hsub _).mem he'))

/-- A change of images that leaves their extents keeps the extents apart. -/
theorem modImage_keeps {i : Nat} {f : Image → Image} (hf : ∀ x, (f x).extents = x.extents) :
    s.Keeps (s.modImage i f) :=
  modImage_keeps_of_sublist fun x => by rw [hf x]

/-- Images that leave the catalogue give their extents back (R52). -/
theorem filterImages_keeps {p : Image → Bool} : s.Keeps { s with cat.images := s.cat.images.filter p } :=
  .of_cat rfl fun ⟨hin, hap⟩ => ⟨fun x hx => hin x (List.mem_filter.1 hx).1, hap.filter p⟩

theorem freeTest_keeps {i : Nat} : s.Keeps (s.freeTest i) := by
  unfold freeTest
  split
  · exact .ite filterImages_keeps .refl
  · exact .refl

theorem addRef_keeps {i : Nat} : s.Keeps (s.addRef i) := (modImage_keeps fun _ => by rfl)

theorem dropRef_keeps {i : Nat} : s.Keeps (s.dropRef i) :=
  .trans (modImage_keeps fun _ => by rfl) freeTest_keeps

theorem accessUp_keeps {i : Nat} : s.Keeps (s.accessUp i) := modImage_keeps fun _ => rfl

theorem accessDown_keeps {i : Nat} : s.Keeps (s.accessDown i) :=
  .trans (modImage_keeps fun _ => by rfl) freeTest_keeps

end State

/-! ### Jobs -/

namespace State
variable {s t : State}

/-- A change of the job table alone. -/
theorem Keeps.of_jobs (h : ({ t with jsc.jobs := s.jsc.jobs } : State).guarded = s.guarded)
    (jobs : s.jobsSafe → t.jobsSafe) : s.Keeps t := by
  simp only [guarded, Prod.mk.injEq] at h
  obtain ⟨⟨pending, mem, sst⟩, ⟨ledger, cat, -⟩, door, state, motion⟩ := h
  exact .of_parts pending mem sst door (ledgerSafe_congr ledger sst).2 (extentsSafe_congr cat).2 jobs
    (doorSafe_congr state motion door).2

end State

/-- A job that is neither DRAINING nor terminal is HELD exactly while its hold set has a member (R25). -/
def Job.agrees (j : Job) : Prop := j.live = true → (j.state = .held ↔ j.holds.nonempty = true)

/-- The job table is in order but for what job `n` says of its state. -/
def State.jobsSafeBut (n : Nat) (s : State) : Prop :=
  (s.jsc.jobs.map Job.number).Nodup ∧ ∀ j ∈ s.jsc.jobs, j.number ≠ n → j.agrees

theorem State.jobsSafe_iff {s : State} : s.jobsSafe ↔ (s.jsc.jobs.map Job.number).Nodup ∧ ∀ j ∈ s.jsc.jobs, j.agrees :=
  Iff.rfl

theorem State.job?_mem {s : State} {n : Nat} {j : Job} (h : s.job? n = some j) : j ∈ s.jsc.jobs ∧ j.number = n :=
  ⟨List.mem_of_find?_eq_some h, by simpa using List.find?_some h⟩

/-- With the numbers distinct, a job of the table is the one its number finds. -/
theorem State.job?_of_mem {s : State} (nd : (s.jsc.jobs.map Job.number).Nodup) {j : Job} (h : j ∈ s.jsc.jobs) :
    s.job? j.number = some j := by
  unfold State.job?
  generalize s.jsc.jobs = js at nd h
  induction js with
  | nil => simp at h
  | cons x xs ih =>
    rw [List.map_cons, List.nodup_cons] at nd
    rcases List.mem_cons.1 h with rfl | h
    · simp
    · have : x.number ≠ j.number := fun e => nd.1 (e ▸ List.mem_map_of_mem h)
      simp [this, ih nd.2 h]

theorem State.modJob_jobs {s : State} {n : Nat} {f : Job → Job} :
    (s.modJob n f).jsc.jobs = s.jsc.jobs.map (fun x => if x.number = n then f x else x) := rfl

/-- A change of a job that leaves its number leaves every number. -/
theorem State.modJob_numbers {s : State} {n : Nat} {f : Job → Job} (hf : ∀ j, (f j).number = j.number) :
    (s.modJob n f).jsc.jobs.map Job.number = s.jsc.jobs.map Job.number := by
  rw [State.modJob_jobs, List.map_map]
  refine List.map_congr_left fun x _ => ?_
  simp only [Function.comp]
  split
  · exact hf x
  · rfl

namespace State
variable {s t : State} {n : Nat}

theorem jobsSafe.but (h : s.jobsSafe) : s.jobsSafeBut n := ⟨h.1, fun j hj _ => h.2 j hj⟩

theorem jobsSafe.modJob_but {f : Job → Job} (h : s.jobsSafe) (hf : ∀ j, (f j).number = j.number) :
    (s.modJob n f).jobsSafeBut n := by
  refine ⟨(modJob_numbers hf).symm ▸ h.1, fun y hy hne => ?_⟩
  obtain ⟨x, hx, rfl⟩ := List.mem_map.1 hy
  by_cases hn : x.number = n
  · simp [hn, hf x] at hne
  · rw [if_neg hn]
    exact h.2 x hx

/-- A change of a job that leaves it in order keeps the table in order. -/
theorem modJob_keeps {f : Job → Job} (hf : ∀ j, (f j).number = j.number)
    (ha : ∀ j, j.agrees → (f j).agrees) : s.Keeps (s.modJob n f) := by
  refine .of_jobs rfl fun h => ⟨(modJob_numbers hf).symm ▸ h.1, fun y hy => ?_⟩
  obtain ⟨x, hx, rfl⟩ := List.mem_map.1 hy
  split
  · exact ha x (h.2 x hx)
  · exact h.2 x hx

/-- The state that R25 gives a live job is HELD exactly while its hold set has a member. -/
theorem liveState_held_iff {j : Job} : s.liveState j = .held ↔ j.holds.nonempty = true := by
  unfold liveState
  split
  · simp [*]
  · split <;> simp [*]

/-- Applying R25 to a job puts the table in order. -/
theorem jobsSafeBut.refreshJob (h : s.jobsSafeBut n) : (s.refreshJob n).jobsSafe := by
  unfold State.refreshJob
  split
  · next j hj =>
    obtain ⟨hmem, rfl⟩ := job?_mem hj
    have unique : ∀ x ∈ s.jsc.jobs, x.number = j.number → x = j := fun x hx e => by
      have := job?_of_mem h.1 hx
      rw [e, hj] at this
      exact (Option.some.inj this).symm
    split
    · next hlive =>
      have key : (s.modJob j.number (fun x => { x with state := s.liveState j })).jobsSafe := by
        refine ⟨by rw [modJob_numbers]; exacts [h.1, fun _ => rfl], fun y hy => ?_⟩
        obtain ⟨x, hx, rfl⟩ := List.mem_map.1 hy
        by_cases hn : x.number = j.number
        · obtain rfl := unique x hx hn
          simpa using fun _ => liveState_held_iff
        · rw [if_neg hn]
          exact h.2 x hx hn
      dsimp only
      split <;> exact key
    · next hlive =>
      refine ⟨h.1, fun x hx hl => ?_⟩
      by_cases hn : x.number = j.number
      · exact absurd (unique x hx hn ▸ hl) hlive
      · exact h.2 x hx hn hl
  · next hnone =>
    refine ⟨h.1, fun x hx => h.2 x hx ?_⟩
    rintro rfl
    simp [job?_of_mem h.1 hx] at hnone

/-- Applying R25 leaves everything but the job table and what is due. -/
theorem refreshJob_frame : ∃ (js : List Job) (d : Due), s.refreshJob n = { s with jsc.jobs := js, due := d } := by
  unfold State.refreshJob
  split
  · split
    · dsimp only
      split <;> exact ⟨_, _, rfl⟩
    · exact ⟨_, _, rfl⟩
  · exact ⟨_, _, rfl⟩

theorem refreshJob_keeps : s.Keeps (s.refreshJob n) := by
  obtain ⟨js, d, h⟩ := s.refreshJob_frame (n := n)
  refine .of_jobs ?_ fun hs => hs.but.refreshJob
  rw [h]
  rfl

/-- A change of a job's hold set, with R25 applied after it, keeps the table in order. -/
theorem modJob_refreshJob_keeps {f : Job → Job} (hf : ∀ j, (f j).number = j.number) :
    s.Keeps ((s.modJob n f).refreshJob n) := by
  obtain ⟨js, d, h⟩ := (s.modJob n f).refreshJob_frame (n := n)
  refine .of_jobs ?_ fun hs => (hs.modJob_but hf).refreshJob
  rw [h]
  rfl

theorem refreshNaming_keeps {i : Nat} : s.Keeps (s.refreshNaming i) := .repeat fun _ _ => refreshJob_keeps

theorem addHold_keeps {c : HoldCause} : s.Keeps (s.addHold c n) := by
  unfold addHold
  split
  · exact .ite (.trans (modJob_refreshJob_keeps fun _ => by rfl) deliver_keeps) .refl
  · exact .refl

theorem removeHold_keeps {c : HoldCause} : s.Keeps (s.removeHold c n) := by
  unfold removeHold
  split
  · exact .ite (modJob_refreshJob_keeps fun _ => by rfl) .refl
  · exact .refl

/-- A terminal state that R26 gives is one. -/
theorem terminalOf_terminal {j : Job} {x : JobState} (h : s.terminalOf j = some x) : x.terminal = true := by
  unfold terminalOf at h
  split at h
  · simp at h
  · split at h
    · split at h <;> simp at h; subst h; rfl
    · split at h <;> simp at h; subst h; rfl
    · split at h
      · split at h <;> simp at h <;> subst h <;> rfl
      · simp at h
    · simp at h

theorem Job.agrees_of_not_live {j : Job} (h : j.live = false) : j.agrees := fun hl => by simp [h] at hl

theorem modJob_state_keeps {x : JobState} (hx : x.terminal = true ∨ x = .draining) {f : Job → Job}
    (hf : ∀ j, (f j).number = j.number) (hs : ∀ j, (f j).state = x) :
    s.Keeps (s.modJob n f) :=
  modJob_keeps hf fun j _ => Job.agrees_of_not_live (by rcases hx with h | h <;> simp [Job.live, hs j, h])

theorem terminalTest_keeps : s.Keeps (s.terminalTest n) := by
  unfold terminalTest
  split
  · split
    · next h =>
      exact .trans (.trans (.trans (modJob_state_keeps (.inl (terminalOf_terminal h)) (fun _ => by rfl) fun _ => by rfl)
        (.repeat (f := dropRef) fun _ _ => dropRef_keeps)) (.repeat (f := dropRef) fun _ _ => dropRef_keeps)) deliver_keeps
    · exact .refl
  · exact .refl

theorem evalNoBlanks_keeps : s.Keeps (s.evalNoBlanks n) := by
  unfold evalNoBlanks
  split
  · exact .ite removeHold_keeps addHold_keeps
  · exact .refl

theorem suspectHolds_keeps {x : Spindle} : s.Keeps (s.suspectHolds x) := .repeat fun _ _ => addHold_keeps

theorem clearSuspectHolds_keeps : s.Keeps s.clearSuspectHolds := .repeat fun _ _ => removeHold_keeps

theorem evalSpindles_keeps : s.Keeps s.evalSpindles := .repeat fun _ _ => evalNoBlanks_keeps

theorem loadGone_keeps : s.Keeps (s.loadGone n) :=
  .trans (.trans (modJob_keeps (fun _ => by rfl) fun _ h => by exact h) terminalTest_keeps) duePass_keeps

end State
end Sys2Proof.Machine
end

section
/-! PROOFS. The ledger of the Rate Grant Unit (R72 to R89), and every operation on it. -/

namespace Sys2Proof.Machine

/-! ### The totals -/

/-- Writing one place of a list of numbers moves its sum by the difference. -/
theorem sum_map_set {α : Type} (f : α → Nat) (x : α) :
    ∀ (l : List α) (i : Nat) (h : i < l.length), ((l.set i x).map f).sum + f l[i] = (l.map f).sum + f x
  | y :: l, 0, _ => by simp; omega
  | y :: l, i + 1, h => by
    have := sum_map_set f x l i (by simpa using h)
    simp only [List.set_cons_succ, List.map_cons, List.sum_cons, List.getElem_cons_succ]
    omega

/-- The committed rates after a ledger entry is written. -/
theorem State.total_setGrant (f : Option Grant → Nat) (s : State) (n : BayId) (g : Option Grant) :
    ((s.setGrant n g).rgu.ledger.toList.map f).sum + f (s.grant n) = (s.rgu.ledger.toList.map f).sum + f g := by
  have h : n.val < s.rgu.ledger.toList.length := by simp
  have e : s.rgu.ledger.toList[n.val] = s.grant n := rfl
  rw [← e, ← sum_map_set f g _ n.val h]
  simp [State.setGrant, Vector.toList_set]

namespace State
variable {s t : State} {n : BayId}

/-- A ledger entry is written at the rate of its step, within the ceiling and the budget. -/
theorem ledgerSafe.setGrant {g : Option Grant} (h : s.ledgerSafe)
    (rate : ∀ x, g = some x → x.rate = stepRate x.cls x.step)
    (write : s.rgu.committedWrite + writeRate g ≤ s.sst.working.ceiling + writeRate (s.grant n))
    (total : s.rgu.committedTotal + grantRate g ≤ s.sst.working.budget + grantRate (s.grant n)) :
    (s.setGrant n g).ledgerSafe := by
  refine ⟨fun m x hx => ?_, ?_, ?_⟩
  · by_cases e : m = n
    · subst e; rw [grant_setGrant_self] at hx; exact rate x hx
    · rw [grant_setGrant_ne e] at hx; exact h.1 m x hx
  · have := s.total_setGrant writeRate n g
    simp only [Rgu.committedWrite, setGrant_sst] at *
    omega
  · have := s.total_setGrant grantRate n g
    simp only [Rgu.committedTotal, setGrant_sst] at *
    omega

/-- A change of the Rate Grant Unit alone. -/
theorem Keeps.of_ledger (h : ({ t with rgu.ledger := s.rgu.ledger } : State).guarded = s.guarded)
    (ledger : s.ledgerSafe → t.ledgerSafe) : s.Keeps t := by
  simp only [guarded, Prod.mk.injEq] at h
  obtain ⟨⟨pending, mem, sst⟩, ⟨-, cat, jobs⟩, door, state, motion⟩ := h
  exact .of_parts pending mem sst door ledger (extentsSafe_congr cat).2 (jobsSafe_congr jobs).2
    (doorSafe_congr state motion door).2

theorem clearGrant_keeps : s.Keeps (s.setGrant n none) :=
  .of_ledger rfl fun h => h.setGrant (by simp) (Nat.le_add_right_of_le h.2.1) (Nat.le_add_right_of_le h.2.2)

/-! ### Closing streams -/

theorem closeStream_keeps : s.Keeps (s.closeStream n) := by
  unfold closeStream
  split
  · exact .of_frame rfl
  · exact .refl

/-! ### Scans -/

/-- A step that the grant test admits fits under the ceiling and the budget (R77). -/
theorem grantStep_fits {w : WaitEntry} {m : Nat} (h : s.ledgerSafe) (hm : grantStep w (s.freeRate w.kind) = some m) :
    s.rgu.committedWrite + writeRate (some (w.grant m)) ≤ s.sst.working.ceiling ∧
      s.rgu.committedTotal + grantRate (some (w.grant m)) ≤ s.sst.working.budget := by
  have hf := (grantStep_some hm).2.2.2
  obtain ⟨-, hw, ht⟩ := h
  cases hk : w.kind with
  | write =>
    simp only [freeRate, hk] at hf
    simp only [writeRate, grantRate, WaitEntry.grant, hk]
    simp only [if_true]
    omega
  | verify =>
    simp only [freeRate, hk] at hf
    simp only [writeRate, grantRate, WaitEntry.grant, hk]
    simp
    omega

theorem setGrant_keeps_of_grantStep {w : WaitEntry} {m : Nat} (hm : grantStep w (s.freeRate w.kind) = some m) :
    s.Keeps (s.setGrant w.bay (some (w.grant m))) :=
  .of_ledger rfl fun h => h.setGrant (by rintro _ ⟨⟩; rfl)
    (Nat.le_add_right_of_le (grantStep_fits h hm).1) (Nat.le_add_right_of_le (grantStep_fits h hm).2)

theorem scanWalk_keeps (ws : List WaitEntry) : ∀ s : State, s.Keeps (scanWalk ws s).1 := by
  induction ws with
  | nil => exact fun _ => .refl
  | cons w ws ih =>
    intro s
    unfold scanWalk
    split
    · next m hm => exact (setGrant_keeps_of_grantStep hm).trans (ih _)
    · split
      · exact .refl
      · exact ih s

theorem handGrant_keeps {k : GrantKind} {m : Nat} : s.Keeps (s.handGrant n k m) := .of_frame rfl

theorem handGrants_keeps (marks : List (WaitEntry × ScanMark)) : ∀ s : State, s.Keeps (handGrants marks s) := by
  induction marks with
  | nil => exact fun _ => .refl
  | cons x marks ih =>
    intro s
    obtain ⟨w, x⟩ := x
    cases x with
    | granted m => exact handGrant_keeps.trans (ih _)
    | skipped => exact ih s
    | untested => exact ih s

theorem scan_keeps : s.Keeps s.scan :=
  .trans (.trans (scanWalk_keeps s.rgu.queue s) (.of_frame (by rfl))) (handGrants_keeps _ _)

/-! ### Requests, withdrawals, releases -/

theorem removeGrant_keeps : s.Keeps (s.removeGrant n) := by
  unfold removeGrant
  split
  · exact .ite (.trans clearGrant_keeps closeStream_keeps) clearGrant_keeps
  · exact .refl

theorem removeWait_keeps : s.Keeps (s.removeWait n) := .of_frame rfl

theorem release_keeps : s.Keeps (s.release n) := by
  unfold release
  split
  · exact clearGrant_keeps.trans scan_keeps
  · exact .refl

theorem withdraw_keeps : s.Keeps (s.withdraw n) :=
  .ite (removeGrant_keeps.trans scan_keeps) (.ite (removeWait_keeps.trans scan_keeps) .refl)

theorem setQueue_keeps {q : List WaitEntry} : s.Keeps { s with rgu.queue := q } := .of_frame rfl

theorem requestGrant_keeps {w : WaitEntry} : s.Keeps (s.requestGrant w) :=
  ((removeGrant_keeps.trans (removeWait_keeps (n := w.bay))).trans setQueue_keeps).trans scan_keeps

/-! ### The speed report -/

/-- A ledger entry is a member of both totals. -/
theorem rate_le_total (f : Option Grant → Nat) (s : State) (n : BayId) :
    f (s.grant n) ≤ (s.rgu.ledger.toList.map f).sum :=
  List.single_le_sum (by simp) _ (List.mem_map_of_mem (by simp [grant]))

/-- A settled entry that is no dearer than the one it replaces. -/
theorem settle_keeps_of_le {g x : Grant} (hg : s.grant n = some g) (kind : x.kind = g.kind)
    (rate : x.rate = stepRate x.cls x.step) (le : s.ledgerSafe → x.rate ≤ g.rate) :
    s.Keeps (s.setGrant n (some x)) :=
  .of_ledger rfl fun h => by
    have hle := le h
    refine h.setGrant (by rintro _ ⟨⟩; exact rate) ?_ ?_
    · rw [hg]
      refine Nat.add_le_add h.2.1 ?_
      simp only [writeRate, kind]
      split <;> omega
    · rw [hg]
      exact Nat.add_le_add h.2.2 hle

/-- What the test of a growth admits: the entry's own rate counts as free (R85). -/
theorem growthFits_le {g : Grant} {r : Nat} (h : s.growthFits g r = true) :
    (g.kind = .write → r ≤ s.sst.working.ceiling - (s.rgu.committedWrite - g.rate)) ∧
      r ≤ s.sst.working.budget - (s.rgu.committedTotal - g.rate) := by
  cases hk : g.kind <;> simp only [growthFits, hk, decide_eq_true_eq] at h <;> simp <;> omega

/-- A settled entry that grows to a rate that fits. -/
theorem settle_keeps_of_fits {g x : Grant} (hg : s.grant n = some g) (kind : x.kind = g.kind)
    (rate : x.rate = stepRate x.cls x.step) (fits : s.growthFits g x.rate = true) :
    s.Keeps (s.setGrant n (some x)) :=
  .of_ledger rfl fun h => by
    obtain ⟨fw, ft⟩ := growthFits_le fits
    have hw : writeRate (s.grant n) ≤ s.rgu.committedWrite := s.rate_le_total writeRate n
    have ht : grantRate (s.grant n) ≤ s.rgu.committedTotal := s.rate_le_total grantRate n
    obtain ⟨-, hc, hb⟩ := id h
    rw [hg] at hw ht
    refine h.setGrant (by rintro _ ⟨⟩; exact rate) ?_ ?_
    · rw [hg]
      by_cases hk : g.kind = .write
      · have := fw hk
        simp only [writeRate, kind, hk, if_true] at hw ⊢
        omega
      · simpa [writeRate, kind, hk] using hc
    · rw [hg]
      simp only [grantRate] at ht ⊢
      omega

theorem adjust_keeps {k : Nat} : s.Keeps (s.adjust n k).1 := by
  unfold adjust
  split
  · next g hg =>
    split
    · dsimp only
      split
      · next hle =>
        refine settle_keeps_of_le hg rfl rfl fun h => ?_
        rw [h.1 n g hg]
        exact Nat.mul_le_mul_left _ hle
      · split
        · next hfit => exact settle_keeps_of_fits hg rfl rfl hfit
        · exact clearGrant_keeps.trans (.of_frame (by rfl))
    · exact .refl
  · exact .refl

end State
end Sys2Proof.Machine
end

section
/-! PROOFS. What the bays, the verdicts, the station, the arm and the drains keep. -/

namespace Sys2Proof.Machine.State
variable {s t : State} {n : BayId} {d : DiscId}

/-! ### Bays -/

theorem queueClear_keeps {src : Source} {dest : Dest} : s.Keeps (s.queueClear src d dest) := .ite .refl (.of_frame (by rfl))

theorem clearFromBay_keeps : s.Keeps (s.clearFromBay n) := by
  unfold clearFromBay
  split
  · split
    · exact queueClear_keeps
    · exact .refl
  · exact .refl

theorem rerouteQueued_keeps : s.Keeps (s.rerouteQueued d) := .of_frame rfl

theorem offlineCheck_keeps : s.Keeps (s.offlineCheck n) := by
  unfold offlineCheck
  split
  · exact .ite (.of_frame (by rfl)) .refl
  · exact .refl

theorem idleBay_keeps : s.Keeps (s.idleBay n) := .trans (.trans bayTo_keeps offlineCheck_keeps) dueBoth_keeps

theorem dropBayRes_keeps : s.Keeps (s.dropBayRes n) :=
  .ite (((setBayRes_keeps.trans (.ite bayTo_keeps .refl)).trans offlineCheck_keeps).trans dueBoth_keeps) .refl

theorem dropResOf_keeps {r : BayRes} : s.Keeps (s.dropResOf r) := by
  unfold dropResOf
  split
  · exact dropBayRes_keeps
  · exact .refl

theorem unreserveStation_keeps {r : StationRes} : s.Keeps (s.unreserveStation r) := .ite (.of_frame (by rfl)) .refl

theorem dropCopyRes_keeps {j a : Nat} : s.Keeps (s.dropCopyRes j a) := dropResOf_keeps.trans unreserveStation_keeps

theorem moveTray_keeps {shut : Bool} : s.Keeps (s.moveTray n shut) := .of_frame rfl

theorem openToPlace_keeps : s.Keeps (s.openToPlace n) := .of_frame rfl

theorem openToPick_keeps : s.Keeps (s.openToPick n) := .of_frame rfl

theorem closeTray_keeps : s.Keeps (s.closeTray n) := .ite moveTray_keeps .refl

theorem teardown_keeps {abort : Bool} : s.Keeps (s.teardown n abort) :=
  .trans (.trans (.ite toBay_keeps .refl) withdraw_keeps) modBay_keeps

theorem hold_keeps : s.Keeps (s.hold n) := bayTo_keeps.trans clearFromBay_keeps

theorem leaveVerify_keeps : s.Keeps (s.leaveVerify n) := withdraw_keeps.trans modBay_keeps

/-! ### Verdicts -/

theorem raiseFaults_keeps : s.Keeps (s.raiseFaults n) :=
  .trans modBay_keeps (.ite (modBay_keeps.trans offlineCheck_keeps) .refl)

theorem handBay_keeps {r : Disc} {v : Option RejectCause} : s.Keeps (s.handBay r v) := by
  unfold handBay
  split
  · exact .refl
  · split
    · exact .ite modBay_keeps .refl
    · exact .ite raiseFaults_keeps .refl

theorem handClu_keeps {j : Nat} {c : RejectCause} : s.Keeps (s.handClu j c) :=
  .trans deliver_keeps (.ite addHold_keeps .refl)

end Sys2Proof.Machine.State

namespace Sys2Proof.Machine

/-- A verdict changes a job's accounts, and neither its number, its state nor its hold set. -/
theorem Job.account_frame (r : Disc) (v : Option RejectCause) (j : Job) :
    (j.account r v).number = j.number ∧ (j.account r v).state = j.state ∧ (j.account r v).holds = j.holds := by
  cases v <;> exact ⟨rfl, rfl, rfl⟩

theorem Job.account_agrees {r : Disc} {v : Option RejectCause} {j : Job} (h : j.agrees) : (j.account r v).agrees := by
  obtain ⟨-, hs, hh⟩ := j.account_frame r v
  simpa only [Job.agrees, Job.live, hs, hh] using h

end Sys2Proof.Machine

namespace Sys2Proof.Machine.State
variable {s t : State} {n : BayId} {d : DiscId}

theorem account_keeps {j : Nat} {r : Disc} {v : Option RejectCause} : s.Keeps (s.modJob j (Job.account r v)) :=
  modJob_keeps (fun j => (j.account_frame r v).1) fun _ => Job.account_agrees

theorem handOffs_keeps {r : Disc} {v : Option RejectCause} : s.Keeps (s.handOffs r v) := by
  unfold handOffs
  split
  · exact handBay_keeps
  · split
    · exact account_keeps.trans handBay_keeps
    · exact (account_keeps.trans handBay_keeps).trans handClu_keeps

theorem handResult_keeps {r : Disc} {v : Option RejectCause} : s.Keeps (s.handResult r v) := by
  unfold handResult
  split
  · exact handOffs_keeps
  · split
    · exact ((handOffs_keeps.trans dropCopyRes_keeps).trans terminalTest_keeps).trans duePass_keeps
    · exact (handOffs_keeps.trans terminalTest_keeps).trans duePass_keeps

theorem stopSpareHold_keeps {r : Disc} : s.Keeps (s.stopSpareHold r) := by
  unfold stopSpareHold
  split
  · exact .of_frame rfl
  · exact .refl

theorem writeVerdict_keeps {v : Option RejectCause} : s.Keeps (s.writeVerdict d v) := by
  unfold writeVerdict
  split
  · exact .ite ((modDisc_keeps.trans stopSpareHold_keeps).trans handResult_keeps) .refl
  · exact .refl

theorem enterStep_keeps {x : DiscStep} : s.Keeps (s.enterStep d x) := .of_frame rfl

theorem dropEntries_keeps : s.Keeps (s.dropEntries d) := .of_frame rfl

theorem deleteDisc_keeps : s.Keeps (s.deleteDisc d) := by
  have freed {r : Disc} : s.Keeps (((s.freeSlot d).dropEntries d).stopSpareHold r) :=
    (freeSlot_keeps.trans dropEntries_keeps).trans stopSpareHold_keeps
  unfold deleteDisc
  split
  · split
    · exact ((freed.trans dropCopyRes_keeps).trans terminalTest_keeps).trans duePass_keeps
    · exact (freed.trans terminalTest_keeps).trans duePass_keeps
    · exact freed
  · exact .refl

theorem loseDisc_keeps : s.Keeps (s.loseDisc d) := writeVerdict_keeps.trans deleteDisc_keeps

/-! ### The station -/

theorem withdrawArtwork_keeps : s.Keeps s.withdrawArtwork := by
  unfold withdrawArtwork
  split
  · exact .of_frame rfl
  · exact .refl

theorem clearFromPrinter_keeps : s.Keeps s.clearFromPrinter := by
  unfold clearFromPrinter
  split
  · exact .refl
  · split
    · split
      · exact queueClear_keeps
      · exact .refl
    · exact .refl

/-- A change of the station alone. -/
theorem setStation_keeps {x : Psc} : s.Keeps { s with psc := x } := .of_frame rfl

theorem stationLeaves_keeps : s.Keeps s.stationLeaves := setStation_keeps.trans clearFromPrinter_keeps

theorem stopArtwork_keeps : s.Keeps s.stopArtwork := setStation_keeps.trans withdrawArtwork_keeps

theorem stationOnReject_keeps : s.Keeps (s.stationOnReject d) := by
  unfold stationOnReject
  split
  · exact stopArtwork_keeps.trans stationLeaves_keeps
  · exact stopArtwork_keeps.trans stationLeaves_keeps
  · exact stationLeaves_keeps
  · exact stationLeaves_keeps
  · exact rerouteQueued_keeps
  · exact rerouteQueued_keeps
  · exact clearFromPrinter_keeps
  all_goals exact .refl

theorem stationTaken_keeps : s.Keeps s.stationTaken := by
  unfold stationTaken
  split
  · exact stationTo_keeps.trans dueBoth_keeps
  · exact stationTo_keeps.trans dueBoth_keeps
  · exact .refl

/-! ### The arm -/

theorem motionEnds_keeps : s.Keeps s.motionEnds :=
  { (Evolves.of_arm (by rfl) fun _ _ _ => rfl : s.Evolves s.motionEnds) with arm := fun h => ⟨fun _ => rfl, h.2⟩ }

theorem armFault_keeps {f : ArmFault} : s.Keeps (s.armFault f) :=
  { (Evolves.of_arm (by rfl) fun _ _ _ => rfl : s.Evolves (s.armFault f)) with
    arm := fun _ => ⟨fun _ => rfl, fun _ => .inr rfl⟩ }

theorem reportFull_keeps {out : Bool} : s.Keeps (s.reportFull out) :=
  .ite (.ite .refl (.of_frame (by rfl))) (.ite .refl (.of_frame (by rfl)))

theorem sendMotion_retains {m : Motion} : s.Retains (s.sendMotion m) := by
  have sent (a : Arm) (x : List OutMsg) : s.Retains { s with sent := x, tsq.arm := a } :=
    { pending := rfl, mem := rfl, sst := rfl, door := rfl, ledger := (ledgerSafe_congr rfl rfl).2
      extents := (extentsSafe_congr rfl).2, jobs := (jobsSafe_congr rfl).2 }
  unfold sendMotion
  split
  · exact sent _ _
  · exact sent _ _

theorem sendMotion_evolves {m : Motion} (work : ¬ s.tsq.arm.stands) : s.Evolves (s.sendMotion m) := by
  unfold sendMotion
  split <;> exact .of_arm (by rfl) fun _ _ h => absurd h work

/-- The arm is set to a state in which it works. -/
theorem armTo_evolves {x : ArmState} (work : x ≠ .stopped ∧ x ≠ .fault) : s.Evolves (s.armTo x) :=
  .of_arm (by rfl) fun _ _ h => absurd h (not_or.2 work)

theorem armTo_sendMotion_evolves {x : ArmState} {m : Motion} (work : x ≠ .stopped ∧ x ≠ .fault) :
    s.Evolves ((s.armTo x).sendMotion m) :=
  (armTo_evolves work).trans (sendMotion_evolves (not_or.2 work))

theorem dropMoveRes_keeps {m : Move} : s.Keeps (s.dropMoveRes m) := by
  unfold dropMoveRes
  refine .trans ?_ dueSelect_keeps
  split
  · exact .refl
  · exact .refl
  · exact .refl
  · split
    · exact unreserveStation_keeps
    · exact .refl
  · exact .of_frame rfl
  · exact .of_frame rfl

theorem dropReservation_keeps : s.Keeps s.dropReservation := by
  unfold dropReservation
  split
  · exact dropMoveRes_keeps.trans modMove_keeps
  · exact .refl

theorem park_evolves : s.Evolves s.park := .of_arm (by rfl) fun _ _ h => by rcases h with h | h <;> cases h

theorem giveUp_evolves : s.Evolves s.giveUp := dropReservation_keeps.move park_evolves

theorem askPlace_keeps : s.Keeps (s.askPlace n) :=
  .ite (.of_frame (by rfl)) (.ite .refl (.ite openToPlace_keeps modMove_keeps))

theorem askPick_keeps : s.Keeps (s.askPick n) := .ite (.of_frame (by rfl)) (.ite .refl openToPick_keeps)

theorem closeDest_keeps {m : Move} : s.Keeps (s.closeDest m) := by
  unfold closeDest
  split
  · exact .ite closeTray_keeps .refl
  · exact .refl

theorem reroute_keeps {m : Move} : s.Keeps (s.reroute m) := by
  have aimed (u : State) : u.Keeps (match m.entry.disc with
      | some d => u.modDisc d (fun r => { r with dest := some .rej })
      | none => u) := by
    split
    · exact modDisc_keeps
    · exact .refl
  exact ((dropMoveRes_keeps.trans closeDest_keeps).trans (aimed _)).trans modMove_keeps

/-- The arm sets out to a place. -/
theorem leave_evolves {x : ArmState} {p : Position} (work : x ≠ .stopped ∧ x ≠ .fault) :
    s.Evolves ({ s with tsq.arm.state := x, tsq.arm.trayReady := false }.sendMotion (.goto p)) :=
  .trans (.of_arm (by rfl) fun _ _ h => absurd h (not_or.2 work)) (sendMotion_evolves (not_or.2 work))

theorem setOut_evolves {m : Move} : s.Evolves (s.setOut m) := by
  have sent : s.Evolves (({ s with tsq.arm.state := .toDest, tsq.arm.trayReady := false }.modMove
      (fun v => { v with refused := false })).sendMotion (.goto m.entry.dest.position)) :=
    .trans (.of_arm (by rfl) fun _ _ h => by rcases h with h | h <;> cases h)
      (sendMotion_evolves (by rintro (h | h) <;> cases h))
  have left (u : State) : u.Keeps (match m.entry.source with
      | .bay n => u.closeTray n
      | _ => u) := by
    split
    · exact closeTray_keeps
    · exact .refl
  have asked (u : State) : u.Keeps (match m.entry.dest with
      | .bay n => u.askPlace n
      | _ => u) := by
    split
    · exact askPlace_keeps
    · exact .refl
  exact (sent.trans (left _).toEvolves).trans (asked _).toEvolves

theorem waitForRej_evolves : s.Evolves s.waitForRej :=
  .trans (.ite .refl (armTo_evolves (by decide))) reportFull_keeps.toEvolves

theorem goOn_evolves {m : Move} : s.Evolves (s.goOn m) := by
  unfold goOn
  split
  · split
    · exact Keeps.move (.trans (.of_frame (by rfl)) modMove_keeps) setOut_evolves
    · exact waitForRej_evolves
  · exact setOut_evolves

theorem travel_evolves : s.Evolves s.travel := by
  unfold travel
  split
  · next m _ =>
    have turned : s.Keeps (if s.mustReroute m then s.reroute m else s) := .ite reroute_keeps .refl
    have gone (u : State) : u.Evolves (match u.tsq.arm.move with
        | some m => u.goOn m
        | none => u) := by
      split
      · exact goOn_evolves
      · exact .refl
    exact turned.move (gone _)
  · exact .refl

theorem not_stands {a : Arm} {x : ArmState} (h : a.state = x) (work : x ≠ .stopped ∧ x ≠ .fault) :
    ¬ a.stands := by
  subst h
  exact not_or.2 work

theorem tryRelease_keeps : s.Keeps s.tryRelease := by
  unfold tryRelease
  split
  · split
    · next h =>
      refine Evolves.keeps_of_work (.ite travel_evolves ?_) (not_stands h.1 (by decide))
      split
      · exact .ite (armTo_sendMotion_evolves (by decide)) .refl
      · exact (armTo_sendMotion_evolves (by decide))
    · exact .refl
  · exact .refl

theorem toSource_evolves {m : Move} : s.Evolves (s.toSource m) := by
  unfold toSource
  split
  · have asked (u : State) : u.Keeps (match m.entry.source with
        | .bay n => u.askPick n
        | _ => u) := by
      split
      · exact askPick_keeps
      · exact .refl
    exact ((leave_evolves (x := .toSource) (by decide))).trans (asked _).toEvolves
  · exact travel_evolves

theorem giveUpMaster_evolves {e : Entry} : s.Evolves (s.giveUpMaster e) := by
  unfold giveUpMaster
  split
  · exact giveUp_evolves.trans dropResOf_keeps.toEvolves
  · exact giveUp_evolves

theorem tryGrip_keeps : s.Keeps s.tryGrip := by
  unfold tryGrip
  split
  · split
    · next h =>
      refine Evolves.keeps_of_work ?_ (not_stands h.1 (by decide))
      refine .ite ((armTo_sendMotion_evolves (x := .picking) (by decide))) (.ite giveUpMaster_evolves ?_)
      split
      · exact .ite ((armTo_sendMotion_evolves (x := .picking) (by decide))) .refl
      · exact (armTo_sendMotion_evolves (by decide))
    · exact .refl
  · exact .refl

theorem trayIsReady_keeps : s.Keeps (s.trayIsReady n) := by
  have ready : s.Keeps ({ s with tsq.arm.trayReady := true }.tryGrip.tryRelease) :=
    .trans (.trans (.of_frame (by rfl)) tryGrip_keeps) tryRelease_keeps
  unfold trayIsReady
  split
  · exact .ite ready .refl
  · exact .refl

theorem pickFailed_keeps : s.Keeps (s.pickFailed n) := by
  unfold pickFailed
  split
  · refine .ite (dropReservation_keeps.trans ?_) .refl
    dsimp only
    split
    · next h => exact park_evolves.keeps_of_work (not_stands h.2 (by decide))
    · exact .of_frame rfl
  · exact .refl

theorem placeFailed_keeps : s.Keeps (s.placeFailed n) := by
  unfold placeFailed
  split
  · exact .ite (.of_frame (by rfl)) .refl
  · exact .refl

theorem armOnReject_keeps : s.Keeps s.armOnReject := by
  unfold armOnReject
  split
  · split
    · next h => exact travel_evolves.keeps_of_work (not_stands h.1 (by decide))
    · exact .refl
  · exact .refl


theorem nudgeArm_keeps : s.Keeps s.nudgeArm := by
  rcases s.nudgeArm_cases with h | ⟨wait, h⟩ | ⟨_, n, -, -, -, -, -, -, h⟩
  · rw [h]
  · rw [h]
    refine travel_evolves.keeps_of_work fun stands => ?_
    rcases stands with e | e <;> simp [Arm.waitsForRej, e] at wait
  · rw [h]
    exact modMove_keeps.trans openToPlace_keeps

/-! ### Drains -/

theorem endEarly_keeps {abort : Bool} : s.Keeps (s.endEarly n abort) := teardown_keeps.trans hold_keeps

theorem bayOnReject_keeps : s.Keeps (s.bayOnReject n d) := by
  unfold bayOnReject
  split
  case h_9 => exact rerouteQueued_keeps
  case h_10 => exact clearFromBay_keeps
  case h_11 => exact .refl
  all_goals exact endEarly_keeps

theorem holderOnReject_keeps : s.Keeps (s.holderOnReject d) := by
  unfold holderOnReject
  split
  · exact bayOnReject_keeps
  · exact stationOnReject_keeps
  · exact armOnReject_keeps
  · exact .refl

theorem cancelDisc_keeps : s.Keeps (s.cancelDisc d) := .ite (writeVerdict_keeps.trans holderOnReject_keeps) .refl

theorem endSpareHold_keeps : s.Keeps (s.endSpareHold n) := by
  have ended (u : State) : u.Keeps (match u.discAt (.bay n) with
      | some d => if (u.disc d).any (fun r => r.purpose == .spare) then u.cancelDisc d else u
      | none => u) := by
    split
    · exact .ite cancelDisc_keeps .refl
    · exact .refl
  exact setSpareHold_keeps.trans (ended _)

theorem spareOffline_keeps : s.Keeps (s.spareOffline n) := .ite endSpareHold_keeps .refl

theorem bayToSpare_keeps : s.Keeps (s.bayToSpare n) := (bayTo_keeps.trans spareOffline_keeps).trans dueBoth_keeps

theorem stopForSpare_keeps : s.Keeps (s.stopForSpare n) := withdraw_keeps.trans modBay_keeps

theorem makeSpare_keeps : s.Keeps (s.makeSpare d n) := by
  unfold makeSpare
  have spare : s.Keeps ((s.modDisc d (fun r => { r with purpose := .spare, job := none, attempt := none })).setSpareHold n
      (some Config.spareHoldMs)) := .of_frame rfl
  have stopped (s : State) : s.Keeps (match (s.bay n).state with
      | .grantWait | .prefill => (s.stopForSpare n).bayToSpare n
      | _ => s) := by
    split
    · exact stopForSpare_keeps.trans bayToSpare_keeps
    · exact stopForSpare_keeps.trans bayToSpare_keeps
    · exact .refl
  dsimp only
  split
  · exact ((spare.trans (stopped _)).trans terminalTest_keeps).trans dueBoth_keeps
  · exact (spare.trans (stopped _)).trans dueBoth_keeps

theorem drainDisc_keeps {hard : Bool} : s.Keeps (s.drainDisc hard d) := by
  unfold drainDisc
  split
  · split
    · split
      · exact .ite cancelDisc_keeps .refl
      · exact .ite .refl (.ite cancelDisc_keeps .refl)
      · exact .ite makeSpare_keeps (.ite cancelDisc_keeps .refl)
    · exact .refl
  · exact .refl

theorem drainDiscs_keeps {j : Nat} {hard : Bool} : s.Keeps (s.drainDiscs j hard) :=
  .repeat fun _ _ => .ite drainDisc_keeps .refl

theorem dropLoad_keeps {e : Entry} : s.Keeps (s.dropLoad e) := by
  unfold dropLoad
  have dropped : s.Keeps { s with tsq.queue := s.tsq.queue.filter (fun x => x != e) } := .of_frame rfl
  split
  · exact ((dropped.trans dropCopyRes_keeps).trans loadGone_keeps).trans dueBoth_keeps
  · exact dropped.trans dueBoth_keeps

theorem startDrain_keeps {j : Nat} {k : DrainKind} : s.Keeps (s.startDrain j k) := by
  have begun : s.Keeps (s.modJob j (fun x => { x with drain := some k, state := .draining })) :=
    modJob_state_keeps (.inr rfl) (fun _ => rfl) fun _ => rfl
  have dropped (u : State) : u.Keeps (forEach (u.loadsOf j) dropLoad u) := .repeat fun _ _ => dropLoad_keeps
  unfold startDrain
  exact (((begun.trans (dropped _)).trans drainDiscs_keeps).trans terminalTest_keeps).trans duePass_keeps

theorem hardenDrain_keeps {j : Nat} : s.Keeps (s.hardenDrain j) := by
  have raised : s.Keeps (s.modJob j (fun x => { x with drain := some .hard })) :=
    modJob_keeps (fun _ => rfl) fun _ h => h
  unfold hardenDrain
  exact (raised.trans drainDiscs_keeps).trans terminalTest_keeps

theorem verdict_keeps {v : Option RejectCause} : s.Keeps (s.verdict d v) := by
  unfold verdict
  split
  · next r _ =>
    have failed (u : State) : u.Keeps (match v, r.job with
        | some c, some n => if c.counts && (u.job? n).any Job.overBudget then u.startDrain n .fail else u
        | _, _ => u) := by
      split
      · exact .ite startDrain_keeps .refl
      · exact .refl
    exact .ite (writeVerdict_keeps.trans (failed _)) .refl
  · exact .refl

theorem drainArrival_keeps : s.Keeps (s.drainArrival d) := by
  unfold drainArrival
  split
  · split
    · exact .ite drainDisc_keeps .refl
    · exact .refl
  · exact .refl

theorem bayReject_keeps {c : RejectCause} {abort : Bool} : s.Keeps (s.bayReject n c abort) := by
  unfold bayReject
  split
  · exact verdict_keeps.trans endEarly_keeps
  · exact endEarly_keeps

end Sys2Proof.Machine.State
end

section
/-! PROOFS. What the catalogue, the compare engine, the Feeder and the print station keep. -/

namespace Sys2Proof.Machine.State
variable {s t : State} {n : BayId} {d : DiscId} {i : Nat}

/-! ### The loss of an image -/

theorem stall_keeps {serial : Bool} : s.Keeps (s.stall d serial) := by
  unfold stall
  dsimp only
  refine .trans ?_ drainArrival_keeps
  split
  · exact (setStation_keeps.trans addHold_keeps).trans deliver_keeps
  · exact setStation_keeps

theorem masterSettles_keeps : s.Keeps (s.masterSettles n) := by
  have halted (u : State) : u.Keeps (if u.stillReading n then u.toBay n .readHalt else u) := .ite toBay_keeps .refl
  have stopped (u : State) : u.Keeps
      (if (u.bay n).state = .probing ∧ (u.bay n).timers.probe.isSome then u.toBay n .abort else u) :=
    .ite toBay_keeps .refl
  have settled (u : State) : u.Keeps (match (u.bay n).state with
      | .masterRead | .probing => u.hold n
      | .fault => u.clearFromBay n
      | .holding => if u.sweeping then u else u.clearFromBay n
      | _ => u) := by
    split
    · exact hold_keeps
    · exact hold_keeps
    · exact clearFromBay_keeps
    · exact .ite .refl clearFromBay_keeps
    · exact .refl
  unfold masterSettles
  exact (((halted s).trans (stopped _)).trans modBay_keeps).trans (settled _)

theorem masterOutcome_keeps {ready : Bool} : s.Keeps (s.masterOutcome i ready) := by
  unfold masterOutcome
  split
  · split
    · refine .ite .refl ?_
      dsimp only
      split
      · exact writeVerdict_keeps.trans masterSettles_keeps
      · exact writeVerdict_keeps
    · exact .refl
  · exact .refl

/-- A change of the master-read requests alone. -/
theorem setMasters_keeps {q : List MasterReq} : s.Keeps { s with jsc.masters := q } := .of_frame rfl

/-- A change of the transport queue alone. -/
theorem setEntries_keeps {q : List Entry} : s.Keeps { s with tsq.queue := q } := .of_frame rfl

theorem unassignMaster_keeps : s.Keeps (s.unassignMaster i) :=
  .trans (.trans setMasters_keeps (modImage_keeps fun _ => by rfl)) duePass_keeps

theorem dropMasterLoad_keeps {e : Entry} : s.Keeps (s.dropMasterLoad e) := by
  unfold dropMasterLoad
  dsimp only
  split
  · exact ((setEntries_keeps.trans dropResOf_keeps).trans unassignMaster_keeps).trans dueBoth_keeps
  · exact setEntries_keeps.trans dueBoth_keeps

theorem loseMasterRequest_keeps : s.Keeps (s.loseMasterRequest i) := by
  have dropped (es : List Entry) : s.Keeps (forEach es dropMasterLoad s) := .repeat fun _ _ => dropMasterLoad_keeps
  exact .ite (((dropped _).trans setMasters_keeps).trans duePass_keeps) .refl

theorem recountAccepted_keeps : s.Keeps (s.recountAccepted i) :=
  modImage_keeps fun _ => by split <;> rfl

theorem abortStream_keeps : s.Keeps (s.abortStream i n) := by
  unfold abortStream
  split
  · exact .ite (closeStream_keeps.trans release_keeps) .refl
  · exact .refl

theorem bayImageLost_keeps : s.Keeps (s.bayImageLost i n) := by
  unfold bayImageLost
  split
  · split
    case h_7 => exact modBay_keeps
    case h_8 => exact .refl
    all_goals exact writeVerdict_keeps.trans endEarly_keeps
  · exact .refl

theorem stationImageLost_keeps : s.Keeps (s.stationImageLost i) := by
  unfold stationImageLost
  split
  · exact .ite (withdrawArtwork_keeps.trans stall_keeps) .refl
  · exact .refl

theorem discTold_keeps : s.Keeps (s.discTold i d) := by
  unfold discTold
  split
  · exact bayImageLost_keeps
  · exact .refl

theorem discImageLost_keeps : s.Keeps (s.discImageLost i) := by
  have aborted (u : State) : u.Keeps (forEach allBays (abortStream i) u) := .repeat fun _ _ => abortStream_keeps
  have told (u : State) : u.Keeps (forEach allDiscs (discTold i) u) := .repeat fun _ _ => discTold_keeps
  exact ((aborted s).trans (told _)).trans masterOutcome_keeps

theorem labelImageLost_keeps : s.Keeps (s.labelImageLost i) :=
  stationImageLost_keeps.trans (.ite withdrawArtwork_keeps .refl)

/-- A change of the intake port alone. -/
theorem setIntake_keeps {x : Ipt} : s.Keeps { s with ipt := x } := .of_frame rfl

theorem imageLost_keeps {why : LossReason} : s.Keeps (s.imageLost i why) := by
  have held (js : List Nat) (u : State) : u.Keeps (forEach js (addHold .imageLost) u) :=
    .repeat fun _ _ => addHold_keeps
  unfold imageLost
  split
  · next x _ =>
    have lost : s.Keeps (s.modImage i (fun y => { y with state := .lost, loss := some why })) :=
      modImage_keeps fun _ => rfl
    refine .ite .refl ?_
    dsimp only
    refine .trans (.trans ?_ deliver_keeps) freeTest_keeps
    split
    · exact (((((lost.trans setIntake_keeps).trans recountAccepted_keeps).trans (held _ _)).trans
        loseMasterRequest_keeps).trans discImageLost_keeps)
    · exact (((((lost.trans setIntake_keeps).trans recountAccepted_keeps).trans (held _ _)).trans
        loseMasterRequest_keeps).trans labelImageLost_keeps)
  · exact .refl

/-! ### READY, and the end of a master read -/

theorem imageReady_keeps : s.Keeps (s.imageReady i) :=
  .trans (.trans (modImage_keeps fun _ => by rfl) deliver_keeps) refreshNaming_keeps

theorem masterTest_keeps : s.Keeps (s.masterTest i) := by
  unfold masterTest
  split
  · exact .ite (.ite (imageReady_keeps.trans masterOutcome_keeps) imageLost_keeps) .refl
  · exact .refl

theorem readComplete_keeps : s.Keeps (s.readComplete i) := .trans (modImage_keeps fun _ => by rfl) masterTest_keeps

theorem readFailed_keeps {why : LossReason} : s.Keeps (s.readFailed i why) := .ite imageLost_keeps .refl

theorem accessDone_keeps : s.Keeps (s.accessDone i) := accessDown_keeps.trans masterTest_keeps

theorem ingest_keeps : s.Keeps (s.ingest i) := .ite (.trans (modImage_keeps fun _ => by rfl) refreshNaming_keeps) .refl

/-! ### FAULT -/

theorem errandFails_keeps : s.Keeps (s.errandFails n) := by
  unfold errandFails
  dsimp only
  split
  · exact modBay_keeps.trans pickFailed_keeps
  · exact modBay_keeps.trans placeFailed_keeps
  · exact modBay_keeps

theorem reportFailed_keeps {why : LossReason} : s.Keeps (s.reportFailed i why) :=
  .ite masterOutcome_keeps readFailed_keeps

theorem faultDisc_keeps {noMedia : Bool} : s.Keeps (s.faultDisc d noMedia) := by
  unfold faultDisc
  split
  · exact loseDisc_keeps
  · split
    · split
      · exact verdict_keeps
      · exact verdict_keeps
      · exact .ite reportFailed_keeps .refl
      · exact .refl
    · exact .refl

theorem faultClear_keeps : s.Keeps (s.faultClear n) := .ite clearFromBay_keeps .refl

theorem bayFault_keeps {code : FaultCode} {abort : Bool} : s.Keeps (s.bayFault n code abort) := by
  have sent (c : Bool) (u : State) : u.Keeps (if c then u.toBay n .abort else u) := .ite toBay_keeps .refl
  have treated (u : State) : u.Keeps (match u.discAt (.bay n) with
      | some d => u.faultDisc d (decide (code = FaultCode.noMedia))
      | none => u) := by
    split
    · exact faultDisc_keeps
    · exact .refl
  have cleared (c : Prop) [Decidable c] (u : State) : u.Keeps (if c then u else u.faultClear n) :=
    .ite .refl faultClear_keeps
  unfold bayFault
  exact (((((((modBay_keeps.trans errandFails_keeps).trans (sent _ _)).trans teardown_keeps).trans bayTo_keeps).trans
    (treated _)).trans (cleared _ _)).trans offlineCheck_keeps).trans (dueSweep_keeps.trans dueBoth_keeps)

theorem bayFaultAgain_keeps {code : FaultCode} : s.Keeps (s.bayFaultAgain n code) :=
  (modBay_keeps.trans errandFails_keeps).trans (offlineCheck_keeps.trans (dueSweep_keeps.trans dueBoth_keeps))

/-! ### Toward a grant, and burning -/

theorem towardGrant_keeps {k : GrantKind} : s.Keeps (s.towardGrant n k) := by
  unfold towardGrant
  split
  · refine .ite (writeVerdict_keeps.trans hold_keeps) ?_
    split
    · exact bayTo_keeps.trans requestGrant_keeps
    · exact bayTo_keeps.trans requestGrant_keeps
  · exact .refl

theorem finishBurn_keeps : s.Keeps (s.finishBurn n) := .ite (.of_frame (by rfl)) .refl

theorem sendBlocks_keeps : s.Keeps (s.sendBlocks n) := by
  have sent (bs : List FeedBlock) : s.Keeps (forEach bs (fun x => toBay n (.block x.data)) s) :=
    .repeat fun _ _ => toBay_keeps
  exact .ite (((sent _).trans modBay_keeps).trans finishBurn_keeps) .refl

theorem prefillTest_keeps : s.Keeps (s.prefillTest n) :=
  .ite ((toBay_keeps.trans bayTo_keeps).trans sendBlocks_keeps) .refl

theorem refillTest_keeps : s.Keeps (s.refillTest n) := .trans (.ite modBay_keeps .refl) sendBlocks_keeps

/-! ### The compare engine -/

theorem modEngine_keeps {f : Engine → Engine} : s.Keeps (s.modEngine n f) := modBay_keeps

theorem readTimer_keeps {on : Bool} : s.Keeps (s.readTimer n on) := modBay_keeps

theorem stepDone_keeps : s.Keeps (s.stepDone n d) := by
  unfold stepDone
  split
  · split
    · exact towardGrant_keeps
    · exact hold_keeps
    · exact verdict_keeps.trans hold_keeps
  · exact .refl

theorem verifyReject_keeps {c : RejectCause} : s.Keeps (s.verifyReject n d c) :=
  (verdict_keeps.trans leaveVerify_keeps).trans hold_keeps

theorem verifyPass_keeps : s.Keeps (s.verifyPass n d) :=
  (enterStep_keeps.trans leaveVerify_keeps).trans stepDone_keeps

theorem endTest_keeps {v : VerifyCtx} : s.Keeps (s.endTest n v) := by
  unfold endTest
  dsimp only
  split
  · split
    · exact verifyReject_keeps
    · exact verifyPass_keeps
  · exact .refl

theorem startRange_keeps {first count : Nat} {p : EnginePhase} : s.Keeps (s.startRange n first count p) :=
  (toBay_keeps.trans modEngine_keeps).trans readTimer_keeps

theorem startVerify_keeps : s.Keeps (s.startVerify n) := by
  unfold startVerify
  split
  · exact modBay_keeps.trans startRange_keeps
  · exact .refl

theorem advance_keeps {v : VerifyCtx} : s.Keeps (s.advance n v) := modBay_keeps

theorem stopMismatch_keeps {v : VerifyCtx} : s.Keeps (s.stopMismatch n v) := by
  have halted (c : Prop) [Decidable c] (u : State) : u.Keeps (if c then u.toBay n .readHalt else u) :=
    .ite toBay_keeps .refl
  unfold stopMismatch
  exact (modDisc_keeps.trans (halted _ _)).trans verifyReject_keeps

theorem startRetry_keeps : s.Keeps (s.startRetry n) :=
  .trans modBay_keeps (.ite ((toBay_keeps.trans modEngine_keeps).trans readTimer_keeps) startRange_keeps)

theorem readGo_keeps : s.Keeps (s.readGo n) :=
  .ite ((toBay_keeps.trans modEngine_keeps).trans readTimer_keeps) .refl

theorem judge_keeps {v : VerifyCtx} {e : HeldBlock} {x : FeedBlock} : s.Keeps (s.judge n v e x) := by
  unfold judge
  refine .ite ((advance_keeps.trans readGo_keeps).trans endTest_keeps) ?_
  split
  · exact stopMismatch_keeps
  · exact startRetry_keeps
  · exact ((modDisc_keeps.trans advance_keeps).trans readGo_keeps).trans endTest_keeps

theorem judgeWaiting_keeps (k : Nat) : ∀ s : State, s.Keeps (judgeWaiting n k s) := by
  induction k with
  | zero => exact fun _ => .refl
  | succ k ih =>
    intro s
    unfold judgeWaiting
    dsimp only
    split
    · exact .ite ((modBay_keeps.trans judge_keeps).trans (ih _)) .refl
    · exact .refl

theorem giveUpRead_keeps : s.Keeps (s.giveUpRead n) := by
  have halted (c : Prop) [Decidable c] (u : State) : u.Keeps (if c then u.toBay n .readHalt else u) :=
    .ite toBay_keeps .refl
  unfold giveUpRead
  split
  · exact ((halted _ s).trans modDisc_keeps).trans verifyReject_keeps
  · exact .refl

theorem deliverBlock_keeps {data : BlockData} : s.Keeps (s.deliverBlock n i data) := by
  have acted (u : State) : u.Keeps (match (u.bay n).state with
      | .prefill => u.prefillTest n
      | .writing => u.refillTest n
      | .verifying => judgeWaiting n Config.holdingBlocks u
      | _ => u) := by
    split
    · exact prefillTest_keeps
    · exact refillTest_keeps
    · exact judgeWaiting_keeps _ _
    · exact .refl
  unfold deliverBlock
  exact modBay_keeps.trans (acted _)

/-! ### The Feeder -/

theorem issueFeed_keeps {r : FeedRead} : s.Keeps (s.issueFeed r) := .trans (.of_frame (by rfl)) accessUp_keeps

theorem issueIntake_keeps {w : BlockWrite} : s.Keeps (s.issueIntake w) := .trans (.of_frame (by rfl)) accessUp_keeps

theorem issueMaster_keeps {w : BlockWrite} : s.Keeps (s.issueMaster w) := .trans (.of_frame (by rfl)) accessUp_keeps

theorem intakeIssue_keeps : s.Keeps s.intakeIssue := by
  unfold intakeIssue
  split
  · exact .refl
  · split
    · exact issueIntake_keeps
    · exact .refl

theorem openStream_keeps : s.Keeps (s.openStream n) := by
  unfold openStream
  split
  · exact .ite release_keeps setStream_keeps
  · exact release_keeps

theorem raiseCredits_keeps : s.Keeps s.raiseCredits := .repeat fun _ _ => modStream_keeps

theorem rereadStream_keeps {p : Nat × State} : p.2.Keeps (rereadStream n p).2 := by
  have issued (c : Prop) [Decidable c] (k : Nat) (f : Stream → Stream) (r : FeedRead) :
      p.2.Keeps (if c then p else (k, (p.2.modStream n f).issueFeed r)).2 := by
    split
    · exact .refl
    · exact modStream_keeps.trans issueFeed_keeps
  unfold rereadStream
  split
  · split
    · exact issued _ _ _ _
    · exact .refl
  · exact .refl

theorem rereadArtwork_keeps {p : Nat × State} : p.2.Keeps (rereadArtwork p).2 := by
  unfold rereadArtwork
  split
  · split
    · split
      · exact .trans (.of_frame (by rfl)) issueFeed_keeps
      · exact .refl
    · exact .refl
  · exact .refl

theorem issueRereads_keeps : s.Keeps (issueRereads s).2 := by
  have streams (ns : List BayId) : ∀ p : Nat × State, p.2.Keeps (ns.foldl (fun p n => rereadStream n p) p).2 := by
    induction ns with
    | nil => exact fun _ => .refl
    | cons n ns ih => exact fun p => rereadStream_keeps.trans (ih _)
  exact (streams allBays (0, s)).trans rereadArtwork_keeps

theorem serveBurst_keeps {x : Stream} : s.Keeps (s.serveBurst n x) := setStream_keeps.trans issueFeed_keeps

theorem serveBursts_keeps (limit k : Nat) : ∀ p : Nat × State, p.2.Keeps (serveBursts limit k p).2 := by
  induction k with
  | zero => exact fun _ => .refl
  | succ k ih =>
    intro p
    unfold serveBursts
    split
    · dsimp only
      split
      · exact .refl
      · exact serveBurst_keeps.trans (ih (_, _))
    · exact .refl

theorem serveArtwork_keeps {left : Nat} : s.Keeps (s.serveArtwork left) := by
  unfold serveArtwork
  split
  · exact .ite (.trans (.of_frame (by rfl)) issueFeed_keeps) .refl
  · exact .refl

theorem badBlock_keeps : s.Keeps (s.badBlock n i) := .of_frame rfl

theorem takeBlock_keeps {image : Nat} {w : WordDamage} : s.Keeps (s.takeBlock n image i w) := by
  unfold takeBlock
  split
  · exact .ite (modStream_keeps.trans deliverBlock_keeps) badBlock_keeps
  · exact modStream_keeps
  · exact modDraining_keeps

theorem takeBlocks_keeps (image k : Nat) : ∀ (i : Nat) (ws : List WordDamage) (s : State),
    s.Keeps (takeBlocks n image k i ws s) := by
  induction k with
  | zero => exact fun _ _ _ => .refl
  | succ k ih => exact fun i ws s => takeBlock_keeps.trans (ih _ _ _)

theorem streamEnd_keeps : s.Keeps (s.streamEnd n) := by
  unfold streamEnd
  split
  · exact .ite (setStream_keeps.trans release_keeps) .refl
  · exact .refl

theorem takeReread_keeps {image : Nat} {w : WordDamage} : s.Keeps (s.takeReread n image i w) := by
  unfold takeReread
  split
  · exact .ite ((modStream_keeps.trans deliverBlock_keeps).trans streamEnd_keeps) (modStream_keeps.trans imageLost_keeps)
  · exact modStream_keeps
  · exact modDraining_keeps

theorem transferComplete_keeps : s.Keeps s.transferComplete := by
  unfold transferComplete
  split
  · exact setStation_keeps
  · exact .refl

theorem artworkEnd_keeps : s.Keeps s.artworkEnd := by
  unfold artworkEnd
  split
  · exact .ite (.trans (.of_frame (by rfl)) transferComplete_keeps) .refl
  · exact .refl

theorem modArtwork_keeps {f : Transfer → Transfer} : s.Keeps (s.modArtwork f) := .of_frame rfl

theorem artworkBlock_keeps {data : BlockData} : s.Keeps (s.artworkBlock data) := .of_frame rfl

theorem takeArtwork_keeps {image : Nat} {w : WordDamage} : s.Keeps (s.takeArtwork image i w) := by
  unfold takeArtwork
  split
  · exact .ite (modArtwork_keeps.trans artworkBlock_keeps) (.of_frame (by rfl))
  · exact modArtwork_keeps
  · exact .refl

theorem takeArtworks_keeps (image k : Nat) : ∀ (i : Nat) (ws : List WordDamage) (s : State),
    s.Keeps (takeArtworks image k i ws s) := by
  induction k with
  | zero => exact fun _ _ _ => .refl
  | succ k ih => exact fun i ws s => takeArtwork_keeps.trans (ih _ _ _)

theorem takeArtworkReread_keeps {image : Nat} {w : WordDamage} : s.Keeps (s.takeArtworkReread image i w) := by
  unfold takeArtworkReread
  split
  · exact .ite ((modArtwork_keeps.trans artworkBlock_keeps).trans artworkEnd_keeps) (modArtwork_keeps.trans imageLost_keeps)
  · exact modArtwork_keeps
  · exact .refl

/-! ### The print station -/

theorem assignSerial_keeps : s.Keeps (s.assignSerial d) := by
  unfold assignSerial
  split
  · exact .trans modDisc_keeps (modJob_keeps (fun _ => by rfl) fun _ h => by exact h)
  · exact .refl

theorem mergeStep_keeps : s.Keeps (s.mergeStep d) := by
  unfold mergeStep
  split
  · exact .ite stall_keeps ((toPrinter_keeps.trans toPrinter_keeps).trans setStation_keeps)
  · exact .refl

theorem requestArtwork_keeps {x : Image} : s.Keeps (s.requestArtwork x) := .trans withdrawArtwork_keeps (.of_frame (by rfl))

theorem artworkStep_keeps : s.Keeps (s.artworkStep d) := by
  unfold artworkStep
  split
  · exact .ite stall_keeps (.ite mergeStep_keeps ((setStation_keeps.trans toPrinter_keeps).trans requestArtwork_keeps))
  · exact stall_keeps

theorem stationActs_keeps : s.Keeps (s.stationActs d) := by
  unfold stationActs
  split
  · exact .ite (setStation_keeps.trans artworkStep_keeps) stationLeaves_keeps
  · exact .refl

theorem stationPlaced_keeps : s.Keeps (s.stationPlaced d) := by
  have acted (u : State) : u.Keeps (match u.psc.state with
      | .inkOut | .jammed => u
      | _ => u.stationActs d) := by
    split
    · exact .refl
    · exact .refl
    · exact stationActs_keeps
  exact setStation_keeps.trans (acted _)

theorem jamDisc_keeps {was : StationState} {step : Option PrintStep} : s.Keeps (s.jamDisc was step) := by
  unfold jamDisc
  split
  · split
    · exact assignSerial_keeps.trans verdict_keeps
    · exact withdrawArtwork_keeps.trans verdict_keeps
    · exact withdrawArtwork_keeps.trans verdict_keeps
    · exact .refl
  · exact .refl

theorem jam_keeps {c : JamCause} : s.Keeps (s.jam c) :=
  ((setStation_keeps.trans deliver_keeps).trans jamDisc_keeps).trans duePass_keeps

theorem proceedSense_keeps : s.Keeps s.proceedSense := .ite (setStation_keeps.trans toPrinter_keeps) .refl

theorem sensePrinter_keeps : s.Keeps s.sensePrinter := setStation_keeps.trans proceedSense_keeps

end Sys2Proof.Machine.State
end

section
/-! PROOFS. What the moves of the arm, the assignment pass, the selection and the sweep keep, and with them the end of a
step. -/

namespace Sys2Proof.Machine.State
variable {s t : State} {n : BayId} {d : DiscId} {i : Nat}

/-! ### Spindles -/

theorem treatLoad_keeps {x : Spindle} {empty : Bool} {e : Entry} : s.Keeps (s.treatLoad x empty e) := by
  unfold treatLoad
  exact .ite (setEntries_keeps.trans dueSelect_keeps) (.ite (.ite dropMasterLoad_keeps .refl) dropLoad_keeps)

theorem treatLoads_keeps {x : Spindle} {empty : Bool} : s.Keeps (s.treatLoads x empty) :=
  .repeat fun _ _ => treatLoad_keeps

theorem turnEmpty_keeps {x : Spindle} : s.Keeps (s.turnEmpty x) :=
  (((modSpindle_keeps.trans deliver_keeps).trans evalSpindles_keeps).trans treatLoads_keeps).trans dueBoth_keeps

theorem turnSuspect_keeps {x : Spindle} : s.Keeps (s.turnSuspect x) :=
  ((((modSpindle_keeps.trans deliver_keeps).trans suspectHolds_keeps).trans evalSpindles_keeps).trans
    treatLoads_keeps).trans dueBoth_keeps

theorem foundEmpty_keeps {x : Spindle} : s.Keeps (s.foundEmpty x) := .ite modSpindle_keeps turnEmpty_keeps

theorem takeFrom_keeps {x : Spindle} {k : Nat} : s.Keeps (s.takeFrom x k) := by
  unfold takeFrom
  split
  · exact .ite foundEmpty_keeps modSpindle_keeps
  · exact .refl

theorem classTest_keeps {x : Spindle} {same : Bool} : s.Keeps (s.classTest x same) := by
  have counted (u : State) : u.Keeps (if Config.suspectCount ≤ (u.spindle x).wrong then u.turnSuspect x else u) :=
    .ite turnSuspect_keeps .refl
  unfold classTest
  exact .ite modSpindle_keeps (.ite .refl (modSpindle_keeps.trans (counted _)))

/-! ### Grips -/

/-- The second of two results keeps what it keeps under a name of its own. -/
theorem Keeps.of_snd {α : Type} {p : α × State} {a : α} (h : s.Keeps p.2) (e : p = (a, t)) : s.Keeps t := by
  subst e
  exact h

theorem gripTold_keeps {e : Entry} : s.Keeps (s.gripTold e) := by
  unfold gripTold
  split
  · exact setMasters_keeps.trans duePass_keeps
  · exact loadGone_keeps
  · exact .refl

theorem gripSpindle_evolves {x : Spindle} : s.Evolves (s.gripSpindle x) := by
  unfold gripSpindle
  split
  · split
    · next e =>
      exact (((((createDisc_keeps.of_snd e).trans modMove_keeps).trans takeFrom_keeps).trans gripTold_keeps).move
        travel_evolves)
    · next e => exact (createDisc_keeps.of_snd e).toEvolves
  · exact .refl

theorem loadDropped_keeps {e : Entry} : s.Keeps (s.loadDropped e) := by
  unfold loadDropped
  split
  · exact dropResOf_keeps.trans unassignMaster_keeps
  · exact dropCopyRes_keeps.trans loadGone_keeps
  · exact .refl

theorem gripEmptySpindle_evolves {x : Spindle} : s.Evolves (s.gripEmptySpindle x) := by
  have resumed (u : State) : u.Evolves (match u.tsq.arm.move with
      | some v => u.toSource v
      | none => u) := by
    split
    · exact toSource_evolves
    · exact .refl
  unfold gripEmptySpindle
  split
  · next m _ =>
    have turned (u : State) : u.Evolves (if u.canTurn m.entry x then
        let u := u.modMove (fun v => { v with entry.source := .spindle x.other })
        match u.tsq.arm.move with
        | some v => u.toSource v
        | none => u
      else u.giveUp.loadDropped m.entry) :=
      .ite (modMove_keeps.move (resumed _)) (giveUp_evolves.trans loadDropped_keeps.toEvolves)
    exact foundEmpty_keeps.move (turned _)
  · exact .refl

theorem freshPick_keeps {e : Entry} : s.Keeps (s.freshPick e) := by
  have renamed (j a b : Nat) (u : State) : u.Keeps (forEach allBays (fun n s =>
      if s.bayRes n = some (.copy j a) then s.setBayRes n (some (.copy j b)) else s) u) :=
    .repeat fun _ _ => .ite setBayRes_keeps .refl
  have queued (u : State) (x : Option StationRes) (q : List Entry) :
      u.Keeps { u with psc.reservedFor := x, tsq.queue := q } := .of_frame rfl
  unfold freshPick
  split
  · refine .ite ?_ (dropCopyRes_keeps.trans loadGone_keeps)
    exact .trans (.trans (.trans (modJob_keeps (fun _ => by rfl) fun _ h => by exact h) (renamed _ _ _ _)) (queued _ _ _))
      dueBoth_keeps
  · exact setEntries_keeps.trans dueBoth_keeps

theorem createPair_keeps {e : Entry} {x : Spindle} : s.Keeps (s.createPair e x).2 := by
  unfold createPair
  dsimp only
  split
  · next h => exact ((createDisc_keeps.of_snd h).trans handOffs_keeps).trans duePass_keeps
  · next h => exact createDisc_keeps.of_snd h

theorem doublePick_evolves {x : Spindle} : s.Evolves (s.doublePick x) := by
  unfold doublePick
  split
  · split
    · next h =>
      exact ((((((createPair_keeps.of_snd h).trans takeFrom_keeps).trans dropReservation_keeps).trans
        freshPick_keeps).trans modMove_keeps).move travel_evolves)
    · next h => exact (createPair_keeps.of_snd h).toEvolves
  · exact .refl

theorem gripDoubleSpindle_retains {x : Spindle} : s.Retains (s.gripDoubleSpindle x) := by
  unfold gripDoubleSpindle
  split
  · split
    · exact sendMotion_retains
    · exact doublePick_evolves.toRetains
  · exact Keeps.refl.toRetains

theorem gripDoubleSpindle_evolves {x : Spindle} (work : ¬ s.tsq.arm.stands) : s.Evolves (s.gripDoubleSpindle x) := by
  unfold gripDoubleSpindle
  split
  · exact .ite (sendMotion_evolves work) doublePick_evolves
  · exact .refl

theorem leftHolding_keeps : s.Keeps (s.leftHolding n) := .ite modBay_keeps .refl

theorem gripPlace_evolves : s.Evolves s.gripPlace := by
  unfold gripPlace
  split
  · next m _ =>
    split
    · next d _ =>
      have left (u : State) : u.Keeps (match m.entry.source with
          | .printer => u.stationTaken.unreserveStation (.disc d)
          | .bay n => (u.leftHolding n).offlineCheck n
          | _ => u) := by
        split
        · exact stationTaken_keeps.trans unreserveStation_keeps
        · exact leftHolding_keeps.trans offlineCheck_keeps
        · exact .refl
      exact ((modDisc_keeps.trans modMove_keeps).trans (left _)).move travel_evolves
    · exact .refl
  · exact .refl

/-! ### Releases -/

theorem retryReleased_evolves (work : ¬ s.tsq.arm.stands) : s.Evolves s.retryReleased := by
  unfold retryReleased
  split
  · exact .ite giveUpMaster_evolves (modMove_keeps.move (sendMotion_evolves work))
  · exact sendMotion_evolves work

theorem regrip_evolves {m : Move} {src : Source} : s.Evolves (s.regrip m src) := by
  unfold regrip
  exact modMove_keeps.move ((armTo_sendMotion_evolves (x := .picking) (by decide)))

theorem takePlaced_keeps : s.Keeps (s.takePlaced n d) := by
  unfold takePlaced
  split
  · exact (faultDisc_keeps.trans faultClear_keeps).trans dueBoth_keeps
  · exact moveTray_keeps.trans modBay_keeps
  · exact moveTray_keeps.trans modBay_keeps
  · exact closeTray_keeps

theorem releasedAtBay_evolves {m : Move} : s.Evolves (s.releasedAtBay m d n) := by
  have placed (u : State) : u.Evolves (((u.setBayRes n none).park.drainArrival d).takePlaced n d) :=
    (setBayRes_keeps.move park_evolves).trans (drainArrival_keeps.trans takePlaced_keeps).toEvolves
  unfold releasedAtBay
  exact modDisc_keeps.move (.ite regrip_evolves (placed _))

theorem releasedAtPrinter_evolves {m : Move} : s.Evolves (s.releasedAtPrinter m d) := by
  have placed (u : State) : u.Evolves ((u.park.drainArrival d).stationPlaced d) :=
    park_evolves.trans (drainArrival_keeps.trans stationPlaced_keeps).toEvolves
  unfold releasedAtPrinter
  exact modDisc_keeps.move (.ite regrip_evolves (placed _))

theorem releasedAway_evolves {m : Move} : s.Evolves (s.releasedAway m d) := by
  unfold releasedAway
  dsimp only
  split
  · exact .trans (Keeps.toEvolves (.of_frame (by rfl))) ((dropMoveRes_keeps.trans loseDisc_keeps).move park_evolves)
  · exact .trans (Keeps.toEvolves (.of_frame (by rfl))) ((dropMoveRes_keeps.trans loseDisc_keeps).move park_evolves)

theorem beginTenure_keeps {m : Move} : s.Keeps (s.beginTenure m) := by
  unfold beginTenure
  split
  · exact .ite (.of_frame (by rfl)) .refl
  · exact .refl

theorem placeReleased_evolves : s.Evolves s.placeReleased := by
  unfold placeReleased
  split
  · split
    · dsimp only
      refine Evolves.trans ?_ beginTenure_keeps.toEvolves
      split
      · exact releasedAtBay_evolves
      · exact releasedAtPrinter_evolves
      · exact releasedAway_evolves
    · exact park_evolves
  · exact park_evolves

/-! ### The recovery HOMED -/

theorem recoverLost_evolves : s.Evolves (s.recoverLost d) := by
  have closed (m : Move) (u : State) : u.Keeps (match m.entry.dest with
      | .bay n => closeTray n (match m.entry.source with | .bay n => closeTray n u | _ => u)
      | _ => (match m.entry.source with | .bay n => closeTray n u | _ => u)) := by
    split <;> split
    · exact closeTray_keeps.trans closeTray_keeps
    · exact closeTray_keeps
    · exact closeTray_keeps
    · exact .refl
  have ended (u : State) : u.Evolves (match u.tsq.arm.move with
      | some m => (match m.entry.dest with
        | .bay n => closeTray n (match m.entry.source with | .bay n => closeTray n u | _ => u)
        | _ => (match m.entry.source with | .bay n => closeTray n u | _ => u)).giveUp
      | none => u.park) := by
    split
    · exact (closed _ _).move giveUp_evolves
    · exact park_evolves
  unfold recoverLost
  dsimp only
  split
  · exact (loseDisc_keeps.move (ended _)).trans dropResOf_keeps.toEvolves
  · exact loseDisc_keeps.move (ended _)

theorem recoverHolding_evolves : s.Evolves s.recoverHolding := by
  unfold recoverHolding
  split
  · split
    · exact gripSpindle_evolves
    · exact gripPlace_evolves
    · exact gripPlace_evolves
    · exact .ite (modMove_keeps.move toSource_evolves) armFault_keeps.toEvolves
    · exact armFault_keeps.toEvolves
  · exact armFault_keeps.toEvolves

theorem recover_evolves {holding : Bool} : s.Evolves (s.recover holding) := by
  unfold recover
  split
  · exact recoverLost_evolves
  · split
    · exact travel_evolves
    · exact park_evolves
  · exact recoverHolding_evolves
  · split
    · exact modMove_keeps.move toSource_evolves
    · exact park_evolves

/-! ### The assignment pass -/

theorem reserveBay_keeps {r : BayRes} : s.Keeps (s.reserveBay n r) :=
  (setBayRes_keeps.trans bayTo_keeps).trans dueSelect_keeps

theorem joinQueue_keeps {e : Entry} : s.Keeps (s.joinQueue e) := .of_frame rfl

theorem assignMaster_keeps {q : MasterReq} (h : s.assignMaster q = some t) : s.Keeps t := by
  unfold assignMaster at h
  split at h
  · split at h
    · cases h
      exact .trans (.trans (reserveBay_keeps.trans setMasters_keeps) (modImage_keeps fun _ => by rfl)) joinQueue_keeps
    · cases h
  · cases h

theorem takeSpare_keeps {j : Job} : s.Keeps (s.takeSpare j n) := by
  have counted : s.Keeps (s.modJob j.number (fun x => { x with attempts := j.attempts + 1 })) :=
    modJob_keeps (fun _ => rfl) fun _ h => h
  unfold takeSpare
  split
  · exact ((counted.trans modDisc_keeps).trans setSpareHold_keeps).trans towardGrant_keeps
  · exact .refl

theorem queueCopy_keeps {j : Job} {x : Spindle} {dest : Dest} : s.Keeps (s.queueCopy j x dest) :=
  .trans (modJob_keeps (fun _ => by rfl) fun _ h => by exact h) joinQueue_keeps

theorem reserveStation_keeps {r : StationRes} : s.Keeps (s.reserveStation r) := .of_frame rfl

theorem assignCopy_keeps {j : Job} (h : s.assignCopy j = some t) : s.Keeps t := by
  have bay {n : BayId} {r : BayRes} {x : Spindle} : s.Keeps ((s.reserveBay n r).queueCopy j x (.bay n)) :=
    reserveBay_keeps.trans queueCopy_keeps
  have both {n : BayId} {r : BayRes} {k : StationRes} {x : Spindle} :
      s.Keeps (((s.reserveBay n r).reserveStation k).queueCopy j x .printer) :=
    (reserveBay_keeps.trans reserveStation_keeps).trans queueCopy_keeps
  have station {k : StationRes} {x : Spindle} : s.Keeps ((s.reserveStation k).queueCopy j x .printer) :=
    reserveStation_keeps.trans queueCopy_keeps
  have write (h : (match allBays.find? (s.spareFits j) with
      | some n => some (s.takeSpare j n)
      | none =>
        match s.firstFree, s.chosenSpindle j, s.entryFree with
        | some n, some x, true => some ((s.reserveBay n (.copy j.number (j.attempts + 1))).queueCopy j x (.bay n))
        | _, _, _ => none) = some t) : s.Keeps t := by
    split at h
    · cases h
      exact takeSpare_keeps
    · split at h
      · cases h
        exact bay
      · cases h
  unfold assignCopy at h
  split at h
  · dsimp only at h
    split at h
    · exact write h
    · exact write h
    · split at h
      · cases h
        exact both
      · cases h
    · split at h
      · cases h
        exact station
      · cases h
  · cases h

theorem assignOne_keeps (h : s.assignOne = some t) : s.Keeps t := by
  unfold assignOne at h
  cases hm : s.jsc.masterOrder.findSome? (fun q => s.assignMaster q) with
  | some u =>
    rw [hm] at h
    cases h
    obtain ⟨q, -, hq⟩ := List.exists_of_findSome?_eq_some hm
    exact assignMaster_keeps hq
  | none =>
    rw [hm] at h
    obtain ⟨j, -, hj⟩ := List.exists_of_findSome?_eq_some h
    exact assignCopy_keeps hj

theorem assignMany_keeps (k : Nat) : ∀ s : State, s.Keeps (assignMany k s) := by
  induction k with
  | zero => exact fun _ => .refl
  | succ k ih =>
    intro s
    unfold assignMany
    split
    · next h => exact (assignOne_keeps h).trans (ih _)
    · exact .refl

theorem pass_keeps : s.Keeps s.pass := .ite .refl (assignMany_keeps _ _)

/-! ### The selection -/

theorem reserveFor_keeps {e : Entry} : s.Keeps (s.reserveFor e).2 := by
  unfold reserveFor
  split
  · exact .refl
  · split
    · split
      · exact reserveStation_keeps
      · exact .refl
    · exact .refl
  · exact .of_frame rfl
  · exact .of_frame rfl

theorem startMove_evolves {e : Entry} : s.Evolves (s.startMove e) := by
  have taken (u : State) (m : Move) : u.Keeps
      { u with tsq.queue := u.tsq.queue.erase e, tsq.arm.move := some m, tsq.arm.trayReady := false }.duePass :=
    .of_frame rfl
  unfold startMove
  dsimp only
  split
  · split
    · exact ((reserveFor_keeps.trans (taken _ _)).trans modDisc_keeps).move travel_evolves
    · exact (reserveFor_keeps.trans (taken _ _)).move travel_evolves
  · exact (reserveFor_keeps.trans (taken _ _)).move toSource_evolves

theorem noticeFull_keeps {es : List Entry} : s.Keeps (noticeFull es s) :=
  .repeat fun e s => by
    split
    · exact .ite .refl reportFull_keeps
    · exact .ite .refl reportFull_keeps
    · exact .refl

theorem selectByAge_evolves : s.Evolves s.selectByAge := by
  unfold selectByAge
  dsimp only
  split
  · exact noticeFull_keeps.move startMove_evolves
  · split
    · exact noticeFull_keeps.move startMove_evolves
    · exact noticeFull_keeps.toEvolves

theorem select_keeps : s.Keeps s.select := by
  have ended : s.Keeps { s with tsq.tenure := none } := .of_frame rfl
  unfold select
  split
  · next h =>
    refine Evolves.keeps_of_work ?_ (not_stands h.1 (by decide))
    dsimp only
    split
    · exact ended.move startMove_evolves
    · exact ended.move selectByAge_evolves
  · exact .refl

/-! ### The sweep -/

theorem keepDisc_keeps {l : Location} : s.Keeps (s.keepDisc l d) := by
  have rejected (c : Bool) : s.Keeps (if c then s.writeVerdict d (some .cleared) else s) := .ite writeVerdict_keeps .refl
  have aimed (c : Prop) [Decidable c] (u : State) (x : Dest) :
      u.Keeps (if c then u.modDisc d (fun r => { r with dest := some x }) else u) := .ite modDisc_keeps .refl
  unfold keepDisc
  dsimp only
  split
  · exact ((rejected _).trans (aimed _ _ _)).trans queueClear_keeps
  · exact rejected _

theorem reconcile_keeps {l : Location} {present : Bool} : s.Keeps (s.reconcile l present) := by
  unfold reconcile
  split
  · exact keepDisc_keeps
  · exact loseDisc_keeps
  · split
    · next e => exact (createDisc_keeps.of_snd e).trans queueClear_keeps
    · next e => exact createDisc_keeps.of_snd e
  · exact .refl

theorem probeSense_keeps : s.Keeps (s.probeSense n) := .of_frame rfl

theorem startSense_keeps : s.Keeps (s.startSense n) := by
  unfold startSense
  split
  · exact .refl
  · exact probeSense_keeps
  · exact moveTray_keeps.trans modBay_keeps

theorem settleBay_keeps : s.Keeps (s.settleBay n) := by
  unfold settleBay
  split
  · exact offlineCheck_keeps.trans dueBoth_keeps
  · exact offlineCheck_keeps.trans dueBoth_keeps
  · exact offlineCheck_keeps.trans dueBoth_keeps
  · exact .ite bayTo_keeps idleBay_keeps

theorem bayAnswered_keeps {present : Bool} : s.Keeps (s.bayAnswered n present) :=
  (modBay_keeps.trans reconcile_keeps).trans settleBay_keeps

theorem sweepBays_keeps (ns : List BayId) : ∀ s : State, s.Keeps (sweepBays ns s) := by
  induction ns with
  | nil => exact fun _ => sweepTo_keeps.trans sensePrinter_keeps
  | cons n ns ih =>
    intro s
    have answered (u : State) : u.Keeps (match u.senseNow n with
        | some present => sweepBays ns (u.bayAnswered n present)
        | none => u.startSense n) := by
      split
      · exact bayAnswered_keeps.trans (ih _)
      · exact startSense_keeps
    exact sweepTo_keeps.trans (answered _)

theorem senseAnswer_keeps {present : Bool} : s.Keeps (s.senseAnswer n present) :=
  .ite (bayAnswered_keeps.trans (sweepBays_keeps _ _)) modBay_keeps

theorem sweepPoke_keeps : s.Keeps s.sweepPoke := by
  unfold sweepPoke
  split
  · split
    · exact senseAnswer_keeps
    · exact .refl
  · exact .refl

theorem sweepArm_evolves {holding : Bool} : s.Evolves (s.sweepArm holding) := by
  have parked (u : State) : u.Evolves { u with tsq.arm.move := none, tsq.arm.state := .parked } :=
    .of_arm (by rfl) fun _ _ h => by rcases h with h | h <;> cases h
  unfold sweepArm
  exact reconcile_keeps.move ((parked _).trans (sweepBays_keeps _ _).toEvolves)

theorem settleStation_keeps : s.Keeps s.settleStation := by
  unfold settleStation
  split
  · exact .refl
  · exact .refl
  · exact .ite setStation_keeps stationTo_keeps

theorem sweepEnds_keeps : s.Keeps s.sweepEnds := .of_frame rfl

theorem printerAnswered_keeps {present : Bool} : s.Keeps (s.printerAnswered present) :=
  (reconcile_keeps.trans settleStation_keeps).trans sweepEnds_keeps

/-! ### The end of a step -/

theorem settle_keeps' : s.Keeps s.settle :=
  settle_keeps (P := s.Keeps) (fun _ _ h => h.trans (.of_frame (by rfl))) (fun _ h => h.trans sweepPoke_keeps)
    (fun _ h => h.trans pass_keeps) (fun _ h => h.trans nudgeArm_keeps) (fun _ h => h.trans select_keeps) .refl

end Sys2Proof.Machine.State
end

section
/-! PROOFS. What each command keeps, and from it the five invariants of every step (O2 to O7, O18). -/

namespace Sys2Proof.Machine.State
variable {s t : State} {n : BayId} {d : DiscId} {i : Nat} {p : PortId}

/-! ### Requests -/

theorem frameCheck_keeps : s.Keeps (s.frameCheck p) := by
  unfold frameCheck
  dsimp only
  split
  · exact modPort_keeps.trans answer_keeps
  · exact modPort_keeps

theorem sendFrame_keeps {frame : List Byte} : s.Keeps (s.sendFrame p frame) := modPort_keeps.trans frameCheck_keeps

/-- A request keeps what its owner keeps. -/
theorem request_keeps {kind tag : Nat} {params : List Byte} {owner : State → State} (h : ∀ u, Keeps u (owner u)) :
    s.Keeps (request p kind tag params owner s) := by
  rcases request_cases p kind tag params owner s with ⟨u, -, hu | hu, e⟩ | ⟨-, e⟩ | ⟨-, e⟩ <;> rw [e]
  · exact hu ▸ (begin_keeps.trans (h _)).trans settle_keeps'
  · exact hu ▸ ((begin_keeps.trans sendFrame_keeps).trans (h _)).trans settle_keeps'
  · exact begin_keeps.trans sendFrame_keeps
  · exact begin_keeps

theorem requestNow_keeps {kind tag : Nat} {params : List Byte} {owner : State → State × Answer}
    (h : ∀ u, Keeps u (owner u).1) : s.Keeps (requestNow p kind tag params owner s) :=
  request_keeps fun u => (h u).trans answer_keeps

theorem requestRead_keeps {kind tag : Nat} {params : List Byte} {owner : State → Answer} :
    s.Keeps (requestRead p kind tag params owner s) :=
  requestNow_keeps fun _ => .refl

/-- The extents an image is opened with are free ones, lowest first (R51). -/
theorem openEntry_keeps {kind : ImageKind} {length flags : Nat} {src : ImageSource} :
    s.Keeps (s.openEntry p kind length flags src).2 := by
  refine .of_cat rfl fun ⟨hin, hap⟩ => ?_
  have free : ∀ e ∈ s.cat.freeExtents.take (extentsFor length), e ∈ s.cat.extents ∧ s.cat.held e = false := fun e he => by
    simpa [Cat.freeExtents] using List.mem_of_mem_take he
  refine ⟨fun x hx => ?_, ?_⟩
  · rcases List.mem_append.1 hx with hx | hx
    · exact hin x hx
    · obtain rfl := List.mem_singleton.1 hx
      refine ⟨((List.nodup_range.filter _).sublist (List.take_sublist _ _)), fun e he => ?_⟩
      exact List.mem_range.1 (free e he).1
  · refine List.pairwise_append.2 ⟨hap, List.pairwise_singleton _ _, fun x hx y hy e he he' => ?_⟩
    obtain rfl := List.mem_singleton.1 hy
    have := (free e he').2
    simp only [Cat.held, List.any_eq_false, List.contains_iff_mem] at this
    exact this x hx he

theorem ownOpenImage_keeps {kind length flags : Nat} : s.Keeps (ownOpenImage p kind length flags s).1 := by
  unfold ownOpenImage
  split
  · exact .refl
  · split
    · exact .refl
    · split
      · exact .refl
      · exact openEntry_keeps

theorem ownSealImage_keeps {image : Nat} : s.Keeps (ownSealImage p image s).1 := by
  unfold ownSealImage
  split
  · exact .refl
  · repeat' split
    any_goals exact .refl
    · exact .trans (modImage_keeps fun _ => by rfl) imageReady_keeps
    · exact (modImage_keeps fun _ => by rfl)

theorem ownAbandonImage_keeps {image : Nat} : s.Keeps (ownAbandonImage p image s).1 := by
  unfold ownAbandonImage
  split
  · exact .refl
  · repeat' split
    any_goals exact .refl
    exact imageLost_keeps

theorem ownDeleteImage_keeps {image : Nat} : s.Keeps (ownDeleteImage p image s).1 := by
  unfold ownDeleteImage
  split
  · exact .refl
  · split
    · exact .refl
    · split
      · exact .refl
      · exact .refl
      · split
        · exact .refl
        · exact freeTest_keeps
      · exact .trans (modImage_keeps fun _ => by rfl) freeTest_keeps

theorem queueMaster_keeps {x : Spindle} : s.Keeps (s.queueMaster i x) := .of_frame rfl

theorem ownImageFromDisc_keeps {length spindle flags : Nat} :
    s.Keeps (ownImageFromDisc p length spindle flags s).1 := by
  unfold ownImageFromDisc
  split
  · exact .refl
  · split
    · exact .refl
    · split
      · exact .refl
      · split
        · exact .refl
        · exact openEntry_keeps.trans queueMaster_keeps

end Sys2Proof.Machine.State

namespace Sys2Proof.Machine

/-! ### Numbers -/

/-- A search that ends at a taken number has met only taken ones. -/
theorem mem_of_freeNumber_mem {taken : List Nat} :
    ∀ {k n : Nat}, freeNumber taken k n ∈ taken → ∀ i ≤ k, nextNumber^[i] n ∈ taken
  | 0, n, h, i, hi => by
    obtain rfl : i = 0 := by omega
    exact h
  | k + 1, n, h, i, hi => by
    unfold freeNumber at h
    split at h
    · next hn =>
      cases i with
      | zero => exact List.contains_iff_mem.1 hn
      | succ i => exact mem_of_freeNumber_mem h i (by omega)
    · next hn => exact absurd h (by simpa using hn)

/-- The numbers after one, up to a whole turn (R20, R48). -/
theorem iterate_nextNumber (n : Nat) :
    ∀ {i : Nat}, i < 65535 → nextNumber^[i + 1] n = if 65535 ≤ n then i + 1 else if n + i + 1 ≤ 65535 then n + i + 1 else
      n + i + 1 - 65535
  | 0, _ => by
    rw [Function.iterate_succ_apply', Function.iterate_zero_apply]
    unfold nextNumber
    split_ifs <;> omega
  | i + 1, h => by
    rw [Function.iterate_succ_apply', iterate_nextNumber n (Nat.lt_of_succ_lt h)]
    unfold nextNumber
    split_ifs <;> omega

theorem iterate_nextNumber_injOn {k : Nat} (hk : k < 65535) (n : Nat) :
    ∀ i ∈ List.range (k + 1), ∀ j ∈ List.range (k + 1), nextNumber^[i] n = nextNumber^[j] n → i = j := by
  intro i hi j hj h
  rw [List.mem_range] at hi hj
  rcases i with _ | i <;> rcases j with _ | j
  · rfl
  · rw [iterate_nextNumber n (by omega), Function.iterate_zero_apply] at h
    split_ifs at h <;> omega
  · rw [iterate_nextNumber n (by omega), Function.iterate_zero_apply] at h
    split_ifs at h <;> omega
  · rw [iterate_nextNumber n (by omega), iterate_nextNumber n (by omega)] at h
    split_ifs at h <;> omega

/-- Of one number more than are taken, one is free (R20, R48). -/
theorem freeNumber_not_mem {taken : List Nat} (h : taken.length < 65535) (n : Nat) :
    freeNumber taken taken.length n ∉ taken := by
  intro hmem
  have sub : (List.range (taken.length + 1)).map (fun i => nextNumber^[i] n) ⊆ taken := by
    intro x hx
    obtain ⟨i, hi, rfl⟩ := List.mem_map.1 hx
    exact mem_of_freeNumber_mem hmem i (Nat.lt_succ_iff.1 (List.mem_range.1 hi))
  have nd : ((List.range (taken.length + 1)).map (fun i => nextNumber^[i] n)).Nodup :=
    List.Nodup.map_on (iterate_nextNumber_injOn h n) List.nodup_range
  simpa using (List.subperm_of_subset nd sub).length_le

/-- A search that begins at a number ends at one. -/
theorem freeNumber_range {taken : List Nat} :
    ∀ {k n : Nat}, 1 ≤ n → n ≤ 65535 → 1 ≤ freeNumber taken k n ∧ freeNumber taken k n ≤ 65535
  | 0, _, h1, h2 => ⟨h1, h2⟩
  | k + 1, n, h1, h2 => by
    unfold freeNumber
    split
    · refine freeNumber_range ?_ ?_ <;> unfold nextNumber <;> split <;> omega
    · exact ⟨h1, h2⟩

end Sys2Proof.Machine

namespace Sys2Proof.Machine.State
variable {s t : State} {n : BayId} {d : DiscId} {i : Nat} {p : PortId}

/-! ### Requests on jobs -/

/-- Jobs that leave the table. -/
theorem filterJobs_keeps {q : Job → Bool} : s.Keeps { s with jsc.jobs := s.jsc.jobs.filter q } :=
  .of_jobs rfl fun ⟨nd, ha⟩ =>
    ⟨nd.sublist ((List.filter_sublist).map _), fun j hj => ha j (List.mem_filter.1 hj).1⟩

/-- A job enters the table with a number of its own and the state of R25. -/
theorem appendJob_keeps {j : Job} {a b : Nat} (number : s.jobsSafe → j.number ∉ s.jsc.jobs.map Job.number)
    (agrees : j.agrees) :
    s.Keeps { s with jsc.jobs := s.jsc.jobs ++ [j], jsc.jobCounter := a, jsc.seqCounter := b } :=
  .of_jobs rfl fun h => by
    refine ⟨?_, fun x hx => ?_⟩
    · simpa [List.nodup_append, h.1] using number h
    · rcases List.mem_append.1 hx with hx | hx
      · exact h.2 x hx
      · obtain rfl := List.mem_singleton.1 hx
        exact agrees

theorem newJob_agrees {j : Job} : (s.newJob j).agrees := fun _ => liveState_held_iff

theorem enterJob_keeps {j : Job} (number : s.jobsSafe → j.number ∉ s.jsc.jobs.map Job.number) (agrees : j.agrees) :
    s.Keeps (s.enterJob j) := by
  have raised (is : List Nat) (u : State) : u.Keeps (forEach is addRef u) := .repeat fun _ _ => addRef_keeps
  exact ((appendJob_keeps number agrees).trans (raised _ _)).trans duePass_keeps

/-- A submission that is not refused finds the table with a free entry (R22). -/
theorem jobs_length_of_submitRefusal {j : Job} (h : s.submitRefusal p j = none) : s.jsc.jobs.length < Config.jobEntries := by
  by_contra hlt
  unfold submitRefusal at h
  extract_lets at h
  split_ifs at h with _ _ _ _ full
  exact full (Nat.not_lt.1 hlt)

theorem ownSubmitJob_keeps {x : SubmitParams} : s.Keeps (ownSubmitJob p x s).1 := by
  unfold ownSubmitJob
  split
  · exact .refl
  · split
    · exact .refl
    · next h =>
      refine enterJob_keeps (fun _ => ?_) newJob_agrees
      have hlen := jobs_length_of_submitRefusal h
      have := freeNumber_not_mem (taken := s.jsc.jobs.map Job.number)
        (by rw [List.length_map]; exact hlen.trans (by decide)) s.jsc.jobCounter
      rwa [List.length_map] at this

theorem ownHoldJob_keeps {job : Nat} : s.Keeps (ownHoldJob p job s).1 := by
  unfold ownHoldJob
  split
  · exact .refl
  · repeat' split
    any_goals exact .refl
    exact addHold_keeps

theorem ownReleaseJob_keeps {job : Nat} : s.Keeps (ownReleaseJob p job s).1 := by
  unfold ownReleaseJob
  split
  · exact .refl
  · repeat' split
    any_goals exact .refl
    exact (removeHold_keeps.trans removeHold_keeps).trans removeHold_keeps

theorem cancel_keeps {job : Nat} {was : Option DrainKind} {k : DrainKind} : s.Keeps (s.cancel job was k) := by
  unfold cancel
  split
  · exact startDrain_keeps
  · exact hardenDrain_keeps
  · exact hardenDrain_keeps
  · exact .refl

theorem ownCancelJob_keeps {job kind : Nat} : s.Keeps (ownCancelJob p job kind s).1 := by
  unfold ownCancelJob
  split
  · exact .refl
  · exact .refl
  · repeat' split
    any_goals exact .refl
    exact cancel_keeps

theorem ownRetireJob_keeps {job : Nat} : s.Keeps (ownRetireJob p job s).1 := by
  unfold ownRetireJob
  split
  · exact .refl
  · repeat' split
    any_goals exact .refl
    exact filterJobs_keeps

/-! ### Requests on the mechanisms -/

theorem ownBayOffline_keeps {bay : Nat} : s.Keeps (ownBayOffline bay s).1 := by
  unfold ownBayOffline
  split
  · exact .refl
  · dsimp only
    split
    · exact .refl
    · split
      · exact .refl
      · exact (modBay_keeps.trans offlineCheck_keeps).trans spareOffline_keeps

theorem onlineClear_keeps : s.Keeps (s.onlineClear n) := .ite .refl clearFromBay_keeps

theorem bringOnline_keeps : s.Keeps (s.bringOnline n) := by
  unfold bringOnline
  split
  · exact bayTo_keeps.trans dueBoth_keeps
  · exact .ite ((bayTo_keeps.trans onlineClear_keeps).trans dueBoth_keeps) (bayTo_keeps.trans dueBoth_keeps)
  · exact .refl

theorem ownBayOnline_keeps {bay : Nat} : s.Keeps (ownBayOnline bay s).1 := by
  unfold ownBayOnline
  split
  · exact .refl
  · split
    · exact .refl
    · exact modBay_keeps.trans bringOnline_keeps

theorem setSpindle_keeps {x : Spindle} {c : Option MediaClass} {k : Option Nat} : s.Keeps (s.setSpindle x c k) := by
  have emptied (c : Prop) [Decidable c] (u : State) : u.Keeps (if c then u.turnEmpty x else u) := .ite turnEmpty_keeps .refl
  unfold setSpindle
  exact (((modSpindle_keeps.trans (emptied _ _)).trans evalSpindles_keeps).trans clearSuspectHolds_keeps).trans
    dueBoth_keeps

theorem ownSetSpindle_keeps {spindle cls count : Nat} : s.Keeps (ownSetSpindle spindle cls count s).1 := by
  unfold ownSetSpindle
  split
  · exact setSpindle_keeps
  · exact .refl

theorem ownSpindleEmptied_keeps {place : Nat} : s.Keeps (ownSpindleEmptied place s).1 := by
  unfold ownSpindleEmptied
  split
  · exact .of_frame rfl
  · exact .of_frame rfl
  · exact .refl

theorem goHome_evolves : s.Evolves s.goHome := (armTo_sendMotion_evolves (x := .homing) (by decide))

theorem ownArmResume_keeps : s.Keeps (ownArmResume s).1 := by
  have cleared : s.Keeps { s with tsq.arm.fault := none } := .of_frame rfl
  unfold ownArmResume
  split
  · exact .refl
  · next h =>
    refine (cleared.move goHome_evolves).toRetains.keeps fun hs => (cleared.move goHome_evolves).shut ?_ hs
    cases hd : s.tsq.door with
    | closed => rfl
    | opened => exact absurd (.inr hd) h

/-- An empty ledger is within every ceiling and budget. -/
theorem ledgerSafe_of_rgu_empty (h : s.rgu = {}) : s.ledgerSafe := by
  refine ⟨fun n g hg => ?_, ?_, ?_⟩
  · rw [grant_of_rgu_empty h] at hg
    cases hg
  · rw [h, Rgu.committedWrite_empty]
    exact Nat.zero_le _
  · rw [h, Rgu.committedTotal_empty]
    exact Nat.zero_le _

theorem clearFeeds_keeps : s.Keeps s.clearFeeds := by
  have closed : s.Keeps (forEach allBays closeStream s) := .repeat fun _ _ => closeStream_keeps
  have emptied (u : State) : u.Keeps { u with rgu := {} } := .of_ledger rfl fun _ => ledgerSafe_of_rgu_empty rfl
  unfold clearFeeds
  exact closed.trans (emptied _)

theorem clearBayWork_keeps : s.Keeps (s.clearBayWork n) := .ite .refl (teardown_keeps.trans modBay_keeps)

theorem clearDisc_keeps : s.Keeps (s.clearDisc d) := .ite writeVerdict_keeps .refl

theorem clearBayState_keeps : s.Keeps (s.clearBayState n) := by
  unfold clearBayState
  split
  · exact .refl
  · exact .refl
  · exact .refl
  · exact offlineCheck_keeps
  · exact .ite bayTo_keeps (bayTo_keeps.trans offlineCheck_keeps)

theorem clearMaster_keeps : s.Keeps (s.clearMaster n) := by
  unfold clearMaster
  split
  · split
    · exact reportFailed_keeps
    · exact .refl
  · exact .refl

theorem clearStation_keeps : s.Keeps s.clearStation := by
  have sensed (u : State) (x : Psc) (c : Prop) [Decidable c] : u.Keeps (if c then { u with psc := x } else u) :=
    .ite setStation_keeps .refl
  have settled (u : State) : u.Keeps (match u.psc.state with
      | .loaded =>
        let s := u.withdrawArtwork
        { s with psc.step := some .leaving, psc.timer := if s.psc.sense.isSome then s.psc.timer else none }
      | .reserved => u.stationTo .vacant
      | _ => u) := by
    split
    · exact withdrawArtwork_keeps.trans setStation_keeps
    · exact stationTo_keeps
    · exact .refl
  unfold clearStation
  exact (setStation_keeps.trans (sensed _ _ _)).trans (settled _)

theorem clearTransport_keeps : s.Keeps s.clearTransport := by
  have halted : s.Keeps (if s.tsq.arm.state = .stopped then s else s.toArm .halt) := .ite .refl toArm_keeps
  unfold clearTransport
  exact (halted.trans motionEnds_keeps).trans (.of_frame (by rfl))

theorem clearJobs_keeps : s.Keeps s.clearJobs := by
  have zeroed : s.Keeps { s with jsc.jobs := s.jsc.jobs.map (fun (j : Job) => { j with loads := 0 }),
                                 jsc.spareHold := Vector.replicate 12 none } :=
    .of_jobs rfl fun ⟨nd, ha⟩ => by
      refine ⟨?_, fun j hj => ?_⟩
      · rw [List.map_map]
        exact nd
      · obtain ⟨x, hx, rfl⟩ := List.mem_map.1 hj
        exact ha x hx
  have dropped (u : State) : u.Keeps (forEach allBays dropBayRes u) := .repeat fun _ _ => dropBayRes_keeps
  have unassigned (is : List Nat) (u : State) : u.Keeps (forEach is unassignMaster u) :=
    .repeat fun _ _ => unassignMaster_keeps
  have held (js : List Nat) (u : State) : u.Keeps (forEach js (addHold .cleared) u) := .repeat fun _ _ => addHold_keeps
  have tested (js : List Nat) (u : State) : u.Keeps (forEach js terminalTest u) := .repeat fun _ _ => terminalTest_keeps
  unfold clearJobs
  exact (((zeroed.trans (dropped _)).trans (unassigned _ _)).trans (held _ _)).trans (tested _ _)

theorem startSweep_keeps : s.Keeps s.startSweep := by
  have stopped : s.Retains (s.armTo .stopped) :=
    { pending := rfl, mem := rfl, sst := rfl, door := rfl, ledger := (ledgerSafe_congr rfl rfl).2
      extents := (extentsSafe_congr rfl).2, jobs := (jobsSafe_congr rfl).2 }
  unfold startSweep
  split
  · next h => exact goHome_evolves.toRetains.keeps (goHome_evolves.shut h)
  · next h =>
    have hd : s.tsq.door = .opened := by
      cases hd : s.tsq.door with
      | closed => exact absurd hd h
      | opened => rfl
    exact stopped.keeps fun hs => ⟨fun _ => hs.1 (hs.2 hd), fun _ => .inl rfl⟩

theorem clearTower_keeps : s.Keeps s.clearTower := by
  have worked (u : State) : u.Keeps (forEach allBays clearBayWork u) := .repeat fun _ _ => clearBayWork_keeps
  have cleared (u : State) : u.Keeps (forEach allDiscs clearDisc u) := .repeat fun _ _ => clearDisc_keeps
  have stated (u : State) : u.Keeps (forEach allBays clearBayState u) := .repeat fun _ _ => clearBayState_keeps
  have failed (u : State) : u.Keeps (forEach allBays clearMaster u) := .repeat fun _ _ => clearMaster_keeps
  have bays : s.Keeps (forEach allBays clearBayWork (s.sweepTo .arm).clearFeeds) :=
    (sweepTo_keeps.trans clearFeeds_keeps).trans (worked _)
  have ends (u : State) : u.Keeps { u with tsq.queue := [] }.clearJobs.startSweep :=
    (setEntries_keeps.trans clearJobs_keeps).trans startSweep_keeps
  unfold clearTower
  exact (((((bays.trans clearTransport_keeps).trans (cleared _)).trans clearStation_keeps).trans (stated _)).trans
    (failed _)).trans (ends _)

theorem ownPrinterServiced_keeps {tag : Nat} : s.Keeps (ownPrinterServiced p tag s) :=
  .ite answer_keeps (.ite answer_keeps ((setStation_keeps.trans toPrinter_keeps).trans modPort_keeps))

/-! ### Requests on the links -/

theorem ownBookNotice_keeps {event scope btag action : Nat} : s.Keeps (ownBookNotice p event scope btag action s).1 := by
  unfold ownBookNotice
  split
  · split
    · exact .refl
    · split
      · exact .refl
      · exact modPort_keeps
  · exact .refl

theorem ownDropBooking_keeps {slot : Nat} : s.Keeps (ownDropBooking p slot s).1 := by
  unfold ownDropBooking
  split
  · dsimp only
    exact modPort_keeps
  · split
    · exact .refl
    · split
      · exact .refl
      · exact modPort_keeps

theorem ownFetchNotice_keeps : s.Keeps (ownFetchNotice p s).1 := by
  unfold ownFetchNotice
  dsimp only
  exact modPort_keeps

theorem ownSetAttention_keeps {setting : Nat} : s.Keeps (ownSetAttention p setting s).1 := by
  unfold ownSetAttention
  split
  · dsimp only
    exact modPort_keeps
  · exact .refl

/-! ### The byte handshake -/

theorem takeByte_keeps {b : Byte} : s.Keeps (s.takeByte p b) := .trans modPort_keeps (.ite frameCheck_keeps .refl)

theorem putByte_keeps {b : Byte} : s.Keeps (s.putByte p b) := by
  unfold putByte
  dsimp only
  split
  · exact .refl
  · split
    · exact takeByte_keeps
    · exact takeByte_keeps
    · exact modPort_keeps
    · exact modPort_keeps

theorem replyTaken_keeps : s.Keeps (s.replyTaken p) := by
  unfold replyTaken
  dsimp only
  split
  · exact modPort_keeps.trans takeByte_keeps
  · exact modPort_keeps

theorem takeStrobe_keeps : s.Keeps (s.takeStrobe p) := by
  unfold takeStrobe
  split
  · exact .refl
  · exact modPort_keeps.trans replyTaken_keeps
  · exact modPort_keeps

end Sys2Proof.Machine.State
end

section
/-! PROOFS. What each command keeps; from it the completion of every command (O2) and the invariants of every step (O3 to
O7, O18). -/

namespace Sys2Proof.Machine.State
variable {s t : State} {n : BayId} {d : DiscId} {i : Nat} {p : PortId}

/-! ### Events: staging memory -/

theorem frameGap_keeps {k : Nat} : s.Keeps (s.frameGap i k) := .trans (modImage_keeps fun _ => by rfl) deliver_keeps

theorem acceptBlock_keeps {b : IntakeBlock} : s.Keeps (s.acceptBlock b) :=
  .trans setIntake_keeps (modImage_keeps fun _ => by rfl)

theorem takeFrame_keeps {words image index : Nat} {data : BlockData} : s.Keeps (s.takeFrame words image index data) := by
  unfold takeFrame
  split
  · exact setIntake_keeps
  · exact .refl
  · exact frameGap_keeps
  · exact (acceptBlock_keeps.trans intakeIssue_keeps).trans smcServe_keeps

theorem readyTest_keeps : s.Keeps (s.readyTest i) := .ite imageReady_keeps .refl

theorem intakeHeadDone_keeps : s.Keeps s.intakeHeadDone := .of_frame rfl

theorem intakeDone_keeps {w : BlockWrite} : s.Keeps (s.intakeDone w) :=
  (((((intakeHeadDone_keeps.trans ingest_keeps).trans recountAccepted_keeps).trans readyTest_keeps).trans
    accessDone_keeps).trans intakeIssue_keeps).trans smcServe_keeps

theorem masterSlot_keeps {k : Nat} : s.Keeps (s.masterSlot i k n) := by
  have freed (u : State) : u.Keeps (if (u.bay n).masterHeld = true ∧ (u.bay n).holding.length < Config.holdingBlocks then
      (u.toBay n .readGo).modBay n (fun b => { b with masterHeld := false }) else u) :=
    .ite (toBay_keeps.trans modBay_keeps) .refl
  unfold masterSlot
  exact .ite (modBay_keeps.trans (freed _)) .refl

theorem masterDone_keeps {w : BlockWrite} : s.Keeps (s.masterDone w) := by
  have slot (u : State) : u.Keeps (match u.masterBay w.image with
      | some n => u.masterSlot w.image w.index n
      | none => u) := by
    split
    · exact masterSlot_keeps
    · exact .refl
  unfold masterDone
  exact (((served_keeps.trans ingest_keeps).trans (slot _)).trans accessDone_keeps).trans smcServe_keeps

theorem feedPeriod_keeps : s.Keeps s.feedPeriod := by
  have ticked : s.Keeps { s with tsq.clock := s.tsq.clock + 1 } := .of_frame rfl
  unfold feedPeriod
  dsimp only
  exact (((ticked.trans raiseCredits_keeps).trans issueRereads_keeps).trans (serveBursts_keeps _ _ _)).trans
    (serveArtwork_keeps.trans smcServe_keeps)

theorem readServed_keeps : s.Keeps (s.readServed i) := (served_keeps.trans accessDone_keeps).trans smcServe_keeps

theorem burstDone_keeps {r : FeedRead} {damage : List WordDamage} : s.Keeps (s.burstDone n r damage) :=
  ((takeBlocks_keeps _ _ _ _ _).trans streamEnd_keeps).trans readServed_keeps

/-- A block stored changes staging memory alone (R70). -/
structure Stores (s t : State) : Prop where
  pending : t.pending = s.pending
  rest : ∃ m : Memory, (s.memorySafe → m.wf = true) ∧ t = { s with mem := m }

theorem storeBlock_stores {w : BlockWrite} (h : s.storeBlock w = some t) : s.Stores t := by
  obtain ⟨a, -, rfl⟩ := storeBlock_some h
  exact ⟨rfl, _, fun hm => Memory.writeBlock_wf hm a w.data, rfl⟩

/-! ### Events: the bays -/

theorem hold_of_writeVerdict_keeps {v : Option RejectCause} : s.Keeps ((s.writeVerdict d v).hold n) :=
  writeVerdict_keeps.trans hold_keeps

theorem startProbe_keeps : s.Keeps (s.startProbe n) := toBay_keeps.trans modBay_keeps

theorem closedMaster_keeps {r : Disc} : s.Keeps (s.closedMaster n d r) :=
  .ite hold_of_writeVerdict_keeps startProbe_keeps

theorem closedPlace_keeps : s.Keeps (s.closedPlace n) := by
  unfold closedPlace
  split
  · split
    · exact .ite closedMaster_keeps (.ite startProbe_keeps hold_keeps)
    · exact .refl
  · exact idleBay_keeps

theorem closedPick_keeps : s.Keeps (s.closedPick n) := .ite hold_keeps idleBay_keeps

theorem errandOver_keeps {e : Errand} : s.Keeps (s.errandOver n e) := by
  have closed (u : State) : u.Keeps (if (u.bay n).state = .fault then (u.offlineCheck n).dueBoth
      else match e with
        | .place => u.closedPlace n
        | .pick => u.closedPick n
        | _ => u) := by
    refine .ite (offlineCheck_keeps.trans dueBoth_keeps) ?_
    split
    · exact closedPlace_keeps
    · exact closedPick_keeps
    · exact .refl
  unfold errandOver
  exact modBay_keeps.trans (closed _)

theorem trayFinished_keeps : s.Keeps (s.trayFinished n) := by
  unfold trayFinished
  exact .trans modBay_keeps (.ite startSense_keeps (.ite errandOver_keeps (.ite trayIsReady_keeps .refl)))

theorem trayDone_keeps : s.Keeps (s.trayDone n) := .ite trayFinished_keeps (.ite modTimers_keeps .refl)

theorem writeMedia_keeps {m : MediaReport} : s.Keeps (s.writeMedia d m) := .of_frame rfl

theorem handClassTest_keeps {r : Disc} {j : Job} {m : MediaReport} : s.Keeps (s.handClassTest r j m) := by
  unfold handClassTest
  split
  · exact classTest_keeps
  · exact .refl

theorem probedCopy_keeps {r : Disc} {m : MediaReport} : s.Keeps (s.probedCopy n d r m) := by
  unfold probedCopy
  split
  · dsimp only
    split
    · exact ((writeMedia_keeps.trans handClassTest_keeps).trans verdict_keeps).trans hold_keeps
    · exact (writeMedia_keeps.trans handClassTest_keeps).trans towardGrant_keeps
  · exact .refl

theorem probedSpare_keeps {m : MediaReport} : s.Keeps (s.probedSpare n d m) :=
  writeMedia_keeps.trans (.ite bayToSpare_keeps hold_of_writeVerdict_keeps)

theorem startMasterRead_keeps {k : Nat} : s.Keeps (s.startMasterRead n k) := toBay_keeps.trans modBay_keeps

theorem shrink_keeps {k : Nat} : s.Keeps (s.modImage i (Image.shrink k)) :=
  modImage_keeps_of_sublist fun _ => List.take_sublist _ _

theorem probedMaster_keeps {m : MediaReport} : s.Keeps (s.probedMaster n d i m) := by
  unfold probedMaster
  dsimp only
  split
  · exact writeMedia_keeps.trans (.ite masterOutcome_keeps (.ite imageLost_keeps (.ite imageLost_keeps
      (shrink_keeps.trans startMasterRead_keeps))))
  · exact writeMedia_keeps.trans masterOutcome_keeps

theorem probedNothing_keeps {r : Disc} : s.Keeps (s.probedNothing n r) := by
  unfold probedNothing
  dsimp only
  split
  · exact bayFault_keeps.trans readFailed_keeps
  · exact bayFault_keeps

theorem probed_keeps {report : Option MediaReport} : s.Keeps (s.probed n report) := by
  have judged (u : State) (d : DiscId) (r : Disc) : u.Keeps (match report, r.purpose, r.image with
      | none, _, _ => u.probedNothing n r
      | some m, .copy, _ => u.probedCopy n d r m
      | some m, .spare, _ => u.probedSpare n d m
      | some m, .master, some i => u.probedMaster n d i m
      | _, _, _ => u) := by
    split
    · exact probedNothing_keeps
    · exact probedCopy_keeps
    · exact probedSpare_keeps
    · exact probedMaster_keeps
    · exact .refl
  unfold probed
  dsimp only
  split
  · split
    · exact modTimers_keeps.trans (judged _ _ _)
    · exact modTimers_keeps
  · exact modTimers_keeps

theorem grantSettled_keeps : s.Keeps (s.grantSettled n) := by
  have entered (u : State) : u.Keeps (match (u.bay n).state with
      | .grantWait => u.enterPrefill n
      | .verifyWait => u.startVerify n
      | _ => u) := by
    split
    · exact modBay_keeps
    · exact startVerify_keeps
    · exact .refl
  unfold grantSettled
  exact openStream_keeps.trans (entered _)

theorem speedReported_keeps {k : Nat} : s.Keeps (s.speedReported n k) := by
  have adjusted (u : State) : u.Keeps (match u.adjust n k with
      | (t, .settled _ freed) => if freed then (t.grantSettled n).scan else t.grantSettled n
      | (t, .sentBack) => t.scan
      | (t, .discarded) => t) := by
    split
    · next h =>
      have := adjust_keeps.of_snd (p := (Adjusted.discarded, (u.adjust n k).1)) (by rw [h])
      exact this.trans (.ite (grantSettled_keeps.trans scan_keeps) grantSettled_keeps)
    · next h => exact (adjust_keeps.of_snd (p := (Adjusted.discarded, (u.adjust n k).1)) (by rw [h])).trans scan_keeps
    · next h => exact adjust_keeps.of_snd (p := (Adjusted.discarded, (u.adjust n k).1)) (by rw [h])
  unfold speedReported
  exact modBay_keeps.trans (adjusted _)

theorem addWant_keeps {k : Nat} : s.Keeps (s.addWant n k) := modBay_keeps

theorem countPause_keeps : s.Keeps (s.countPause n) := by
  unfold countPause
  split
  · exact modDisc_keeps
  · exact .refl

theorem drivePaused_keeps : s.Keeps (s.drivePaused n) := countPause_keeps.trans (.ite bayReject_keeps modBay_keeps)

theorem burnClosed_keeps : s.Keeps (s.burnClosed n) := by
  have entered (m : Bool) (u : State) (d : DiscId) : u.Keeps (if m = true ∧ u.nextStepOf d = some .verify then
      (u.writeVerdict d (some .imageLost)).hold n else u.stepDone n d) := .ite hold_of_writeVerdict_keeps stepDone_keeps
  unfold burnClosed
  dsimp only
  split
  · exact (modBay_keeps.trans enterStep_keeps).trans (entered _ _ _)
  · exact modBay_keeps

/-! ### Events: read-back -/

theorem holdBlock_keeps {e : HeldBlock} : s.Keeps (s.holdBlock n e) :=
  .trans modBay_keeps (.ite ((toBay_keeps.trans modEngine_keeps).trans readTimer_keeps) .refl)

theorem readingBlock_keeps {v : VerifyCtx} {e : HeldBlock} : s.Keeps (s.readingBlock n v e) := by
  have moved : s.Keeps ((s.modEngine n (fun x => { x with readPos := x.readPos + 1 })).readTimer n true) :=
    modEngine_keeps.trans readTimer_keeps
  unfold readingBlock
  dsimp only
  split
  · split
    · exact moved.trans (.ite judge_keeps holdBlock_keeps)
    · exact moved.trans holdBlock_keeps
  · exact .refl

theorem rereadBlock_keeps {e : HeldBlock} : s.Keeps (s.rereadBlock n e) :=
  readTimer_keeps.trans (.ite .refl modEngine_keeps)

theorem verifyBlock_keeps {e : HeldBlock} : s.Keeps (s.verifyBlock n e) := by
  unfold verifyBlock
  split
  · split
    · exact readingBlock_keeps
    · exact readTimer_keeps
    · exact rereadBlock_keeps
    · exact .refl
    · exact .refl
  · exact .refl

theorem enterTail_keeps {v : VerifyCtx} : s.Keeps (s.enterTail n v) :=
  (modEngine_keeps.trans readTimer_keeps).trans endTest_keeps

theorem nextRange_keeps {v : VerifyCtx} : s.Keeps (s.nextRange n v) := modEngine_keeps.trans startRange_keeps

theorem rangeDone_keeps {v : VerifyCtx} : s.Keeps (s.rangeDone n v) :=
  .ite ((modEngine_keeps.trans readTimer_keeps).trans (.ite nextRange_keeps enterTail_keeps))
    (modEngine_keeps.trans giveUpRead_keeps)

theorem retryDone_keeps {v : VerifyCtx} : s.Keeps (s.retryDone n v) :=
  (advance_keeps.trans modEngine_keeps).trans (.ite (modEngine_keeps.trans startRange_keeps) enterTail_keeps)

theorem attemptDone_keeps {v : VerifyCtx} : s.Keeps (s.attemptDone n v) :=
  .ite (modDisc_keeps.trans retryDone_keeps) (.ite (modEngine_keeps.trans startRange_keeps)
    (modDisc_keeps.trans retryDone_keeps))

theorem verifyReadEnd_keeps : s.Keeps (s.verifyReadEnd n) := by
  unfold verifyReadEnd
  split
  · split
    · exact rangeDone_keeps
    · exact startRange_keeps
    · exact attemptDone_keeps
    · exact .refl
    · exact .refl
  · exact .refl

theorem masterReadFails_keeps : s.Keeps (s.masterReadFails n i) :=
  (toBay_keeps.trans modBay_keeps).trans reportFailed_keeps

theorem masterBlock_keeps {e : HeldBlock} : s.Keeps (s.masterBlock n i e) :=
  .trans ((modBay_keeps.trans issueMaster_keeps).trans smcServe_keeps) (.ite (toBay_keeps.trans modBay_keeps) .refl)

theorem masterReadBlock_keeps {e : HeldBlock} : s.Keeps (s.masterReadBlock n e) := by
  unfold masterReadBlock
  split
  · exact .ite .refl (.ite (.ite masterBlock_keeps modTimers_keeps) masterReadFails_keeps)
  · exact .refl

theorem masterReadEnd_keeps : s.Keeps (s.masterReadEnd n) := by
  unfold masterReadEnd
  split
  · exact .ite .refl (modBay_keeps.trans readComplete_keeps)
  · exact .refl

theorem faultNow_keeps {code : FaultCode} {abort : Bool} : s.Keeps (s.faultNow n code abort) :=
  .ite bayFaultAgain_keeps bayFault_keeps

theorem readSilent_keeps : s.Keeps (s.readSilent n) := by
  unfold readSilent
  split
  · exact giveUpRead_keeps
  · split
    · exact .ite .refl masterReadFails_keeps
    · exact .refl
  · exact .refl

/-! ### Events: the arm -/

/-- A motion outstanding is one of an arm at work. -/
theorem doorSafe.work {m : Motion} (h : s.doorSafe) (hm : s.tsq.arm.motion = some m) : ¬ s.tsq.arm.stands := fun stands => by
  have := h.1 stands
  rw [hm] at this
  cases this

/-- An answer to the motion outstanding keeps the arm safe: a door that is open has left none. -/
theorem Evolves.keeps_of_motion {m : Motion} (h : s.Evolves t) (hm : s.tsq.arm.motion = some m) : s.Keeps t :=
  h.toRetains.keeps fun hs => h.shut (hs.closed (hs.work hm)) hs

theorem armArrived_keeps {x : Position} : s.Keeps (s.armArrived x) := by
  have moved : s.Keeps { s.motionEnds with tsq.arm.position := x } := motionEnds_keeps.trans (.of_frame (by rfl))
  unfold armArrived
  dsimp only
  split
  · next h => exact moved.trans (.ite (park_evolves.keeps_of_work (not_stands h (by decide))) tryGrip_keeps)
  · exact moved.trans tryRelease_keeps
  · exact moved

/-- The answer to a GRIP keeps what the two cases of it keep. -/
theorem gripAnswer_keeps {f : Spindle → State → State} {g : State → State} {m : Motion}
    (hm : s.tsq.arm.motion = some m) (hf : ∀ (x : Spindle) (u : State), u.Evolves (f x u))
    (hg : ∀ u : State, u.Evolves (g u)) :
    s.Keeps (s.gripAnswer f g) := by
  have answered (u : State) : u.Evolves (match u.gripsAt with
      | some x => f x u
      | none => g u) := by
    split
    · exact hf _ _
    · exact hg _
  exact Evolves.keeps_of_motion (motionEnds_keeps.move (answered _)) hm

theorem gripDouble_keeps (hm : s.tsq.arm.motion = some .grip) :
    s.Keeps (s.gripAnswer gripDoubleSpindle (armFault .senseDisagree)) := by
  have retained (u : State) : u.Retains (match u.gripsAt with
      | some x => u.gripDoubleSpindle x
      | none => u.armFault .senseDisagree) := by
    split
    · exact gripDoubleSpindle_retains
    · exact armFault_keeps.toRetains
  have answered (u : State) (work : ¬ u.tsq.arm.stands) : u.Evolves (match u.gripsAt with
      | some x => u.gripDoubleSpindle x
      | none => u.armFault .senseDisagree) := by
    split
    · exact gripDoubleSpindle_evolves work
    · exact armFault_keeps.toEvolves
  exact (motionEnds_keeps.toRetains.trans (retained _)).keeps fun hs =>
    (motionEnds_keeps.move (answered _ (hs.work hm))).shut (hs.closed (hs.work hm)) hs

theorem armReleased_keeps (hm : s.tsq.arm.motion = some .release) : s.Keeps s.armReleased := by
  refine Evolves.keeps_of_motion ?_ hm
  have released (u : State) : u.Evolves (match u.tsq.arm.state with
      | .placing => u.placeReleased
      | .picking => u.retryReleased
      | _ => u) := by
    split
    · exact placeReleased_evolves
    · next h => exact retryReleased_evolves (not_stands h (by decide))
    · exact .refl
  exact motionEnds_keeps.move (released _)

theorem armHomed_keeps {holding : Bool} (hm : s.tsq.arm.motion = some .home) : s.Keeps (s.armHomed holding) := by
  refine Evolves.keeps_of_motion ?_ hm
  have homed : s.Keeps { s.motionEnds with tsq.arm.position := .home } := motionEnds_keeps.trans (.of_frame (by rfl))
  unfold armHomed
  dsimp only
  split
  · exact homed.move sweepArm_evolves
  · exact homed.move (reconcile_keeps.move ((armTo_evolves (x := .parked) (by decide))))
  · exact homed.move recover_evolves

/-! ### Events: the printer -/

theorem artworkHeld_keeps : s.Keeps s.artworkHeld := by
  unfold artworkHeld
  split
  · exact setStation_keeps.trans mergeStep_keeps
  · exact .refl

theorem takeInk_keeps {k : Nat} : s.Keeps (s.takeInk k) := by
  unfold takeInk
  exact .ite (setStation_keeps.trans deliver_keeps) setStation_keeps

theorem printVerdict_keeps : s.Keeps (s.printVerdict d) := .ite writeVerdict_keeps (.ite verdict_keeps .refl)

theorem printed_keeps {k : Nat} : s.Keeps (s.printed k) := by
  unfold printed
  dsimp only
  split
  · exact ((setStation_keeps.trans ((assignSerial_keeps.trans takeInk_keeps).trans
      (enterStep_keeps.trans printVerdict_keeps))).trans stationTo_keeps).trans clearFromPrinter_keeps
  · exact (setStation_keeps.trans takeInk_keeps).trans stationTo_keeps

theorem outOfInk_keeps : s.Keeps s.outOfInk := by
  have drained (u : State) : u.Keeps (match u.discAt .printer with
      | some d => u.drainArrival d
      | none => u) := by
    split
    · exact drainArrival_keeps
    · exact .refl
  unfold outOfInk
  exact (setStation_keeps.trans deliver_keeps).trans (drained _)

theorem jamNow_keeps {c : JamCause} : s.Keeps (s.jamNow c) := .ite (jam_keeps.trans proceedSense_keeps) jam_keeps

theorem answerWaiting_keeps {k : Nat} {a : Answer} : s.Keeps (s.answerWaiting p k a) := .ite answer_keeps .refl

theorem serviceReply_keeps {p : Option PortId} {x : SenseResult} : s.Keeps (s.serviceReply p x) := by
  unfold serviceReply
  split
  · exact answerWaiting_keeps
  · exact .refl

theorem servicePresent_keeps : s.Keeps (s.servicePresent d) := by
  have left (u : State) : u.Keeps (u.rejectedLeaves d) := .ite rerouteQueued_keeps .refl
  unfold servicePresent
  exact ((setStation_keeps.trans (left _)).trans stationActs_keeps).trans dueBoth_keeps

theorem serviced_keeps {present : Bool} : s.Keeps (s.serviced present) := by
  have answered (u : State) (p : Option PortId) : u.Keeps (match present, u.discAt .printer with
      | true, some d => (u.servicePresent d).serviceReply p .agreed
      | false, none => u.serviceAbsent.serviceReply p .agreed
      | _, _ => u.serviceReply p .mismatch) := by
    split
    · exact servicePresent_keeps.trans serviceReply_keeps
    · exact (stationTo_keeps.trans dueBoth_keeps).trans serviceReply_keeps
    · exact serviceReply_keeps
  unfold serviced
  exact (setStation_keeps.trans (answered _ _)).trans proceedSense_keeps

theorem serviceSilent_keeps : s.Keeps s.serviceSilent := by
  have jammed (u : State) : u.Keeps (if u.psc.state = .inkOut then u.jam .timeout else u) := .ite jam_keeps .refl
  unfold serviceSilent
  exact ((setStation_keeps.trans (jammed _)).trans serviceReply_keeps).trans proceedSense_keeps

theorem sweepSilent_keeps : s.Keeps s.sweepSilent := by
  unfold sweepSilent
  exact (setStation_keeps.trans jam_keeps).trans printerAnswered_keeps

theorem printSilent_keeps : s.Keeps s.printSilent := by
  unfold printSilent
  refine .ite jamNow_keeps ?_
  split
  · exact serviceSilent_keeps
  · exact sweepSilent_keeps
  · exact jam_keeps

end Sys2Proof.Machine.State
end

section
/-! PROOFS. What every step keeps: the invariants of the part, command by command, and that only the completions of memory
requests can stop. -/

namespace Sys2Proof.Machine
namespace State
variable {s t u : State} {n : BayId} {p : PortId}

/-! ### The invariants together -/

/-- The five invariants hold of a state if they hold of the one before it. -/
structure Preserves (s t : State) : Prop where
  memory : s.memorySafe → t.memorySafe
  ledger : s.ledgerSafe → t.ledgerSafe
  door : s.doorSafe → t.doorSafe
  extents : s.extentsSafe → t.extentsSafe
  jobs : s.jobsSafe → t.jobsSafe

theorem Preserves.trans (h : s.Preserves t) (k : t.Preserves u) : s.Preserves u where
  memory := k.memory ∘ h.memory
  ledger := k.ledger ∘ h.ledger
  door := k.door ∘ h.door
  extents := k.extents ∘ h.extents
  jobs := k.jobs ∘ h.jobs

theorem Preserves.refl : s.Preserves s := ⟨id, id, id, id, id⟩

theorem Keeps.preserves (h : s.Keeps t) : s.Preserves t where
  memory hm := by rw [memorySafe, h.mem]; exact hm
  ledger := h.ledger
  door := h.arm
  extents := h.extents
  jobs := h.jobs

/-- A guard: nothing happens where it fails. -/
theorem Keeps.guard {c : Prop} [Decidable c] (h : c → s.Keeps t) : s.Keeps (if c then t else s) := by
  split
  · next hc => exact h hc
  · exact .refl

/-- An event: the step begins, acts, and what has become due is done. -/
theorem Preserves.event (h : s.begin.Preserves t) : s.Preserves t.settle :=
  (begin_keeps.preserves.trans h).trans settle_keeps'.preserves

theorem Keeps.event (h : s.begin.Keeps t) : s.Preserves t.settle := h.preserves.event

/-- The preservation of a command that completes. -/
theorem Preserves.next (h : s.Preserves u) : ∀ t, (.next u : Host.Outcome State Fault Refusal) = .next t → s.Preserves t :=
  fun _ e => by cases e; exact h

/-! ### The resets -/

section
variable (cause : ResetCause) (written : Bool) (s : State)

@[simp] theorem afterReset_mem : (s.afterReset cause written).mem = [] :=
  forEach_frame mem (fun n => modBay_mem n _) allBays _

@[simp] theorem afterReset_jsc : (s.afterReset cause written).jsc = {} :=
  forEach_frame jsc (fun n => modBay_jsc n _) allBays _

@[simp] theorem afterReset_cat :
    (s.afterReset cause written).cat =
      { totalExtents := (s.sst.load written).working.memoryGiB * Config.extentsPerGiB } :=
  forEach_frame cat (fun n => modBay_cat n _) allBays _

@[simp] theorem afterReset_tsq :
    (s.afterReset cause written).tsq =
      { arm :=
          if s.tsq.door == .closed then
            { lastCmd := some .home, motion := some .home, timer := some Config.armMotionMs }
          else { state := .stopped }
        door := s.tsq.door, resetCause := cause
        inA := { capacity := (s.sst.load written).working.capA }
        inB := { capacity := (s.sst.load written).working.capB }
        out := { capacity := (s.sst.load written).working.capOut }
        rej := { capacity := (s.sst.load written).working.capRej } } :=
  forEach_frame tsq (fun n => modBay_tsq n _) allBays _

end

theorem afterReset_preserves (cause : ResetCause) (written : Bool) : s.Preserves (s.afterReset cause written) where
  memory _ := by rw [memorySafe, afterReset_mem]; rfl
  ledger _ := ledgerSafe_of_rgu_empty (afterReset_rgu cause written s)
  door _ := by
    rw [doorSafe, afterReset_tsq]
    cases s.tsq.door <;> simp
  extents _ := by simp [extentsSafe]
  jobs _ := by simp [jobsSafe]

/-! ### The door line -/

/-- A change of the door and the arm alone. -/
theorem Preserves.of_arm (rest : t = { s with tsq := t.tsq }) (arm : s.doorSafe → t.doorSafe) :
    s.Preserves t where
  memory h := by rw [rest]; exact h
  ledger h := by rw [rest]; exact h
  door := arm
  extents h := by rw [rest]; exact h
  jobs h := by rw [rest]; exact h

theorem stopArm_preserves : s.Preserves ({ s with tsq.door := .opened } : State).stopArm := by
  unfold stopArm
  split
  · exact .trans (t := { s with tsq.door := .opened, tsq.arm.state := .stopped, tsq.arm.motion := none })
      (.of_arm rfl fun _ => ⟨fun _ => rfl, fun _ => .inl rfl⟩) (Keeps.preserves (.of_frame (by rfl)))
  · next h =>
    refine .of_arm rfl fun hs => ⟨hs.1, fun _ => ?_⟩
    cases harm : s.tsq.arm.state <;> simp_all [ArmState.halts]

theorem doorOpens_preserves : s.Preserves s.doorOpens := stopArm_preserves.trans deliver_keeps.preserves

theorem doorCloses_preserves : s.Preserves s.doorCloses := by
  have closed : s.Preserves { s with tsq.door := .closed } := .of_arm rfl fun hs => doorSafe_of_closed rfl hs.1
  unfold doorCloses
  dsimp only
  split
  · exact closed.trans (goHome_evolves.toRetains.keeps (goHome_evolves.shut rfl)).preserves
  · exact closed

/-! ### The store -/

/-- A ledger without an entry is within any limits. -/
theorem ledgerSafe_of_idle (h : s.rgu.idle = true) : s.ledgerSafe := by
  have none_of_mem (g : Option Grant) (hg : g ∈ s.rgu.ledger.toList) : g = none :=
    Option.isNone_iff_eq_none.1 (List.all_eq_true.1 h g hg)
  have total_zero (rate : Option Grant → Nat) (hr : rate none = 0) : (s.rgu.ledger.toList.map rate).sum = 0 :=
    List.sum_eq_zero fun x hx => by
      obtain ⟨g, hg, rfl⟩ := List.mem_map.1 hx
      rw [none_of_mem g hg, hr]
  refine ⟨fun n g hg => ?_, ?_, ?_⟩
  · have := none_of_mem (s.grant n) (by simp [grant])
    simp [hg] at this
  · rw [Rgu.committedWrite, total_zero _ rfl]
    exact Nat.zero_le _
  · rw [Rgu.committedTotal, total_zero _ rfl]
    exact Nat.zero_le _

/-- A working set keeps the ledger within its limits if the ledger is empty or the limits are those it had. -/
theorem setSst_preserves {x : Sst}
    (h : s.rgu.idle = true ∨
      x.working.budget = s.sst.working.budget ∧ x.working.reserve = s.sst.working.reserve) :
    s.Preserves { s with sst := x } := by
  refine ⟨id, fun ⟨hr, hw, ht⟩ => ?_, id, id, id⟩
  rcases h with hi | ⟨hb, hv⟩
  · exact ledgerSafe_of_idle hi
  · exact ⟨hr, by simpa only [Settings.ceiling, hb, hv] using hw, by simpa only [hb] using ht⟩

theorem put_limits {x y : Settings} {item v : Nat} (h : x.put item v = some y) (hi : ¬ (item = 1 ∨ item = 2)) :
    y.budget = x.budget ∧ y.reserve = x.reserve := by
  unfold Settings.put at h
  split at h
  all_goals grind

theorem keepSetting_preserves {item : Nat} {x : Settings}
    (h : s.rgu.idle = true ∨ x.budget = s.sst.working.budget ∧ x.reserve = s.sst.working.reserve) :
    s.Preserves (s.keepSetting item x) := by
  unfold keepSetting
  dsimp only
  split
  · exact (setSst_preserves h).trans modPort_keeps.preserves
  · exact setSst_preserves h

theorem ownWriteSettings_preserves {item value : Nat} : s.Preserves (ownWriteSettings item value s).1 := by
  unfold ownWriteSettings
  split
  · exact .refl
  · next x hx =>
    split
    · exact .refl
    · next hbusy =>
      refine keepSetting_preserves ?_
      by_cases hi : item = 1 ∨ item = 2
      · exact .inl (by simpa [hi] using hbusy)
      · exact .inr (put_limits hx hi)

theorem ownSaveSettings_preserves {tag : Nat} : s.Preserves (ownSaveSettings p tag s) := by
  unfold ownSaveSettings
  split
  · exact answer_keeps.preserves
  · have saving (v : Save) : s.Preserves { s with sst.save := some v } := setSst_preserves (.inr ⟨rfl, rfl⟩)
    exact (saving _).trans modPort_keeps.preserves

theorem endSave_working (v : Save) (read : Option Bool) (x : Sst) : (x.endSave v read).working = x.working := by
  unfold Sst.endSave Sst.setCopy
  split <;> cases x.last.other <;> rfl

theorem saveEnds_preserves {read : Option Bool} : s.Preserves (s.saveEnds read) := by
  unfold saveEnds
  split
  · next v hv =>
    exact (setSst_preserves (.inr (by rw [endSave_working]; exact ⟨rfl, rfl⟩))).trans answerWaiting_keeps.preserves
  · exact .refl

/-- A request preserves what its owner preserves. -/
theorem request_preserves {kind tag : Nat} {params : List Byte} {owner : State → State}
    (h : ∀ u : State, u.Preserves (owner u)) : s.Preserves (request p kind tag params owner s) := by
  rcases request_cases p kind tag params owner s with ⟨u, -, rfl | rfl, e⟩ | ⟨-, e⟩ | ⟨-, e⟩ <;> rw [e]
  · exact (h _).event
  · exact (sendFrame_keeps.preserves.trans (h _)).event
  · exact (begin_keeps.trans sendFrame_keeps).preserves
  · exact begin_keeps.preserves

/-! ### Staging memory -/

theorem Stores.preserves (h : s.Stores t) : s.Preserves t := by
  obtain ⟨m, hm, rfl⟩ := h.rest
  exact ⟨hm, id, id, id, id⟩

theorem execIntakeWriteDone_preserves (h : execIntakeWriteDone s = .next t) : s.Preserves t := by
  unfold execIntakeWriteDone at h
  dsimp only at h
  split at h
  · next w _ =>
    split at h
    · next u hu =>
      cases h
      exact ((storeBlock_stores hu).preserves.trans intakeDone_keeps.preserves).event
    · cases h
  · cases h
    exact Preserves.refl.event

theorem execMasterWriteDone_preserves (h : execMasterWriteDone s = .next t) : s.Preserves t := by
  unfold execMasterWriteDone at h
  dsimp only at h
  split at h
  · next w _ =>
    split at h
    · next u hu =>
      cases h
      exact ((storeBlock_stores hu).preserves.trans masterDone_keeps.preserves).event
    · cases h
  · cases h
    exact Preserves.refl.event

theorem execFeedReadDone_preserves {damage : List WordDamage} (h : execFeedReadDone damage s = .next t) :
    s.Preserves t := by
  unfold execFeedReadDone at h
  dsimp only at h
  split at h
  · split at h
    · split at h
      · cases h
        exact burstDone_keeps.event
      · cases h
    · cases h
      exact Preserves.refl.event
  · cases h
    exact Preserves.refl.event

theorem execRereadDone_preserves {w : WordDamage} (h : execRereadDone w s = .next t) : s.Preserves t := by
  unfold execRereadDone at h
  dsimp only at h
  split at h
  · split at h
    · split at h
      · cases h
        exact (takeReread_keeps.trans readServed_keeps).event
      · cases h
    · split at h
      · cases h
        exact (takeArtworkReread_keeps.trans readServed_keeps).event
      · cases h
    · cases h
      exact Preserves.refl.event
  · cases h
    exact Preserves.refl.event

theorem execArtworkReadDone_preserves {damage : List WordDamage} (h : execArtworkReadDone damage s = .next t) :
    s.Preserves t := by
  unfold execArtworkReadDone at h
  dsimp only at h
  split at h
  · split at h
    · split at h
      · cases h
        exact (((takeArtworks_keeps _ _ _ _ _).trans artworkEnd_keeps).trans readServed_keeps).event
      · cases h
    · cases h
      exact Preserves.refl.event
  · cases h
    exact Preserves.refl.event

/-! ### Events without a request -/

theorem execDoorLineOpen_preserves : ∀ t, execDoorLineOpen s = .next t → s.Preserves t := by
  refine Preserves.next (.event ?_)
  split
  · exact doorOpens_preserves
  · exact .refl

theorem execDoorLineClosed_preserves : ∀ t, execDoorLineClosed s = .next t → s.Preserves t := by
  refine Preserves.next (.event ?_)
  split
  · exact doorCloses_preserves
  · exact .refl

theorem execArrived_preserves : ∀ t, execArrived s = .next t → s.Preserves t := by
  refine Preserves.next (Keeps.event ?_)
  split
  · exact armArrived_keeps
  · exact .refl

theorem execProbeReport_preserves {report : Option MediaReport} :
    ∀ t, execProbeReport n report s = .next t → s.Preserves t :=
  Preserves.next (Keeps.event (.ite (modTimers_keeps.trans senseAnswer_keeps) (.ite probed_keeps .refl)))

theorem execWant_preserves {k : Nat} : ∀ t, execWant n k s = .next t → s.Preserves t := by
  refine Preserves.next (Keeps.event ?_)
  split
  · exact addWant_keeps
  · exact addWant_keeps.trans sendBlocks_keeps
  · exact .refl

theorem execBurnError_preserves {code : Nat} : ∀ t, execBurnError n code s = .next t → s.Preserves t := by
  refine Preserves.next (Keeps.event ?_)
  split
  · exact bayReject_keeps
  · exact bayReject_keeps
  · exact .refl

theorem execReadBlock_preserves {index : Nat} {status : ReadStatus} {data : BlockData} :
    ∀ t, execReadBlock n index status data s = .next t → s.Preserves t := by
  refine Preserves.next (Keeps.event ?_)
  split
  · exact verifyBlock_keeps
  · exact masterReadBlock_keeps
  · exact .refl

theorem execReadEnd_preserves : ∀ t, execReadEnd n s = .next t → s.Preserves t := by
  refine Preserves.next (Keeps.event ?_)
  split
  · exact verifyReadEnd_keeps
  · exact masterReadEnd_keeps
  · exact .refl

theorem execFault_preserves {code : Nat} : ∀ t, execFault n code s = .next t → s.Preserves t := by
  refine Preserves.next (Keeps.event ?_)
  split
  · exact .refl
  · exact modBay_keeps
  · exact faultNow_keeps

theorem execTrayReport_preserves {present : Bool} : ∀ t, execTrayReport present s = .next t → s.Preserves t := by
  refine Preserves.next (Keeps.event ?_)
  split
  · exact serviced_keeps
  · exact .ite .refl (.trans (.of_frame (by rfl)) printerAnswered_keeps)
  · exact .refl

theorem execClearTower_keeps {tag : Nat} :
    s.Keeps (requestNow p 20 tag [] (fun s => (s.clearTower, .good [])) s) := by
  refine requestNow_keeps fun u => ?_
  dsimp only
  exact clearTower_keeps

/-! ### Every command -/

/-- Every command that completes preserves the invariants. -/
theorem exec_preserves (c : Instr) : ∀ t, exec c s = .next t → s.Preserves t := by
  cases c with
  | powerOnReset written => exact Preserves.next (afterReset_preserves _ _)
  | lineReset written => exact Preserves.next (afterReset_preserves _ _)
  | doorLineOpen => exact execDoorLineOpen_preserves
  | doorLineClosed => exact execDoorLineClosed_preserves
  | put port byte => exact Preserves.next putByte_keeps.event
  | take port => exact Preserves.next takeStrobe_keeps.event
  | byteGapTimerExpiry port => exact Preserves.next (Keeps.event (.ite modPort_keeps .refl))
  | openImage port tag kind length flags => exact Preserves.next (requestNow_keeps fun _ => ownOpenImage_keeps).preserves
  | sealImage port tag image => exact Preserves.next (requestNow_keeps fun _ => ownSealImage_keeps).preserves
  | abandonImage port tag image => exact Preserves.next (requestNow_keeps fun _ => ownAbandonImage_keeps).preserves
  | deleteImage port tag image => exact Preserves.next (requestNow_keeps fun _ => ownDeleteImage_keeps).preserves
  | imageFromDisc port tag length spindle flags =>
    exact Preserves.next (requestNow_keeps fun _ => ownImageFromDisc_keeps).preserves
  | queryImage port tag image => exact Preserves.next requestRead_keeps.preserves
  | submitJob port tag params => exact Preserves.next (requestNow_keeps fun _ => ownSubmitJob_keeps).preserves
  | holdJob port tag job => exact Preserves.next (requestNow_keeps fun _ => ownHoldJob_keeps).preserves
  | releaseJob port tag job => exact Preserves.next (requestNow_keeps fun _ => ownReleaseJob_keeps).preserves
  | cancelJob port tag job kind => exact Preserves.next (requestNow_keeps fun _ => ownCancelJob_keeps).preserves
  | retireJob port tag job => exact Preserves.next (requestNow_keeps fun _ => ownRetireJob_keeps).preserves
  | queryJob port tag job => exact Preserves.next requestRead_keeps.preserves
  | readRejects port tag job first => exact Preserves.next requestRead_keeps.preserves
  | queryBay port tag bay => exact Preserves.next requestRead_keeps.preserves
  | bayOffline port tag bay => exact Preserves.next (requestNow_keeps fun _ => ownBayOffline_keeps).preserves
  | bayOnline port tag bay => exact Preserves.next (requestNow_keeps fun _ => ownBayOnline_keeps).preserves
  | setSpindle port tag spindle mediaClass count =>
    exact Preserves.next (requestNow_keeps fun _ => ownSetSpindle_keeps).preserves
  | spindleEmptied port tag place => exact Preserves.next (requestNow_keeps fun _ => ownSpindleEmptied_keeps).preserves
  | armResume port tag => exact Preserves.next (requestNow_keeps fun _ => ownArmResume_keeps).preserves
  | clearTower port tag => exact Preserves.next execClearTower_keeps.preserves
  | queryTower port tag => exact Preserves.next requestRead_keeps.preserves
  | printerServiced port tag => exact Preserves.next (request_keeps fun _ => ownPrinterServiced_keeps).preserves
  | bookNotice port tag event scope bookingTag action =>
    exact Preserves.next (requestNow_keeps fun _ => ownBookNotice_keeps).preserves
  | dropBooking port tag slot => exact Preserves.next (requestNow_keeps fun _ => ownDropBooking_keeps).preserves
  | fetchNotice port tag => exact Preserves.next (requestNow_keeps fun _ => ownFetchNotice_keeps).preserves
  | setAttention port tag setting => exact Preserves.next (requestNow_keeps fun _ => ownSetAttention_keeps).preserves
  | readSettings port tag => exact Preserves.next requestRead_keeps.preserves
  | writeSettings port tag item value =>
    exact Preserves.next (request_preserves fun _ => ownWriteSettings_preserves.trans answer_keeps.preserves)
  | saveSettings port tag => exact Preserves.next (request_preserves fun _ => ownSaveSettings_preserves)
  | saveReadbackDone passes => exact Preserves.next saveEnds_preserves.event
  | saveTimerExpiry => exact Preserves.next saveEnds_preserves.event
  | blockFrame words image index data => exact Preserves.next takeFrame_keeps.event
  | intakeWriteDone => exact fun _ => execIntakeWriteDone_preserves
  | masterWriteDone => exact fun _ => execMasterWriteDone_preserves
  | feedPeriodTimerExpiry => exact Preserves.next feedPeriod_keeps.event
  | feedReadDone damage => exact fun _ => execFeedReadDone_preserves
  | rereadDone damage => exact fun _ => execRereadDone_preserves
  | artworkReadDone damage => exact fun _ => execArtworkReadDone_preserves
  | trayDone bay => exact Preserves.next (Keeps.event (.ite trayDone_keeps .refl))
  | probeReport bay report => exact execProbeReport_preserves
  | speedReport bay step => exact Preserves.next (Keeps.event (.ite speedReported_keeps .refl))
  | want bay n => exact execWant_preserves
  | paused bay => exact Preserves.next (Keeps.event (.ite drivePaused_keeps .refl))
  | resumed bay => exact Preserves.next (Keeps.event (.ite modTimers_keeps .refl))
  | burnDone bay => exact Preserves.next (Keeps.event (.ite burnClosed_keeps .refl))
  | burnError bay code => exact execBurnError_preserves (code := code)
  | readBlock bay index status data => exact execReadBlock_preserves
  | readEnd bay => exact execReadEnd_preserves
  | fault bay code => exact execFault_preserves
  | trayMotionTimerExpiry bay => exact Preserves.next (Keeps.event (.ite (modBay_keeps.trans faultNow_keeps) .refl))
  | probeTimerExpiry bay => exact Preserves.next (Keeps.event (.ite (modTimers_keeps.trans faultNow_keeps) .refl))
  | speedReportTimerExpiry bay => exact Preserves.next (Keeps.event (.ite faultNow_keeps .refl))
  | burnCloseTimerExpiry bay => exact Preserves.next (Keeps.event (.ite faultNow_keeps .refl))
  | starveTimerExpiry bay => exact Preserves.next (Keeps.event (.ite bayReject_keeps .refl))
  | readInactivityTimerExpiry bay => exact Preserves.next (Keeps.event (.ite (modTimers_keeps.trans readSilent_keeps) .refl))
  | spareHoldTimerExpiry bay => exact Preserves.next (Keeps.event (.ite endSpareHold_keeps .refl))
  | arrived => exact execArrived_preserves
  | gripped =>
    exact Preserves.next (Keeps.event (.guard fun hm =>
      gripAnswer_keeps hm (fun _ _ => gripSpindle_evolves) fun _ => gripPlace_evolves))
  | gripEmpty =>
    exact Preserves.next (Keeps.event (.guard fun hm =>
      gripAnswer_keeps hm (fun _ _ => gripEmptySpindle_evolves) fun _ => armFault_keeps.toEvolves))
  | gripDouble => exact Preserves.next (Keeps.event (.guard gripDouble_keeps))
  | released => exact Preserves.next (Keeps.event (.guard armReleased_keeps))
  | homed holding => exact Preserves.next (Keeps.event (.guard armHomed_keeps))
  | motionFault => exact Preserves.next (Keeps.event (.ite .refl armFault_keeps))
  | armMotionTimerExpiry => exact Preserves.next (Keeps.event (.ite armFault_keeps .refl))
  | artworkOk => exact Preserves.next (Keeps.event (.ite artworkHeld_keeps .refl))
  | printDone ink => exact Preserves.next (Keeps.event (.ite (printed_keeps.trans proceedSense_keeps) .refl))
  | inkOut => exact Preserves.next (Keeps.event (.ite (outOfInk_keeps.trans proceedSense_keeps) .refl))
  | jam => exact Preserves.next (Keeps.event (.ite .refl jamNow_keeps))
  | trayReport present => exact execTrayReport_preserves
  | printTimerExpiry => exact Preserves.next (Keeps.event (.ite printSilent_keeps .refl))

/-- Every step preserves the invariants. -/
theorem step_preserves (h : step s = .next t) : s.Preserves t := by
  unfold step at h
  split at h
  · next c rest _ =>
    have taken : s.Preserves { s with pending := rest } := ⟨id, id, id, id, id⟩
    exact taken.trans (exec_preserves c t h)
  · cases h
    exact .refl

end State
end Sys2Proof.Machine
end

section
/-! PROOFS. The statements about every step: the five invariants, the front command, and where a step can stop. -/

namespace Sys2Proof.Machine
open State

/-- Settles O3: storing a block keeps the canonical form, and no other operation touches staging memory. -/
theorem stepKeepsMemoryForm : Obligations.StepKeepsMemoryForm := fun _ _ hs h => (step_preserves h).memory hs

/-- Settles O4: a grant is entered, grown or put back within the ceiling and the budget, and neither changes while the
ledger holds an entry. -/
theorem stepKeepsLedgerWithinBudget : Obligations.StepKeepsLedgerWithinBudget := fun _ _ hs h =>
  (step_preserves h).ledger hs

/-- Settles O5: an operation that moves the arm is reached only from an arm at work, which an open door excludes. -/
theorem stepKeepsArmStillWithDoorOpen : Obligations.StepKeepsArmStillWithDoorOpen := fun _ _ hs h =>
  (step_preserves h).door hs

/-- Settles O6: an entry is opened with free extents, and otherwise extents are only given back. -/
theorem stepKeepsExtentsApart : Obligations.StepKeepsExtentsApart := fun _ _ hs h => (step_preserves h).extents hs

/-- Settles O18: of one number more than are taken one is free, and a job enters under a free number. -/
theorem newNumbersAreFree : Obligations.NewNumbersAreFree :=
  ⟨fun _ n _ hlen _ h1 h2 => ⟨freeNumber_not_mem hlen n, freeNumber_range h1 h2⟩,
    fun _ _ hs h => (step_preserves h).jobs hs⟩

/-! ### Completion -/

/-- The completions of memory requests (notes/assumptions/13.md). -/
def memoryCompletion : Instr → Bool
  | .intakeWriteDone | .masterWriteDone | .feedReadDone _ | .rereadDone _ | .artworkReadDone _ => true
  | _ => false

theorem exec_completes {c : Instr} (h : memoryCompletion c = false) (s : State) : ∃ t, exec c s = .next t := by
  cases c with
  | intakeWriteDone | masterWriteDone | feedReadDone _ | rereadDone _ | artworkReadDone _ => cases h
  | _ => exact ⟨_, rfl⟩

/-- A completion of a memory request goes on or faults. -/
theorem exec_memoryCompletion_ne_refused {c : Instr} (h : memoryCompletion c = true) (s : State) (r : Refusal) :
    exec c s ≠ .refused r := by
  cases c with
  | intakeWriteDone =>
    unfold exec execIntakeWriteDone
    dsimp only
    repeat' split
    all_goals nofun
  | masterWriteDone =>
    unfold exec execMasterWriteDone
    dsimp only
    repeat' split
    all_goals nofun
  | feedReadDone damage =>
    unfold exec execFeedReadDone
    dsimp only
    repeat' split
    all_goals nofun
  | rereadDone damage =>
    unfold exec execRereadDone
    dsimp only
    repeat' split
    all_goals nofun
  | artworkReadDone damage =>
    unfold exec execArtworkReadDone
    dsimp only
    repeat' split
    all_goals nofun
  | _ => cases h

/-- Settles O2: every other command's meaning is a next state outright. -/
theorem onlyMemoryCompletionsStop : Obligations.OnlyMemoryCompletionsStop := by
  refine ⟨fun c s hi hm hf hr ha => exec_completes ?_ s, fun c s r => ?_⟩
  · cases c with
    | intakeWriteDone => exact absurd rfl hi
    | masterWriteDone => exact absurd rfl hm
    | feedReadDone d => exact absurd rfl (hf d)
    | rereadDone d => exact absurd rfl (hr d)
    | artworkReadDone d => exact absurd rfl (ha d)
    | _ => rfl
  · cases h : memoryCompletion c with
    | true => exact exec_memoryCompletion_ne_refused h s r
    | false =>
      obtain ⟨t, e⟩ := exec_completes h s
      rw [e]
      nofun

/-- Settles O1. -/
theorem stepRunsFrontCommand : Obligations.StepRunsFrontCommand := fun s c rest h => by
  unfold step
  split
  · next c' rest' h' =>
    obtain ⟨rfl, rfl⟩ := List.cons.inj (h.symm.trans h')
    rfl
  · next h' => cases h.symm.trans h'

/-- Settles O7: the tables are empty and the ledger idle after reset, and the arm homes behind a closed door. -/
theorem resetMeetsEveryInvariant : Obligations.ResetMeetsEveryInvariant :=
  ⟨reset_mem_wf, ledgerSafe_of_rgu_empty rfl, ⟨by simp [State.reset], by simp [State.reset]⟩,
    by simp [extentsSafe, State.reset], by simp [jobsSafe, State.reset]⟩

end Sys2Proof.Machine
end

section
/-! PROOFS. Staging memory as bytes (R50, R69, R70): a block read back is the block written, and no byte outside it
changes. -/

namespace Sys2Proof.Machine

/-- One byte of a block being read: it lies at its distance from the block's address. -/
def placeByte (a : Nat) (acc : BlockData) (c : Host.Cell) : BlockData :=
  acc ||| BitVec.shiftLeft (c.2.setWidth 16384) (8 * (c.1 - a))

theorem Memory.readBlock_eq (m : Memory) (a : Nat) :
    m.readBlock a =
      (m.filter (fun c => decide (a ≤ c.1) && decide (c.1 < a + Config.blockBytes))).foldl (placeByte a) 0 := rfl

theorem testBit_div_256 (n i : Nat) : (n / 256).testBit i = n.testBit (i + 8) := by
  rw [show (256 : Nat) = 2 ^ 8 from rfl, Nat.testBit_div_two_pow]

/-- A number is its lowest byte and, above it, the rest. -/
theorem ofNat_shiftLeft_split (n s : Nat) :
    BitVec.ofNat 16384 n <<< s =
      (BitVec.ofNat 8 n).setWidth 16384 <<< s ||| BitVec.ofNat 16384 (n / 256) <<< (s + 8) := by
  refine BitVec.eq_of_getLsbD_eq fun j hj => ?_
  simp only [BitVec.getLsbD_shiftLeft, BitVec.getLsbD_or, BitVec.getLsbD_setWidth, BitVec.getLsbD_ofNat, testBit_div_256]
  by_cases hs : j < s
  · simp [hs, show j < s + 8 by omega]
  · by_cases h8 : j < s + 8
    · simp [hs, h8, hj, show j - s < 8 by omega, show j - s < 16384 by omega]
    · simp [hs, h8, hj, show ¬ j - s < 8 by omega, show j - s < 16384 by omega, show j - (s + 8) < 16384 by omega,
        show j - (s + 8) + 8 = j - s by omega]

/-- The cells of a number of at most `k` bytes, read from a lower address, are the number at its distance. -/
theorem foldl_placeByte_cellsOf (base : Nat) : ∀ (k a n : Nat) (acc : BlockData), base ≤ a →
    (∀ i, 8 * k ≤ i → n.testBit i = false) →
    (cellsOf k a n).foldl (placeByte base) acc = acc ||| BitVec.ofNat 16384 n <<< (8 * (a - base))
  | 0, a, n, acc, _, hn => by
    obtain rfl : n = 0 := Nat.eq_of_testBit_eq fun i => by simpa using hn i (Nat.zero_le _)
    simp [cellsOf]
  | k + 1, a, n, acc, ha, hn => by
    have rest (acc : BlockData) := foldl_placeByte_cellsOf base k (a + 1) (n / 256) acc (by omega) fun i hi => by
      rw [testBit_div_256]
      exact hn _ (by omega)
    have hs : 8 * (a + 1 - base) = 8 * (a - base) + 8 := by omega
    rw [ofNat_shiftLeft_split, cellsOf]
    split
    · next h0 => simp [h0]
    · dsimp only
      split
      · next hb =>
        rw [rest, hs, hb]
        simp [unlistedByte]
      · rw [List.foldl_cons, rest, hs, placeByte, BitVec.or_assoc]
        rfl

/-- The cells of a written block that lie in the block are the block's. -/
theorem Memory.writeBlock_filter (m : Memory) (a : Nat) (d : BlockData) :
    (m.writeBlock a d).filter (fun c => decide (a ≤ c.1) && decide (c.1 < a + Config.blockBytes)) =
      cellsOf Config.blockBytes a d.toNat := by
  obtain ⟨wf, below⟩ := cellsOf_wfFrom Config.blockBytes a d.toNat
  have above := Memory.wfFrom_le wf
  rw [Memory.writeBlock, List.filter_append, List.filter_append]
  have h1 : (m.filter (fun c => decide (c.1 < a))).filter
      (fun c => decide (a ≤ c.1) && decide (c.1 < a + Config.blockBytes)) = [] := by
    simp only [List.filter_filter, List.filter_eq_nil_iff]
    intro c _
    simp only [Bool.and_eq_true, decide_eq_true_eq]
    omega
  have h2 : (cellsOf Config.blockBytes a d.toNat).filter
      (fun c => decide (a ≤ c.1) && decide (c.1 < a + Config.blockBytes)) = cellsOf Config.blockBytes a d.toNat := by
    refine List.filter_eq_self.2 fun c hc => ?_
    simp [above c hc, below c hc]
  have h3 : (m.filter (fun c => decide (a + Config.blockBytes ≤ c.1))).filter
      (fun c => decide (a ≤ c.1) && decide (c.1 < a + Config.blockBytes)) = [] := by
    simp only [List.filter_filter, List.filter_eq_nil_iff]
    intro c _
    simp only [Bool.and_eq_true, decide_eq_true_eq]
    omega
  rw [h1, h2, h3, List.nil_append, List.append_nil]

theorem Memory.readBlock_writeBlock (m : Memory) (a : Nat) (d : BlockData) : (m.writeBlock a d).readBlock a = d := by
  rw [Memory.readBlock_eq, Memory.writeBlock_filter, foldl_placeByte_cellsOf a _ a _ 0 le_rfl fun i => BitVec.getLsbD_of_ge d i, Nat.sub_self,
    Nat.mul_zero, BitVec.shiftLeft_zero, BitVec.ofNat_toNat, BitVec.setWidth_eq]
  exact BitVec.zero_or

/-- Leaving out cells of other addresses does not change what is found at an address. -/
theorem find?_filter_of_imp {p : Host.Cell → Bool} {b : Nat} (h : ∀ c : Host.Cell, c.1 = b → p c = true) (m : Memory) :
    (m.filter p).find? (fun c => c.1 == b) = m.find? (fun c => c.1 == b) := by
  rw [List.find?_filter]
  congr 1
  funext c
  cases hc : c.1 == b
  · simp
  · simp [h c (beq_iff_eq.1 hc)]

theorem find?_filter_of_not {p : Host.Cell → Bool} {b : Nat} (h : ∀ c : Host.Cell, c.1 = b → p c = false) (m : Memory) :
    (m.filter p).find? (fun c => c.1 == b) = none := by
  refine List.find?_eq_none.2 fun c hc hb => ?_
  have := (List.mem_filter.1 hc).2
  rw [h c (beq_iff_eq.1 hb)] at this
  cases this

/-- A byte outside a block reads as before the block was written. -/
theorem Memory.read_writeBlock_of_outside {m : Memory} {a b : Nat} {d : BlockData}
    (h : b < a ∨ a + Config.blockBytes ≤ b) : (m.writeBlock a d).read b = m.read b := by
  obtain ⟨wf, below⟩ := cellsOf_wfFrom Config.blockBytes a d.toNat
  have above := Memory.wfFrom_le wf
  have block : (cellsOf Config.blockBytes a d.toNat).find? (fun c => c.1 == b) = none := by
    refine List.find?_eq_none.2 fun c hc => ?_
    have := above c hc
    have := below c hc
    simp only [beq_iff_eq]
    omega
  have found : (m.writeBlock a d).find? (fun c => c.1 == b) = m.find? (fun c => c.1 == b) := by
    rw [Memory.writeBlock, List.find?_append, List.find?_append, block, Option.or_none]
    rcases h with hb | hb
    · rw [find?_filter_of_imp (fun c hc => by simpa [hc] using hb), find?_filter_of_not (fun c hc => by simp [hc]; omega),
        Option.or_none]
    · rw [find?_filter_of_not (fun c hc => by simp [hc]; omega), find?_filter_of_imp (fun c hc => by simpa [hc] using hb),
        Option.none_or]
  rw [Memory.read, found]
  rfl

/-- Settles O8, from the cells that a written block leaves. -/
theorem blockReadsBackAsWritten : Obligations.BlockReadsBackAsWritten := fun m a d _ =>
  ⟨m.readBlock_writeBlock a d, fun _ hb => Memory.read_writeBlock_of_outside hb⟩

end Sys2Proof.Machine
end

section
/-! PROOFS. What a reset leaves of every block (R18 to R201), and which copy of the store it loads (R201). -/

namespace Sys2Proof.Machine

/-! ### Repetition over the bays -/

theorem forEach_nil {α : Type} (f : α → State → State) (s : State) : forEach [] f s = s := rfl

theorem forEach_cons {α : Type} (x : α) (xs : List α) (f : α → State → State) (s : State) :
    forEach (x :: xs) f s = forEach xs f (f x s) := rfl

/-- A bay that a repetition does not name keeps its record. -/
theorem State.bay_forEach_of_not_mem {f : BayId → State → State} {m : BayId}
    (hf : ∀ n (s : State), m ≠ n → (f n s).bay m = s.bay m) :
    ∀ (xs : List BayId) (s : State), m ∉ xs → (forEach xs f s).bay m = s.bay m
  | [], _, _ => rfl
  | n :: xs, s, h => by
    rw [forEach_cons, bay_forEach_of_not_mem hf xs _ fun hm => h (List.mem_cons_of_mem _ hm),
      hf n s fun e => h (e ▸ List.mem_cons_self)]

/-- Each bay that a repetition names once is changed once. -/
theorem State.bay_forEach_modBay {f : BayId → Bay → Bay} {m : BayId} {xs : List BayId} (s : State) (nd : xs.Nodup)
    (hm : m ∈ xs) : (forEach xs (fun n => State.modBay n (f n)) s).bay m = f m (s.bay m) := by
  induction xs generalizing s with
  | nil => cases hm
  | cons n xs ih =>
    obtain ⟨hn, nd⟩ := List.nodup_cons.1 nd
    rw [forEach_cons]
    by_cases e : m = n
    · subst e
      rw [bay_forEach_of_not_mem (fun _ _ h => bay_modBay_ne h _ _) xs _ hn, bay_modBay_self]
    · rw [ih _ nd ((List.mem_cons.1 hm).resolve_left e), bay_modBay_ne e]

theorem allBays_nodup : allBays.Nodup := by decide

theorem mem_allBays (n : BayId) : n ∈ allBays := by
  revert n
  decide

/-! ### The blocks after a reset -/

namespace State
section
variable (cause : ResetCause) (written : Bool) (s : State)

@[simp] theorem afterReset_discs : (s.afterReset cause written).discs = Vector.replicate 16 none :=
  forEach_frame discs (fun n => modBay_discs n _) allBays _

@[simp] theorem afterReset_ipt : (s.afterReset cause written).ipt = {} :=
  forEach_frame ipt (fun n => modBay_ipt n _) allBays _

@[simp] theorem afterReset_smc : (s.afterReset cause written).smc = {} :=
  forEach_frame smc (fun n => modBay_smc n _) allBays _

@[simp] theorem afterReset_psc : (s.afterReset cause written).psc = {} :=
  forEach_frame psc (fun n => modBay_psc n _) allBays _

@[simp] theorem afterReset_ports : (s.afterReset cause written).ports = Vector.replicate 4 {} :=
  forEach_frame ports (fun n => modBay_ports n _) allBays _

@[simp] theorem afterReset_bay (n : BayId) :
    (s.afterReset cause written).bay n = (s.sst.load written).working.resetBay n :=
  bay_forEach_modBay (f := fun n _ => (s.sst.load written).working.resetBay n) _ allBays_nodup (mem_allBays n)

end
end State

/-- The two resets differ in the cause that they record. -/
theorem exec_reset_of_cause {s : State} {w : Bool} {c : Instr} {cause : ResetCause}
    (h : (c = .powerOnReset w ∧ cause = .powerOn) ∨ (c = .lineReset w ∧ cause = .line)) :
    exec c s = .next (s.afterReset cause w) := by
  rcases h with ⟨rfl, rfl⟩ | ⟨rfl, rfl⟩ <;> rfl

/-- Settles O10, block by block. -/
theorem resetLeavesEveryBlockAtItsStart : Obligations.ResetLeavesEveryBlockAtItsStart := by
  intro s w c cause hc
  refine ⟨_, exec_reset_of_cause hc, ?_⟩
  cases hd : s.tsq.door with
  | closed =>
    simp [State.disc, State.stream, State.drainingCount, State.port, State.grant, Settings.resetBay,
      Config.extentsPerGiB, Config.armMotionMs, hd]
  | opened =>
    simp [State.disc, State.stream, State.drainingCount, State.port, State.grant, Settings.resetBay,
      Config.extentsPerGiB, hd]

/-! ### The load of the store -/

section
variable {x : Sst} {w : Bool}

theorem Sst.load_of_better {n : CopyName} {k : Nat} {set : Settings} (h : x.save = none)
    (better : betterCopy (x.copyA.found w) (x.copyB.found w) = some (n, k, set)) :
    (x.load w).working = set.loaded ∧ (x.load w).number = k ∧ (x.load w).defaulted = x.defaulted := by
  have : x.interrupted = x := by simp [Sst.interrupted, h]
  simp [Sst.load, this, better]

theorem Sst.load_of_none (h : x.save = none) (better : betterCopy (x.copyA.found w) (x.copyB.found w) = none) :
    (x.load w).working = {} ∧ (x.load w).defaulted = true := by
  have : x.interrupted = x := by simp [Sst.interrupted, h]
  simp [Sst.load, this, better]

end

/-- Settles O11, by the forms of the two copies. -/
theorem loadTakesTheNewerCopy : Obligations.LoadTakesTheNewerCopy := by
  intro x w hs
  refine ⟨?newer, ?older, ?onlyA, ?onlyB, ?neither⟩
  case newer =>
    intro a b u v ha hb hab
    exact Sst.load_of_better (n := .B) hs (by simp [ha, hb, StoreCopy.found, betterCopy, nextSave, hab])
  case older =>
    intro a b u v ha hb hab
    exact Sst.load_of_better (n := .A) hs (by simp [ha, hb, StoreCopy.found, betterCopy, nextSave, hab])
  case onlyA =>
    intro a u ha hb
    exact Sst.load_of_better (n := .A) hs (by simp [ha, hb, StoreCopy.found, betterCopy])
  case onlyB =>
    intro b v ha hb
    exact Sst.load_of_better (n := .B) hs (by simp [ha, hb, StoreCopy.found, betterCopy])
  case neither =>
    intro ha hb
    exact Sst.load_of_none hs (by simp [ha, hb, StoreCopy.found, betterCopy])

end Sys2Proof.Machine
end

section
/-! PROOFS. The ports: the byte handshake, the frame check and the way a request reaches its owner (R190 to R193). -/

namespace Sys2Proof.Machine
namespace State
variable {s t : State} {p : PortId} {b : Byte}

/-! ### The frame check -/

/-- Two changes of a port that make the same of its record. -/
theorem modPort_congr {f g : Port → Port} (h : f (s.port p) = g (s.port p)) : s.modPort p f = s.modPort p g := by
  unfold modPort
  rw [show f s.ports[p] = g s.ports[p] from h]

/-- The frame check reads the port's frame and its rights. -/
theorem frameFault_congr (frame : (t.port p).frame = (s.port p).frame) (sst : t.sst = s.sst) :
    t.frameFault p = s.frameFault p := by
  have rights (k : Nat) : t.mayRequest p k = s.mayRequest p k := by
    simp only [mayRequest, show t.holds = s.holds by funext q r; simp only [holds, sst]]
  have length : (t.port p).frameLength = (s.port p).frameLength := by rw [Port.frameLength, frame, Port.frameLength]
  have kind : (t.port p).frameKind = (s.port p).frameKind := by rw [Port.frameKind, frame, Port.frameKind]
  unfold frameFault
  dsimp only
  rw [length, kind, frame, rights]

theorem frameFault_modPort {f : Port → Port} (h : (f (s.port p)).frame = (s.port p).frame) :
    (s.modPort p f).frameFault p = s.frameFault p :=
  frameFault_congr (by rw [port_modPort_self, h]) rfl

/-- The tests of R193 on the frame that a byte completes. -/
theorem frameFault_assemble :
    (s.modPort p (Port.assemble b)).frameFault p =
      let x := Port.assemble b (s.port p)
      if x.frameLength < 3 ∨ 1024 < x.frameLength then some .badFrame
      else if x.frameKind = 0 ∨ 29 < x.frameKind then some .unknownRequest
      else if !paramCountOk x.frameKind (x.frame.drop 5) then some .badFrame
      else if !s.mayRequest p x.frameKind then some .noRight
      else none := by
  unfold frameFault
  rw [port_modPort_self]
  rfl

/-- A frame that passes stays with its owner. -/
theorem frameCheck_of_none (h : s.frameFault p = none) :
    s.frameCheck p = s.modPort p (fun y => { y with phase := .atOwner, gap := none, waiting := false }) := by
  unfold frameCheck
  dsimp only
  rw [frameFault_modPort rfl, h]

/-- A frame that fails is answered at once. -/
theorem frameCheck_of_some {why : Reason} (h : s.frameFault p = some why) :
    s.frameCheck p = s.modPort p (fun x =>
      { x with
        phase := .replying, frame := [], taken := 0, waiting := false, gap := none
        reply := replyBytes (if x.frameLength = 0 then 0 else x.frameKind) (if x.frameLength < 3 then 0 else x.frameTag)
          (.refused why []) }) := by
  unfold frameCheck
  dsimp only
  rw [frameFault_modPort rfl, h]
  dsimp only
  rw [answer, modPort_modPort]
  exact modPort_congr rfl

/-! ### Bytes in -/

theorem takeByte_of_incomplete (h : (Port.assemble b (s.port p)).complete = false) :
    s.takeByte p b = s.modPort p (Port.assemble b) := by
  simp [takeByte, h]

theorem takeByte_of_complete (h : (Port.assemble b (s.port p)).complete = true) :
    s.takeByte p b = (s.modPort p (Port.assemble b)).frameCheck p := by
  simp [takeByte, h]

theorem putByte_of_inFull (h : (s.port p).latch.isSome) : s.putByte p b = s := by
  simp [putByte, Port.inFull, h]

theorem putByte_of_assembling (hl : (s.port p).latch = none)
    (hp : (s.port p).phase = .idle ∨ (s.port p).phase = .assembling) : s.putByte p b = s.takeByte p b := by
  rcases hp with h | h <;> simp [putByte, Port.inFull, hl, h]

theorem putByte_of_busy (hl : (s.port p).latch = none)
    (hp : (s.port p).phase = .atOwner ∨ (s.port p).phase = .replying) :
    s.putByte p b = s.modPort p (fun y => { y with latch := some b }) := by
  rcases hp with h | h <;> simp [putByte, Port.inFull, hl, h]

/-- PUT acts at once: it makes nothing due. -/
theorem exec_put (h : (s.begin.putByte p b).due = {}) : exec (.put p b) s = .next (s.begin.putByte p b) :=
  congrArg _ (settle_of_due_none h)

/-- A byte that completes a frame has it checked. -/
theorem exec_put_of_complete (hl : (s.port p).latch = none)
    (hp : (s.port p).phase = .idle ∨ (s.port p).phase = .assembling)
    (hc : (Port.assemble b (s.port p)).complete = true) :
    exec (.put p b) s = .next (match (s.modPort p (Port.assemble b)).frameFault p with
      | some why => s.begin.modPort p (fun _ =>
          { Port.assemble b (s.port p) with
            phase := .replying, frame := [], taken := 0, waiting := false, gap := none
            reply := replyBytes
              (if (Port.assemble b (s.port p)).frameLength = 0 then 0 else (Port.assemble b (s.port p)).frameKind)
              (if (Port.assemble b (s.port p)).frameLength < 3 then 0 else (Port.assemble b (s.port p)).frameTag)
              (.refused why []) })
      | none => s.begin.modPort p (fun _ =>
          { Port.assemble b (s.port p) with phase := .atOwner, gap := none, waiting := false })) := by
  have taken : s.begin.putByte p b = (s.begin.modPort p (Port.assemble b)).frameCheck p := by
    rw [putByte_of_assembling (s := s.begin) hl hp, takeByte_of_complete (s := s.begin) hc]
  have fault : (s.begin.modPort p (Port.assemble b)).frameFault p = (s.modPort p (Port.assemble b)).frameFault p :=
    frameFault_congr (by rw [port_modPort_self, port_modPort_self]; rfl) rfl
  cases hf : (s.modPort p (Port.assemble b)).frameFault p with
  | none =>
    rw [exec_put] <;> rw [taken, frameCheck_of_none (fault.trans hf), modPort_modPort]
    · exact congrArg _ (modPort_congr rfl)
    · rfl
  | some why =>
    rw [exec_put] <;> rw [taken, frameCheck_of_some (fault.trans hf), modPort_modPort]
    · exact congrArg _ (modPort_congr rfl)
    · rfl

/-! ### Bytes out -/

theorem exec_take (h : (s.begin.takeStrobe p).due = {}) : exec (.take p) s = .next (s.begin.takeStrobe p) :=
  congrArg _ (settle_of_due_none h)

/-- The one byte of a frame begun from the latch does not complete it. -/
theorem assemble_incomplete_of_idle {x : Port} (h : x.taken = 0) : (Port.assemble b x).complete = false := by
  simp [Port.complete, Port.assemble, h]

theorem takeStrobe_of_last {x : Byte} (hr : (s.port p).reply = [x]) :
    s.takeStrobe p = s.modPort p (fun q =>
      let y : Port := { q with reply := [], phase := .idle, latch := none, frame := [], taken := 0, gap := none }
      match q.latch with
      | some b => Port.assemble b y
      | none => y) := by
  unfold takeStrobe replyTaken
  rw [hr]
  dsimp only
  rw [port_modPort_self, modPort_modPort]
  cases hl : (s.port p).latch with
  | none => exact modPort_congr (by simp [hl])
  | some b =>
    dsimp only
    rw [takeByte_of_incomplete (assemble_incomplete_of_idle (by rw [port_modPort_self])), modPort_modPort]
    exact modPort_congr (by simp [hl])

/-! ### The byte gap timer -/

theorem exec_byteGap :
    exec (.byteGapTimerExpiry p) s =
      .next (if (s.port p).gap.isSome then s.begin.modPort p Port.dropFrame else s.begin) := by
  change Host.Outcome.next (settle (if (s.port p).gap.isSome then s.begin.modPort p Port.dropFrame else s.begin)) = _
  rw [settle_of_due_none]
  split <;> rfl

end State

/-- Settles O12, strobe by strobe; the frame check by its tests in order. -/
theorem bytesMoveOneAtATime : Obligations.BytesMoveOneAtATime := by
  intro s p b
  refine ⟨?joins, ?checked, ?waits, ?ignored, ?noReply, ?next, ?last, ?begins, ?gap, ?stopped⟩
  case joins =>
    intro hl hp hc
    have put : s.begin.putByte p b = s.begin.modPort p (Port.assemble b) := by
      rw [State.putByte_of_assembling (s := s.begin) hl hp, State.takeByte_of_incomplete (s := s.begin) hc]
    rw [State.exec_put (by rw [put]; rfl), put]
    rfl
  case checked =>
    intro hl hp hc
    have fault := State.frameFault_assemble (s := s) (p := p) (b := b)
    intro x answered
    have answers (why : Reason) (h : (s.modPort p (Port.assemble b)).frameFault p = some why) :
        exec (.put p b) s = answered why := by
      rw [State.exec_put_of_complete hl hp hc, h]
    refine ⟨fun hlen => answers _ ?_, fun h3 h1024 => ?_⟩
    · rw [fault, if_pos hlen]
    · have hlen : ¬ (x.frameLength < 3 ∨ 1024 < x.frameLength) := by omega
      refine ⟨fun hkind => answers _ ?_, fun h1 h29 => ?_⟩
      · rw [fault, if_neg hlen, if_pos hkind]
      · have hkind : ¬ (x.frameKind = 0 ∨ 29 < x.frameKind) := by omega
        refine ⟨fun hparams => answers _ ?_, fun hparams => ⟨fun hright => answers _ ?_, fun hright => ?_⟩⟩
        · rw [fault, if_neg hlen, if_neg hkind, if_pos (by rw [hparams]; rfl)]
        · rw [fault, if_neg hlen, if_neg hkind, if_neg (by rw [hparams]; decide), if_pos (by rw [hright]; rfl)]
        · rw [State.exec_put_of_complete hl hp hc, fault, if_neg hlen, if_neg hkind, if_neg (by rw [hparams]; decide),
            if_neg (by rw [hright]; decide)]
  case waits =>
    intro hl hp
    have put := State.putByte_of_busy (s := s.begin) (b := b) hl hp
    rw [State.exec_put (by rw [put]; rfl), put]
  case ignored =>
    intro hl
    have put := State.putByte_of_inFull (s := s.begin) (b := b) hl
    rw [State.exec_put (by rw [put]; rfl), put]
  case noReply =>
    intro hr
    have taken : s.begin.takeStrobe p = s.begin := by simp [State.takeStrobe, hr]
    rw [State.exec_take (by rw [taken]; rfl), taken]
  case next =>
    intro x y rest hr
    have taken : s.begin.takeStrobe p = s.begin.modPort p (fun q => { q with reply := y :: rest }) := by
      simp [State.takeStrobe, hr]
    rw [State.exec_take (by rw [taken]; rfl), taken]
  case last =>
    intro x hr hl
    rw [State.exec_take] <;> rw [State.takeStrobe_of_last (s := s.begin) hr]
    · exact congrArg _ (State.modPort_congr (by simp [hl]))
    · rfl
  case begins =>
    intro x y hr hl
    rw [State.exec_take] <;> rw [State.takeStrobe_of_last (s := s.begin) hr]
    · exact congrArg _ (State.modPort_congr (by simp [hl, Port.assemble, Config.byteGapMs]))
    · rfl
  case gap =>
    intro hg
    exact State.exec_byteGap.trans (by simp [hg]; rfl)
  case stopped =>
    intro hg
    exact State.exec_byteGap.trans (by simp [hg])

end Sys2Proof.Machine
end

section
/-! PROOFS. A request sent whole to a free port (R193; notes/assumptions/1.md): it fails the frame check, or its owner
runs in the state in which the port holds it. -/

namespace Sys2Proof.Machine
section
variable {s : State} {p : PortId} {kind tag : Nat} {params : List Byte}

/-! ### The check of a request's frame -/

/-- A port that is free holds no request. -/
theorem Port.not_holdsRequest_of_free {x : Port} {frame : List Byte} (h : x.free = true) : x.holdsRequest frame = false := by
  cases hp : x.phase <;> simp_all [Port.free, Port.holdsRequest]

/-- The port while the frame it was sent is checked. -/
def Port.sent (frame : List Byte) (x : Port) : Port :=
  { x with reply := [], frame := frame, taken := frame.length, gap := none }

theorem sendFrame_eq (frame : List Byte) : s.sendFrame p frame = (s.modPort p (Port.sent frame)).frameCheck p := rfl

/-- Of the tests of R193 a frame of a listed kind can fail the number of its parameters and the right. -/
theorem frameFault_sent (hk : 1 ≤ kind ∧ kind ≤ 29) (ht : tag < 65536) (hp : params.length < 1000) :
    (s.modPort p (Port.sent (requestFrame kind tag params))).frameFault p =
      if !paramCountOk kind params then some .badFrame
      else if !s.mayRequest p kind then some .noRight
      else none := by
  obtain ⟨length, code, -, rest⟩ := requestFrame_fields (by omega) ht hp
    (Port.sent (requestFrame kind tag params) (s.port p)) rfl
  have hlen : ¬ (3 + params.length < 3 ∨ Config.frameBytes < 3 + params.length) := by
    rw [show Config.frameBytes = 1024 from rfl]
    omega
  unfold State.frameFault
  rw [State.port_modPort_self]
  dsimp only
  rw [length, code, rest, if_neg hlen, if_neg (by omega)]
  rfl

/-- A frame that fails its check has its port answered. -/
theorem sendFrame_of_fault {why : Reason} (hk : 1 ≤ kind ∧ kind ≤ 29) (ht : tag < 65536) (hp : params.length < 1000)
    (h : (s.modPort p (Port.sent (requestFrame kind tag params))).frameFault p = some why) :
    s.sendFrame p (requestFrame kind tag params) = s.answer p kind tag (.refused why []) := by
  obtain ⟨length, code, tagged, -⟩ := requestFrame_fields (by omega) ht hp
    (Port.sent (requestFrame kind tag params) (s.port p)) rfl
  rw [sendFrame_eq, State.frameCheck_of_some h, State.modPort_modPort, State.answer]
  refine State.modPort_congr ?_
  rw [length, code, tagged, if_neg (by omega), if_neg (by omega)]
  rfl

/-- A frame that passes its check stays with its owner. -/
theorem sendFrame_of_none (h : (s.modPort p (Port.sent (requestFrame kind tag params))).frameFault p = none) :
    s.sendFrame p (requestFrame kind tag params) = s.modPort p (Port.withOwner (requestFrame kind tag params)) := by
  rw [sendFrame_eq, State.frameCheck_of_none h, State.modPort_modPort]
  rfl

/-! ### Requests sent to a free port -/

variable {owner : State → State}

theorem request_of_fault {why : Reason} (hk : 1 ≤ kind ∧ kind ≤ 29) (ht : tag < 65536) (hp : params.length < 1000)
    (free : (s.port p).free = true)
    (h : (s.modPort p (Port.sent (requestFrame kind tag params))).frameFault p = some why) :
    request p kind tag params owner s = s.begin.answer p kind tag (.refused why []) := by
  have sent : s.begin.sendFrame p (requestFrame kind tag params) = s.begin.answer p kind tag (.refused why []) :=
    sendFrame_of_fault hk ht hp h
  have held : ((s.begin.answer p kind tag (.refused why [])).port p).holdsRequest (requestFrame kind tag params) = false := by
    simp [State.answer, Port.answer, Port.holdsRequest]
  unfold request
  simp [Port.not_holdsRequest_of_free free, free, sent, held]

theorem request_of_none (free : (s.port p).free = true)
    (h : (s.modPort p (Port.sent (requestFrame kind tag params))).frameFault p = none) :
    request p kind tag params owner s =
      request p kind tag params owner (s.modPort p (Port.withOwner (requestFrame kind tag params))) := by
  have sent : s.begin.sendFrame p (requestFrame kind tag params) =
      s.begin.modPort p (Port.withOwner (requestFrame kind tag params)) := sendFrame_of_none h
  have held (x : Port) : (Port.withOwner (requestFrame kind tag params) x).holdsRequest (requestFrame kind tag params) =
      true := by
    simp [Port.withOwner, Port.holdsRequest]
  rw [request_of_holds (s := s.modPort p _) (by rw [State.port_modPort_self]; exact held _)]
  unfold request
  simp [Port.not_holdsRequest_of_free free, free, sent, held]
  rfl

theorem request_of_unsent (free : (s.port p).free = false)
    (held : (s.port p).holdsRequest (requestFrame kind tag params) = false) :
    request p kind tag params owner s = s.begin := by
  simp [request, free, held]

end

/-! ### The requests of the table -/

/-- A command runs as a request, with an owner of its own. -/
def RunsAsRequest (c : Instr) (p : PortId) (kind tag : Nat) (params : List Byte) : Prop :=
  ∃ owner : State → State, ∀ s, exec c s = .next (request p kind tag params owner s)

section
variable {c : Instr} {p : PortId} {kind tag : Nat} {params : List Byte}

theorem RunsAsRequest.now (owner : State → State × Answer)
    (h : ∀ s, exec c s = .next (requestNow p kind tag params owner s)) : RunsAsRequest c p kind tag params :=
  ⟨_, h⟩

theorem RunsAsRequest.read (owner : State → Answer)
    (h : ∀ s, exec c s = .next (requestRead p kind tag params owner s)) : RunsAsRequest c p kind tag params :=
  .now _ h

theorem runsAsRequest_of_requestOf (h : requestOf c = some (p, kind, tag, params)) : RunsAsRequest c p kind tag params := by
  cases c with
  | queryImage q tag image => cases h; exact .read (ownQueryImage image) fun _ => rfl
  | queryJob q tag job => cases h; exact .read (ownQueryJob job) fun _ => rfl
  | readRejects q tag job first => cases h; exact .read (ownReadRejects job first) fun _ => rfl
  | queryBay q tag bay => cases h; exact .read (ownQueryBay bay) fun _ => rfl
  | queryTower q tag => cases h; exact .read (fun s => .good s.towerBytes) fun _ => rfl
  | readSettings q tag => cases h; exact .read (fun s => .good s.sst.bytes) fun _ => rfl
  | clearTower q tag => cases h; exact .now (fun s => (s.clearTower, .good [])) fun _ => rfl
  | printerServiced q tag => cases h; exact ⟨ownPrinterServiced p tag, fun _ => rfl⟩
  | saveSettings q tag => cases h; exact ⟨ownSaveSettings p tag, fun _ => rfl⟩
  | openImage | sealImage | abandonImage | deleteImage | imageFromDisc | submitJob | holdJob | releaseJob | cancelJob
  | retireJob | bayOffline | bayOnline | setSpindle | spindleEmptied | armResume | bookNotice | dropBooking
  | fetchNotice | setAttention | writeSettings => cases h; exact .now _ fun _ => rfl
  | _ => cases h

end

/-- A request that the links can carry has a listed kind, and fits a frame. -/
theorem wf_of_requestOf {c : Instr} {p : PortId} {kind tag : Nat} {params : List Byte}
    (h : requestOf c = some (p, kind, tag, params)) (wf : c.wf = true) :
    (1 ≤ kind ∧ kind ≤ 29) ∧ tag < 65536 ∧ params.length < 1000 := by
  cases c <;> cases h <;>
    simp_all [Instr.wf, SubmitParams.wf, fits16, fits8, u8, u16, u32, submitBytes_length]
  omega

/-- Settles O13: the frame check of a request that fits its frame has two tests to make. -/
theorem requestOnAFreePortReachesItsOwner : Obligations.RequestOnAFreePortReachesItsOwner := by
  intro c s p kind tag params hc wf
  obtain ⟨owner, hexec⟩ := runsAsRequest_of_requestOf hc
  obtain ⟨hk, ht, hp⟩ := wf_of_requestOf hc wf
  have fault := frameFault_sent (s := s) (p := p) hk ht hp
  refine ⟨fun ok free => ⟨fun may => ?owner, fun may => ?right⟩, fun bad free => ?bad, fun free held => ?unsent⟩
  case owner =>
    rw [hexec, hexec, request_of_none free]
    rw [fault, ok, may]
    rfl
  case right =>
    rw [hexec, request_of_fault hk ht hp free]
    rw [fault, ok, may]
    rfl
  case bad =>
    rw [hexec, request_of_fault hk ht hp free]
    rw [fault, bad]
    rfl
  case unsent => rw [hexec, request_of_unsent free held]

end Sys2Proof.Machine
end

section
/-! PROOFS. Requests that read, and requests on images (R38, R45 to R60, R65, R132, R173, R202). -/

namespace Sys2Proof.Machine
section
variable {s t : State} {p : PortId} {kind tag : Nat} {params : List Byte} {a : Answer}

/-! ### Requests that a port holds -/

/-- The owner's state and answer, with the step's end. -/
theorem requestNow_settles {owner : State → State × Answer}
    (held : (s.port p).holdsRequest (requestFrame kind tag params) = true) (h : owner s.begin = (t, a)) :
    requestNow p kind tag params owner s = (t.answer p kind tag a).settle := by
  rw [requestNow_of_holds held, h]

/-- An owner that makes nothing due: the step ends with the answer. -/
theorem requestNow_answers {owner : State → State × Answer}
    (held : (s.port p).holdsRequest (requestFrame kind tag params) = true) (h : owner s.begin = (t, a))
    (due : t.due = {}) : requestNow p kind tag params owner s = t.answer p kind tag a := by
  rw [requestNow_settles held h]
  exact State.settle_of_due_none due

theorem requestRead_answers {owner : State → Answer}
    (held : (s.port p).holdsRequest (requestFrame kind tag params) = true) (h : owner s.begin = a) :
    requestRead p kind tag params owner s = s.begin.answer p kind tag a := by
  rw [requestRead_of_holds held, h]

end

/-! ### Requests that read -/

theorem Settings.items_eq (x : Settings) : x.items = (List.range 16).map (fun i => x.item (i + 1)) := rfl

/-- Settles O15: the reply is the store's bytes. -/
theorem readSettingsGivesTheWorkingSet : Obligations.ReadSettingsGivesTheWorkingSet := by
  refine fun s p tag => ⟨s.mayRequest_of_kindRights_nil rfl p, fun held => ?_⟩
  refine congrArg _ ((requestRead_answers held rfl).trans ?_)
  rw [Sst.bytes, Settings.items_eq, List.map_map]
  rfl

theorem bayOf_val (n : BayId) : bayOf n.val = some n := by simp [bayOf]

theorem bayOf_of_lt {n : Nat} (h : 11 < n) : bayOf n = none := by
  rw [bayOf, dif_neg (by omega)]

/-- Settles O16, by the cases of the four owners. -/
theorem queriesOnlyReply : Obligations.QueriesOnlyReply := by
  intro s p tag
  refine ⟨fun image held => ⟨?catalogue, ?image, ?noImage⟩, fun job held => ⟨?job, ?noJob⟩,
    fun bay held => ⟨?bay, ?noBay⟩, fun held => congrArg _ (requestRead_answers held rfl)⟩
  case catalogue =>
    intro h
    exact congrArg _ (requestRead_answers held (by rw [ownQueryImage, if_pos h]; rfl))
  case image =>
    intro x h hx
    have found : s.begin.image? image = some x := hx
    exact congrArg _ (requestRead_answers held (by rw [ownQueryImage, if_neg h, found]))
  case noImage =>
    intro h hx
    have found : s.begin.image? image = none := hx
    exact congrArg _ (requestRead_answers held (by rw [ownQueryImage, if_neg h, found]))
  case job =>
    intro j hj
    exact congrArg _ (requestRead_answers held (by rw [ownQueryJob, State.begin_job?, hj]; rfl))
  case noJob =>
    intro hj
    exact congrArg _ (requestRead_answers held (by rw [ownQueryJob, State.begin_job?, hj]))
  case bay =>
    rintro n rfl
    exact congrArg _ (requestRead_answers held (by rw [ownQueryBay, bayOf_val]; rfl))
  case noBay =>
    intro h
    exact congrArg _ (requestRead_answers held (by rw [ownQueryBay, bayOf_of_lt h]))

/-! ### Requests on images -/

@[simp] theorem State.begin_image? (s : State) (i : Nat) : s.begin.image? i = s.image? i := rfl

/-- Two changes of one image are one. -/
theorem State.modImage_modImage {s : State} {i : Nat} {f g : Image → Image} (hf : ∀ x, (f x).number = x.number) :
    (s.modImage i f).modImage i g = s.modImage i (fun x => g (f x)) := by
  unfold State.modImage
  simp only [List.map_map]
  congr 2
  refine List.map_congr_left fun x _ => ?_
  by_cases h : x.number = i <;> simp [h, hf]

/-- An open that the catalogue has an entry and extents for is not refused (R56). -/
theorem State.openRefusal_of_room {s : State} {length : Nat} (entries : s.cat.images.length < 16)
    (extents : extentsFor length ≤ s.cat.freeExtents.length) : s.openRefusal length = none := by
  have entries : ¬ Config.catalogueEntries ≤ s.cat.images.length := Nat.not_le.2 entries
  rw [State.openRefusal, if_neg entries, if_neg (Nat.not_lt.2 extents)]

/-- Settles O17: neither request is refused, and both take their entry from State.openEntry. -/
theorem anOpenFillsAnEntry : Obligations.AnOpenFillsAnEntry := by
  intro s p tag length flags h1 entries extents
  have room : s.begin.openRefusal length = none := State.openRefusal_of_room (s := s.begin) entries extents
  refine ⟨fun code kind hk hlen held => ?image, fun code x hx hlen masters held => ?master⟩
  case image =>
    refine congrArg _ (requestNow_answers held ?_ rfl)
    have long : ¬ (length = 0 ∨ kind.maxLength < length) := by omega
    rw [ownOpenImage, hk]
    dsimp only
    rw [if_neg long, room]
    rfl
  case master =>
    refine congrArg _ (requestNow_settles held ?_)
    have long : ¬ (length = 0 ∨ Config.maxDiscLength < length) := by
      rw [show Config.maxDiscLength = 4194304 from rfl]
      omega
    rw [ownImageFromDisc, hx]
    dsimp only
    rw [if_neg long, room]
    dsimp only
    have free : ¬ Config.masterRequests ≤ s.begin.jsc.masters.length := Nat.not_le.2 masters
    rw [if_neg free]
    rfl

/-- SEAL-IMAGE by the owner of a FILLING intake image: the tests of R57 that are left. -/
theorem ownSealImage_of_filling {s : State} {p : PortId} {i : Nat} {x : Image} (found : s.image? i = some x)
    (owner : x.owner = p) (filling : x.state = .filling) (intake : x.source = .intake) :
    ownSealImage p i s =
      if x.accepted < x.length then (s, .refused .short (u32 x.accepted ++ u32 x.ingested))
      else if x.isSealed then (s, .good (u8 1))
      else if x.ingested = x.length then
        ((s.modImage i (fun y => { y with isSealed := true })).imageReady i, .good (u8 2))
      else (s.modImage i (fun y => { y with isSealed := true }), .good (u8 1)) := by
  simp only [ownSealImage, found, owner, filling, intake, ne_eq, not_true_eq_false, or_self, if_false]
  rfl

/-- Settles O19, by the tests of R57 in order. -/
theorem sealingAnImage : Obligations.SealingAnImage := by
  intro s p tag i x hx owner filling intake held
  have seals := ownSealImage_of_filling (s := s.begin) hx owner filling intake
  refine ⟨fun short => ?short, fun long done => ?done, fun long fresh part => ?part, fun long fresh full => ?full⟩
  case short => exact congrArg _ (requestNow_answers held (seals.trans (if_pos short)) rfl)
  all_goals rw [if_neg (Nat.not_lt.2 long)] at seals
  case done => exact congrArg _ (requestNow_answers held (seals.trans (if_pos done)) rfl)
  all_goals rw [if_neg (by simp [fresh])] at seals
  case part => exact congrArg _ (requestNow_answers held (seals.trans (if_neg part)) rfl)
  case full =>
    refine congrArg _ ((requestNow_settles held (seals.trans (if_pos full))).trans ?_)
    rw [State.imageReady, State.modImage_modImage fun _ => by rfl]

end Sys2Proof.Machine
end

section
/-! PROOFS. Requests on jobs (R20 to R37), with one lemma for each change of the job table. -/

namespace Sys2Proof.Machine
namespace State
variable {s : State} {n k : Nat} {j : Job}

/-! ### The job table -/

theorem job?_number (h : s.job? n = some j) : j.number = n := (job?_mem h).2

theorem job?_modJob {f : Job → Job} (hf : ∀ x, (f x).number = x.number) :
    (s.modJob n f).job? k = if k = n then (s.job? k).map f else s.job? k := by
  have key (x : Job) : (if x.number = n then f x else x).number = x.number := by
    split
    · exact hf x
    · rfl
  unfold job? modJob
  rw [List.find?_map]
  have same : ((fun x : Job => x.number == k) ∘ fun x => if x.number = n then f x else x) = fun x => x.number == k := by
    funext x
    simp [key]
  rw [same]
  cases hk : s.jsc.jobs.find? (fun x => x.number == k) with
  | none => simp
  | some x =>
    have hx : x.number = k := by simpa using List.find?_some hk
    by_cases e : k = n <;> simp [e, hx]

theorem job?_modJob_self {f : Job → Job} (hf : ∀ x, (f x).number = x.number) (h : s.job? n = some j) :
    (s.modJob n f).job? n = some (f j) := by
  rw [job?_modJob hf, if_pos rfl, h, Option.map_some]

theorem job?_modJob_ne {f : Job → Job} (hf : ∀ x, (f x).number = x.number) (h : k ≠ n) :
    (s.modJob n f).job? k = s.job? k := by
  rw [job?_modJob hf, if_neg h]

/-- Two changes of one job are one. -/
theorem modJob_modJob {f g : Job → Job} (hf : ∀ x, (f x).number = x.number) :
    (s.modJob n f).modJob n g = s.modJob n (fun x => g (f x)) := by
  unfold modJob
  simp only [List.map_map]
  congr 2
  refine List.map_congr_left fun x _ => ?_
  by_cases h : x.number = n <;> simp [h, hf]

/-! ### R25 -/

theorem refreshJob_of_live (h : s.job? n = some j) (hl : j.live = true) :
    s.refreshJob n =
      if s.liveState j = .active ∧ j.state ≠ .active then (s.modJob n (fun x => { x with state := s.liveState j })).duePass
      else s.modJob n (fun x => { x with state := s.liveState j }) := by
  simp [refreshJob, h, hl]

theorem job?_refreshJob_of_live (h : s.job? n = some j) (hl : j.live = true) :
    (s.refreshJob n).job? n = some { j with state := s.liveState j } := by
  have set : (s.modJob n (fun x => { x with state := s.liveState j })).job? n = some { j with state := s.liveState j } :=
    job?_modJob_self (fun _ => rfl) h
  rw [refreshJob_of_live h hl]
  split
  · exact set
  · exact set

theorem liveState_live : ({ j with state := s.liveState j } : Job).live = true := by
  unfold liveState
  split
  · rfl
  · split <;> rfl

/-- The state of R25 is a matter of the images and of the job's hold set and demands. -/
theorem liveState_congr {t : State} {i : Job} (cat : t.cat = s.cat) (holds : i.holds = j.holds)
    (disc : i.discImage = j.discImage) (label : i.labelImage = j.labelImage) (early : i.earlyStart = j.earlyStart) :
    t.liveState i = s.liveState j := by
  have images : t.image? = s.image? := by
    funext x
    rw [image?, image?, cat]
  unfold liveState imagesMet discImageMet labelImageMet
  rw [holds, disc, label, early, images]

/-! ### Hold causes -/

theorem addHold_of_has {c : HoldCause} (h : s.job? n = some j) (hc : j.holds.has c = true) : s.addHold c n = s := by
  simp [addHold, h, hc]

theorem HoldSet.nonempty_of_has {h : HoldSet} {c : HoldCause} (hc : h.has c = true) : h.nonempty = true := by
  cases c <;> simp_all [HoldSet.has, HoldSet.nonempty]

theorem HoldSet.has_put (h : HoldSet) (c : HoldCause) (b : Bool) : (h.put c b).has c = b := by
  cases c <;> rfl

/-- A new cause holds a job (R27). -/
theorem addHold_of_new {c : HoldCause} (h : s.job? n = some j) (hl : j.live = true) (hc : j.holds.has c = false) :
    s.addHold c n = (s.modJob n (fun x => { x with holds := x.holds.put c true, state := .held })).deliver
      { kind := .jobHeld, subject := .job n, detail := .hold c } := by
  have held : (s.modJob n (fun x => { x with holds := x.holds.put c true })).job? n =
      some { j with holds := j.holds.put c true } := job?_modJob_self (fun _ => rfl) h
  have state (t : State) : t.liveState { j with holds := j.holds.put c true } = .held :=
    liveState_held_iff.2 (HoldSet.nonempty_of_has (HoldSet.has_put j.holds c true))
  rw [addHold, h]
  dsimp only
  rw [hl, hc, if_pos (by rfl), refreshJob_of_live held hl, state, if_neg (by simp), modJob_modJob fun _ => by rfl]

/-- A job that is neither DRAINING nor terminal, with a cause taken from its hold set (R27, R25). -/
def loses (s : State) (c : HoldCause) (j : Job) : Job :=
  if j.holds.has c then
    { j with holds := j.holds.put c false, state := s.liveState { j with holds := j.holds.put c false } }
  else j

theorem loses_live {c : HoldCause} (hl : j.live = true) : (s.loses c j).live = true := by
  unfold loses
  split
  · exact liveState_live
  · exact hl

theorem loses_congr {t : State} {c : HoldCause} (cat : t.cat = s.cat) : t.loses c j = s.loses c j := by
  unfold loses
  rw [liveState_congr cat rfl rfl rfl rfl]

theorem job?_removeHold {c : HoldCause} (h : s.job? n = some j) (hl : j.live = true) :
    (s.removeHold c n).job? n = some (s.loses c j) := by
  rw [removeHold, h, loses]
  dsimp only
  rw [hl, Bool.true_and]
  split
  · have put : (s.modJob n (fun x => { x with holds := x.holds.put c false })).job? n =
        some { j with holds := j.holds.put c false } := job?_modJob_self (fun _ => rfl) h
    rw [job?_refreshJob_of_live put hl, liveState_congr (s := s) (j := { j with holds := j.holds.put c false })] <;> rfl
  · exact h

theorem removeHold_cat {c : HoldCause} : (s.removeHold c n).cat = s.cat := by
  unfold removeHold
  split
  · split
    · obtain ⟨_, _, e⟩ := (s.modJob n _).refreshJob_frame (n := n)
      rw [e]
      rfl
    · rfl
  · rfl

/-- RELEASE-JOB takes three causes; the state is that of R25 if it took one (R30). -/
theorem job?_released (h : s.job? n = some j) (hl : j.live = true) (hi : j.holds.imageLost = false)
    (hs : j.holds.serialEnd = false) :
    (((s.removeHold .byClient n).removeHold .rejectHold n).removeHold .cleared n).job? n = some { j with
      holds.byClient := false, holds.rejectHold := false, holds.cleared := false
      state :=
        if j.holds.byClient || j.holds.rejectHold || j.holds.cleared then
          (if j.holds.noBlanks || j.holds.spindleSuspect then .held
           else if s.imagesMet j then .active else .waitingImage)
        else j.state } := by
  have first := job?_removeHold (c := .byClient) h hl
  have second := job?_removeHold (c := .rejectHold) first (loses_live hl)
  have third := job?_removeHold (c := .cleared) second (loses_live (loses_live hl))
  rw [third, loses_congr (removeHold_cat.trans removeHold_cat), loses_congr removeHold_cat]
  have met (x : HoldSet) (y : JobState) : s.imagesMet { j with holds := x, state := y } = s.imagesMet j := rfl
  cases h1 : j.holds.byClient <;> cases h2 : j.holds.rejectHold <;> cases h3 : j.holds.cleared <;>
    simp [loses, HoldSet.has, HoldSet.put, h1, h2, h3, liveState, HoldSet.nonempty, hi, hs, met]
  case false.false.false =>
    obtain ⟨⟩ := j
    rename_i holds _ _ _
    obtain ⟨⟩ := holds
    simp_all

end State
open State

/-- The port acts for the job: it owns it, or holds MANAGE (R29, R194). -/
theorem State.actsFor_iff {s : State} {p : PortId} {j : Job} :
    s.actsFor p j = true ↔ j.owner = p ∨ s.holds p .manage = true := by
  simp [State.actsFor]

@[simp] theorem State.begin_holds (s : State) (p : PortId) (r : Right) : s.begin.holds p r = s.holds p r := rfl
@[simp] theorem State.begin_actsFor (s : State) (p : PortId) (j : Job) : s.begin.actsFor p j = s.actsFor p j := rfl

/-- Settles O21: the job that enters is State.newJob of the one the fields spell. -/
theorem submitEntersTheJob : Obligations.SubmitEntersTheJob := by
  intro s p tag params parsed hparse hrefuse held
  have accepted : s.begin.submitRefusal p parsed = none := hrefuse
  refine ⟨s.begin.newJob parsed, rfl, rfl, rfl, ?state, rfl, congrArg _ (requestNow_settles held ?owner)⟩
  case state => rfl
  case owner =>
    rw [ownSubmitJob, hparse]
    dsimp only
    rw [accepted]
    rfl

/-- Settles O22: HOLD-JOB is one change of the job, RELEASE-JOB three removals after which R25 has the last word. -/
theorem holdingAndReleasingAJob : Obligations.HoldingAndReleasingAJob := by
  intro s p tag job j hj hl acts
  have found : s.begin.job? job = some j := hj
  have may : s.begin.actsFor p j = true := actsFor_iff.2 acts
  refine ⟨fun hold => ⟨fun old => ?old, fun new => ?new⟩, fun release => ⟨fun stays => ?stays, fun hi hs => ?released⟩⟩
  case old =>
    refine congrArg _ (requestNow_answers hold ?_ rfl)
    rw [ownHoldJob, found]
    simp only [may, hl, Bool.not_true, Bool.false_eq_true, if_false]
    rw [addHold_of_has (c := .byClient) found old, stateBytes, found]
    rfl
  case new =>
    refine congrArg _ (requestNow_answers hold ?_ rfl)
    rw [ownHoldJob, found]
    simp only [may, hl, Bool.not_true, Bool.false_eq_true, if_false]
    rw [addHold_of_new (c := .byClient) found hl new]
    have state : (s.begin.modJob job (fun x => { x with holds := x.holds.put .byClient true, state := .held })).job? job =
        some { j with holds := j.holds.put .byClient true, state := .held } := job?_modJob_self (fun _ => rfl) found
    rw [stateBytes, show ∀ (e : Event) (u : State), (u.deliver e).job? job = u.job? job from fun _ _ => rfl, state]
    rfl
  case stays =>
    refine congrArg _ (requestNow_answers release ?_ rfl)
    rw [ownReleaseJob, found]
    rcases stays with h | h <;> simp [may, hl, h, refuse]
  case released =>
    refine ⟨_, _, rfl, job?_released found hl hi hs, rfl, congrArg _ (requestNow_settles release ?_)⟩
    rw [ownReleaseJob, found]
    simp only [may, hl, hi, hs, Bool.not_true, Bool.or_self, Bool.false_eq_true, if_false,
      job?_released found hl hi hs]
    rfl

/-- Settles O24, by the tests of R37 in order. -/
theorem retiringAJob : Obligations.RetiringAJob := by
  intro s p tag job held
  refine ⟨fun hj => ?noSuch, fun j hj owner rights => ?notOwner, fun j hj acts => ⟨fun h1 h2 h3 => ?wrongState, fun terminal => ?freed⟩⟩
  case noSuch => exact congrArg _ (requestNow_answers held (by rw [ownRetireJob, begin_job?, hj]; rfl) rfl)
  case notOwner =>
    refine congrArg _ (requestNow_answers held ?_ rfl)
    have no : s.actsFor p j = false := by simp [actsFor, owner, rights]
    rw [ownRetireJob, begin_job?, hj]
    simp [no, refuse]
  case wrongState =>
    refine congrArg _ (requestNow_answers held ?_ rfl)
    have live : j.state.terminal = false := by cases hs : j.state <;> simp_all [JobState.terminal]
    rw [ownRetireJob, begin_job?, hj]
    simp [actsFor_iff.2 acts, live, refuse]
  case freed =>
    have final : j.state.terminal = true := by rcases terminal with h | h | h <;> simp [h, JobState.terminal]
    refine ⟨_, congrArg Host.Outcome.next (requestNow_answers (a := .good []) held ?_ (by rfl)), rfl, ?_, ?_⟩
    · rw [ownRetireJob, begin_job?, hj]
      simp [actsFor_iff.2 acts, final]
    · simp [job?, answer]
    · simp [answer]

end Sys2Proof.Machine
end

section
/-! PROOFS. Requests on spindles and bins, bookings and notices (R164, R166, R195 to R200). -/

namespace Sys2Proof.Machine
open State

/-! ### Spindles and bins -/

@[simp] theorem State.begin_spindle (s : State) (x : Spindle) : s.begin.spindle x = s.spindle x := by cases x <;> rfl

theorem ownSetSpindle_eq {s : State} {code cls count : Nat} {x : Spindle} {c : Option MediaClass} {k : Option Nat}
    (hx : spindleOf code = some x) (hc : declaredClassOf cls = some c) (hk : spindleCountOf count = some k) :
    ownSetSpindle code cls count s = (s.setSpindle x c k, .good ((s.setSpindle x c k).spindle x).bytes) := by
  rw [ownSetSpindle, hx, hc, hk]

section
variable {s : State} {x : Spindle} {c : Option MediaClass} {k kept : Option Nat}

theorem setSpindle_of_stays (hk : k.map (fun v => min v (s.spindle x).capacity) = kept)
    (h : kept ≠ some 0 ∨ (s.spindle x).state = .empty) :
    s.setSpindle x c k = (s.modSpindle x (fun r =>
      { r with cls := c, count := kept, wrong := 0, state := if kept = some 0 then .empty else .normal })).evalSpindles.clearSuspectHolds.dueBoth := by
  unfold setSpindle
  dsimp only
  rw [hk, if_neg (by tauto)]

theorem setSpindle_of_turns (hk : k.map (fun v => min v (s.spindle x).capacity) = kept)
    (h0 : kept = some 0) (h : (s.spindle x).state ≠ .empty) :
    s.setSpindle x c k =
      ((s.modSpindle x (fun r =>
      { r with cls := c, count := kept, wrong := 0, state := if kept = some 0 then .empty else .normal })).turnEmpty x).evalSpindles.clearSuspectHolds.dueBoth := by
  unfold setSpindle
  dsimp only
  rw [hk, if_pos ⟨h0, h⟩]

end

/-- Settles O26: the two clauses are the two ways a spindle's state can go. -/
theorem settingASpindle : Obligations.SettingASpindle := by
  intro s p tag code cls count x c k hx hc hk held
  refine ⟨fun stays => ?stays, fun h0 turns => ?turns⟩
  case stays =>
    refine congrArg Host.Outcome.next (requestNow_settles held ?_)
    rw [ownSetSpindle_eq hx hc hk, setSpindle_of_stays (s := s.begin) (by rw [begin_spindle]) (by rwa [begin_spindle])]
  case turns =>
    refine congrArg Host.Outcome.next (requestNow_settles held ?_)
    rw [ownSetSpindle_eq hx hc hk,
      setSpindle_of_turns (s := s.begin) (by rw [begin_spindle]) h0 (by rwa [begin_spindle])]

theorem ownSpindleEmptied_of_other {place : Nat} (h3 : place ≠ 3) (h4 : place ≠ 4) (s : State) :
    ownSpindleEmptied place s = refuse .badParameter s := by
  unfold ownSpindleEmptied
  split
  · exact absurd rfl h3
  · exact absurd rfl h4
  · rfl

/-- Settles O27: the right is tested with the frame, the place at the TSQ. -/
theorem emptyingOutOrRej : Obligations.EmptyingOutOrRej := by
  intro s p tag place
  refine ⟨fun free right _ ht => ?right, fun held => ⟨fun h3 h4 => ?other, ?out, ?rej⟩⟩
  case right =>
    have fault := frameFault_sent (s := s) (p := p) (kind := 18) (params := u8 place) (by decide) ht (by simp [u8])
    have may : s.mayRequest p 18 = false := by simp [mayRequest, kindRights, right]
    refine congrArg _ (request_of_fault (by decide) ht (by simp [u8]) free ?_)
    rw [fault, may]
    rfl
  case other => exact congrArg _ (requestNow_answers held (ownSpindleEmptied_of_other h3 h4 _) rfl)
  case out =>
    rintro rfl
    exact congrArg _ (requestNow_settles held rfl)
  case rej =>
    rintro rfl
    exact congrArg _ (requestNow_settles held rfl)

/-! ### Bookings -/

/-- The lowest-numbered free slot is the first one that `find?` meets. -/
theorem Port.freeBooking_eq_some {x : Port} {i : Fin 8} (hi : x.bookings[i] = none) (below : ∀ h < i, x.bookings[h].isSome) :
    x.freeBooking = some i := by
  have slots : ([0, 1, 2, 3, 4, 5, 6, 7] : List (Fin 8)) = List.finRange 8 := by decide
  rw [Port.freeBooking, slots, List.find?_eq_some_iff_getElem]
  refine ⟨by rw [hi]; rfl, i.val, by simp, by simp, fun h hh => ?_⟩
  have := below ⟨h, hh.trans i.isLt⟩ hh
  rw [List.getElem_finRange, Bool.not_eq_true', Option.isNone_eq_false_iff]
  exact this

theorem Port.freeBooking_eq_none {x : Port} (h : ∀ i : Fin 8, x.bookings[i].isSome) : x.freeBooking = none := by
  refine List.find?_eq_none.2 fun i _ => ?_
  rw [Bool.not_eq_true, Option.isNone_eq_false_iff]
  exact h i

/-- Bookings of one job alone are for the job kinds (R195). -/
theorem scope_fits {k : EventKind} {scope : Nat} (h : scope = 0 ∨ k.code ≤ 6) : ¬ (scope ≠ 0 ∧ k.isJobKind = false) := by
  simp only [EventKind.isJobKind, decide_eq_false_iff_not]
  omega

theorem slotOf_val (i : Fin 8) : slotOf i.val = some i := by simp [slotOf]

/-- Settles O29, by the cases of the two owners. -/
theorem bookingsComeAndGo : Obligations.BookingsComeAndGo := by
  intro s p tag
  refine ⟨fun event scope btag action k a hk ha held => ⟨fun h0 h6 => ?scope, fun ok => ⟨fun full => ?full, fun i free taken => ?books⟩⟩,
    fun slot held => ⟨?all, fun h7 h255 => ?range, ?none, ?drops⟩⟩
  case scope =>
    refine congrArg _ (requestNow_answers held ?_ rfl)
    rw [ownBookNotice, hk, ha]
    dsimp only
    rw [if_pos ⟨h0, by simpa [EventKind.isJobKind] using h6⟩]
    rfl
  case full =>
    refine congrArg _ (requestNow_answers held ?_ rfl)
    rw [ownBookNotice, hk, ha]
    dsimp only
    rw [if_neg (scope_fits ok), begin_port, Port.freeBooking_eq_none full]
    rfl
  case books =>
    refine congrArg _ (requestNow_answers held ?_ rfl)
    rw [ownBookNotice, hk, ha]
    dsimp only
    rw [if_neg (scope_fits ok), begin_port, Port.freeBooking_eq_some free taken]
    rfl
  case all =>
    rintro rfl
    exact congrArg _ (requestNow_answers held rfl rfl)
  case range =>
    refine congrArg _ (requestNow_answers held ?_ rfl)
    rw [ownDropBooking, if_neg h255, slotOf, dif_neg (by omega)]
    rfl
  case none =>
    rintro i rfl free
    refine congrArg _ (requestNow_answers held ?_ rfl)
    rw [ownDropBooking, if_neg (by omega), slotOf_val]
    dsimp only
    rw [begin_port, free]
    rfl
  case drops =>
    rintro i rfl booked
    refine congrArg _ (requestNow_answers held ?_ rfl)
    rw [ownDropBooking, if_neg (by omega), slotOf_val]
    dsimp only
    rw [begin_port, if_neg (by rw [Bool.not_eq_true, Option.isNone_eq_false_iff]; exact booked)]
    rfl

/-! ### Notices and attention -/

/-- Settles O30. -/
theorem noticesAreFetchedInOrder : Obligations.NoticesAreFetchedInOrder := by
  intro s p tag
  refine ⟨fun held => congrArg _ (requestNow_answers held rfl rfl), fun setting on hs held => ?_⟩
  have set : attentionOf (s.port p).attention setting = some on := by
    rcases hs with ⟨rfl, rfl⟩ | ⟨rfl, rfl⟩ | ⟨rfl, rfl⟩ <;> rfl
  refine congrArg _ (requestNow_answers held ?_ rfl)
  rw [ownSetAttention, begin_port, set]
  dsimp only
  rw [port_modPort_self]
  rfl

end Sys2Proof.Machine
end

section
/-! PROOFS. Delivery of events (R197, R198), the store's requests and saves (R203, R204), and block frames (R61 to R63). -/

namespace Sys2Proof.Machine
open State

/-! ### Delivery -/

theorem allPorts_nodup : allPorts.Nodup := by decide

theorem mem_allPorts (p : PortId) : p ∈ allPorts := by
  revert p
  decide

theorem State.port_forEach_of_not_mem {f : PortId → Port → Port} {p : PortId} (xs : List PortId) (s : State)
    (h : p ∉ xs) : (forEach xs (fun q => State.modPort q (f q)) s).port p = s.port p := by
  induction xs generalizing s with
  | nil => rfl
  | cons q xs ih =>
    rw [List.mem_cons, not_or] at h
    rw [forEach_cons, ih _ h.2, port_modPort_ne h.1]

/-- Each port that a repetition names once is changed once. -/
theorem State.port_forEach_modPort {f : PortId → Port → Port} {p : PortId} {xs : List PortId} (s : State) (nd : xs.Nodup)
    (hp : p ∈ xs) : (forEach xs (fun q => State.modPort q (f q)) s).port p = f p (s.port p) := by
  induction xs generalizing s with
  | nil => cases hp
  | cons q xs ih =>
    obtain ⟨hq, nd⟩ := List.nodup_cons.1 nd
    rw [forEach_cons]
    by_cases e : p = q
    · subst e
      rw [port_forEach_of_not_mem xs _ hq, port_modPort_self]
    · rw [ih _ nd ((List.mem_cons.1 hp).resolve_left e), port_modPort_ne e]

@[simp] theorem State.port_deliver (e : Event) (s : State) (p : PortId) : (s.deliver e).port p = (s.port p).deliver e :=
  port_forEach_modPort (f := fun _ => Port.deliver e) s allPorts_nodup (mem_allPorts p)

/-- The notice that an event makes for a booking (R197). -/
def Event.notice (e : Event) (b : Booking) : Notice :=
  { kind := e.kind, tag := b.tag, subject := e.subject, detail := e.detail }

/-- Notices join the queue while it has room; the first that finds none sets the overflow flag (R197). -/
theorem Port.foldl_join (xs : List Notice) (p : Port) :
    xs.foldl Port.join p = { p with
      notices := p.notices ++ xs.take (16 - p.notices.length)
      overflow := p.overflow || (!xs.isEmpty && decide (16 < p.notices.length + xs.length)) } := by
  induction xs generalizing p with
  | nil => simp
  | cons x xs ih =>
    rw [List.foldl_cons, ih]
    by_cases room : p.notices.length < 16
    · have taken : 16 - p.notices.length = (15 - p.notices.length) + 1 := by omega
      have joins : p.join x = { p with notices := p.notices ++ [x] } := if_pos room
      have left : 16 - (p.notices ++ [x]).length = 15 - p.notices.length := by simp
      rw [joins, taken, List.take_succ_cons]
      dsimp only
      rw [left, List.append_assoc]
      cases xs with
      | nil => simp; omega
      | cons y ys =>
        have count : p.notices.length + 1 + (ys.length + 1) = p.notices.length + (ys.length + 1 + 1) := by omega
        simp [count]
    · have full : 16 - p.notices.length = 0 := by omega
      have drops : p.join x = { p with overflow := true } := if_neg room
      rw [drops, full]
      simp
      omega

theorem Port.deliver_eq (e : Event) (p : Port) :
    p.deliver e = ((p.booked.filter (fun b => b.matchesEvent e)).map e.notice).foldl Port.join p := by
  rw [List.foldl_map]
  rfl

theorem Port.deliver_of_single {e : Event} {p : Port} {b : Booking} (h : p.booked = [b]) (hb : b.matchesEvent e = true) :
    p.deliver e = p.join (e.notice b) := by
  simp [Port.deliver_eq, h, hb]

theorem Port.deliver_of_none {e : Event} {p : Port} (h : ∀ b ∈ p.booked, b.matchesEvent e = false) : p.deliver e = p := by
  have none : p.booked.filter (fun b => b.matchesEvent e) = [] := List.filter_eq_nil_iff.2 fun b hb => by simp [h b hb]
  rw [Port.deliver_eq, none]
  rfl

theorem Booking.matchesEvent_job {b : Booking} {e : Event} {k : Nat} (h : e.subject = .job k) :
    b.matchesEvent e = true ↔ b.kind = e.kind ∧ (b.scope = none ∨ b.scope = some k) := by
  cases hs : b.scope with
  | none => simp [Booking.matchesEvent, hs]
  | some i =>
    simp only [Booking.matchesEvent, hs, h, Bool.and_eq_true, beq_iff_eq, Subject.job.injEq, Option.some.injEq,
      reduceCtorEq, false_or]
    rw [eq_comm (a := k)]

/-! ### NOTIFY-HOLD -/

namespace State
variable {s : State} {k : Nat} {c : RejectCause} {j : Job}

/-- The COPY-REJECTED event of a job (R14). -/
def copyRejected (k : Nat) (c : RejectCause) : Event := { kind := .copyRejected, subject := .job k, detail := .reject c }

theorem notifyHold_iff (h : s.job? k = some j) :
    s.notifyHold k (copyRejected k c) = true ↔
      ∃ (p : PortId) (b : Booking), b ∈ (s.port p).booked ∧ b.kind = .copyRejected ∧
        (b.scope = none ∨ b.scope = some k) ∧ b.action = .notifyHold ∧ (j.owner = p ∨ s.holds p .manage = true) := by
  have hb (b : Booking) := Booking.matchesEvent_job (b := b) (e := copyRejected k c) (k := k) rfl
  simp only [notifyHold, h, List.any_eq_true, Bool.and_eq_true, Bool.or_eq_true, Option.any_some, beq_iff_eq, hb]
  constructor
  · rintro ⟨p, -, may, b, mem, ⟨kind, scope⟩, action⟩
    exact ⟨p, b, mem, kind, scope, action, may⟩
  · rintro ⟨p, b, mem, kind, scope, action, may⟩
    exact ⟨p, mem_allPorts p, may, b, mem, ⟨kind, scope⟩, action⟩

theorem handClu_of_notify (h : s.notifyHold k (copyRejected k c) = true) :
    s.handClu k c = (s.deliver (copyRejected k c)).addHold .rejectHold k :=
  if_pos h

theorem handClu_of_silent (h : s.notifyHold k (copyRejected k c) = false) :
    s.handClu k c = s.deliver (copyRejected k c) :=
  if_neg (Bool.eq_false_iff.1 h)

theorem addHold_of_not_live {c : HoldCause} (h : s.job? k = some j) (hl : j.live = false) : s.addHold c k = s := by
  simp [addHold, h, hl]

@[simp] theorem job?_deliver (e : Event) (s : State) (k : Nat) : (s.deliver e).job? k = s.job? k := rfl

end State

/-- Settles O31: one fold of Port.join; REJECT-HOLD is an ordinary hold cause, added after the event is delivered. -/
theorem aFullNoticeQueueDropsTheNewest : Obligations.AFullNoticeQueueDropsTheNewest := by
  refine ⟨fun e s p b hb hm => ⟨fun room => ?joins, fun full => ?drops⟩, fun e s p => ?several,
    fun s k c j hj => ⟨fun told hl new => ⟨?held, fun q b hb kind scope room => ?reported⟩, fun quiet => ?quiet⟩⟩
  case joins =>
    rw [port_deliver, Port.deliver_of_single hb hm]
    exact if_pos room
  case drops =>
    rw [port_deliver, Port.deliver_of_single hb hm]
    exact if_neg (Nat.not_lt.2 full)
  case several =>
    intro xs
    rw [port_deliver, Port.deliver_eq]
    exact Port.foldl_join xs (s.port p)
  case held =>
    have found : (s.deliver (copyRejected k c)).job? k = some j := hj
    rw [handClu_of_notify ((notifyHold_iff hj).2 told), addHold_of_new (c := .rejectHold) found hl new, job?_deliver]
    exact job?_modJob_self (fun _ => rfl) found
  case reported =>
    have found : (s.deliver (copyRejected k c)).job? k = some j := hj
    rw [handClu_of_notify ((notifyHold_iff hj).2 told), addHold_of_new (c := .rejectHold) found hl new, port_deliver]
    have first : ((s.deliver (copyRejected k c)).port q) = s.port q := by
      rw [port_deliver, Port.deliver_of_none fun x hx => ?_]
      rw [hb, List.mem_singleton] at hx
      simp [Booking.matchesEvent, hx, kind, copyRejected]
    have second (u : State) (e : Event) (he : e = { kind := .jobHeld, subject := .job k, detail := .hold .rejectHold })
        (hu : u.port q = s.port q) : e.notice b ∈ ((u.port q).deliver e).notices := by
      subst he
      have joins (x : Notice) : (s.port q).join x = { s.port q with notices := (s.port q).notices ++ [x] } := if_pos room
      rw [hu, Port.deliver_of_single hb ((Booking.matchesEvent_job rfl).2 ⟨kind, scope⟩), joins]
      simp
    exact second _ _ rfl first
  case quiet =>
    have found : (s.deliver (copyRejected k c)).job? k = some j := hj
    cases hn : s.notifyHold k (copyRejected k c) with
    | false => rwa [handClu_of_silent hn]
    | true =>
      have told := (notifyHold_iff hj).1 hn
      rw [handClu_of_notify hn]
      rcases quiet with h | h | h
      · exact absurd told h
      · rwa [addHold_of_not_live found h]
      · rwa [addHold_of_has (c := .rejectHold) found h]

/-! ### Settings -/

/-- A write that keeps a value (R203). -/
def State.withSetting (x : Settings) (s : State) : State :=
  { s with sst.working := x, sst.unsaved := true, sst.save := s.sst.save.map (fun v => { v with dirty := true }) }

section
variable {s : State} {item value : Nat} {x : Settings}

theorem ownWriteSettings_of_none (h : s.sst.working.put item value = none) :
    ownWriteSettings item value s = refuse .badParameter s := by
  rw [ownWriteSettings, h]

theorem ownWriteSettings_of_busy (h : s.sst.working.put item value = some x) (hi : item = 1 ∨ item = 2)
    (busy : s.rgu.idle = false) : ownWriteSettings item value s = refuse .busy s := by
  rw [ownWriteSettings, h]
  exact if_pos ⟨hi, busy⟩

theorem ownWriteSettings_of_kept (h : s.sst.working.put item value = some x)
    (free : ¬ ((item = 1 ∨ item = 2) ∧ s.rgu.idle = false)) :
    ownWriteSettings item value s =
      (s.keepSetting item x, .good (u8 item ++ u32 (x.item item) ++ if item = 1 then u16 x.reserve else [])) := by
  rw [ownWriteSettings, h]
  exact if_neg free

theorem keepSetting_of_rights {q : PortId} (h : rightsPort item = some q) :
    s.keepSetting item x = (s.withSetting x).freeBookings q := by
  rw [keepSetting, h]
  rfl

theorem keepSetting_of_plain (h : rightsPort item = none) : s.keepSetting item x = s.withSetting x := by
  rw [keepSetting, h]
  rfl

end

theorem rightsPort_of_lt {item : Nat} (h : item < 13) : rightsPort item = none := by
  unfold rightsPort
  split
  all_goals first | omega | rfl

theorem rightsPort_add (q : PortId) : rightsPort (13 + q.val) = some q := by
  revert q
  decide

/-- Settles O32, by the ranges of the items. -/
theorem writingASetting : Obligations.WritingASetting := by
  intro s p tag item value held
  refine ⟨fun hx => ?refused, fun x hx => ⟨fun hi busy => ?busy, fun h3 h12 => ?plain, ?rights, ?budget, ?reserve⟩⟩
  case refused => exact congrArg Host.Outcome.next (requestNow_answers held (ownWriteSettings_of_none (s := s.begin) hx) rfl)
  case busy =>
    exact congrArg Host.Outcome.next (requestNow_answers held (ownWriteSettings_of_busy (s := s.begin) hx hi busy) rfl)
  case plain =>
    refine congrArg Host.Outcome.next (requestNow_answers held ?_ rfl)
    rw [ownWriteSettings_of_kept (s := s.begin) hx (by omega), keepSetting_of_plain (rightsPort_of_lt (by omega)),
      if_neg (by omega), List.append_nil]
    rfl
  case rights =>
    rintro q rfl
    refine congrArg Host.Outcome.next (requestNow_answers held ?_ rfl)
    rw [ownWriteSettings_of_kept (s := s.begin) hx (by omega), keepSetting_of_rights (rightsPort_add q), if_neg (by omega),
      List.append_nil]
    rfl
  case budget =>
    rintro rfl idle
    have free : ¬ ((1 = 1 ∨ 1 = 2) ∧ s.begin.rgu.idle = false) := fun h => by simp [idle] at h
    refine congrArg Host.Outcome.next (requestNow_answers held (ownWriteSettings_of_kept (s := s.begin) hx free) rfl)
  case reserve =>
    rintro rfl idle
    have free : ¬ ((2 = 1 ∨ 2 = 2) ∧ s.begin.rgu.idle = false) := fun h => by simp [idle] at h
    refine congrArg Host.Outcome.next (requestNow_answers held (ownWriteSettings_of_kept (s := s.begin) hx free) rfl)

/-! ### Saves -/

section
variable {s : State} {v : Save} {read : Option Bool} {c : Instr}

/-- The port that waits for a save is answered at its end (R204). -/
theorem saveEnds_of_waiting (h : s.sst.save = some v) (waits : (s.port v.port).waiting = true) :
    s.saveEnds read =
      ({ s with sst := s.sst.endSave v read } : State).answer v.port 29 (s.port v.port).frameTag
        (.good (if read = some true then savedBytes v.number else saveFailedBytes)) := by
  rw [saveEnds, h]
  exact if_pos waits

/-- The end of a save makes nothing due. -/
theorem exec_of_saveEnds (he : exec c s = .next (s.begin.saveEnds read).settle) (h : s.sst.save = some v)
    (waits : (s.port v.port).waiting = true) :
    exec c s = .next (({ s.begin with sst := s.sst.endSave v read } : State).answer v.port 29 (s.port v.port).frameTag
      (.good (if read = some true then savedBytes v.number else saveFailedBytes))) := by
  rw [he, saveEnds_of_waiting (s := s.begin) h waits]
  exact congrArg Host.Outcome.next (settle_of_due_none rfl)

end

/-- Settles O33: a save writes the copy that the last one did not. -/
theorem aSaveEndsWithItsAnswer : Obligations.ASaveEndsWithItsAnswer := by
  intro s
  refine ⟨fun p tag held => ⟨fun busy => ?busy, fun free => ?begins⟩, fun v hv last waits => ?copyA,
    fun v hv last waits => ?copyB⟩
  case busy =>
    refine congrArg Host.Outcome.next ((request_of_holds held).trans ?_)
    rw [ownSaveSettings, begin_sst, if_pos busy]
    exact settle_of_due_none rfl
  case begins =>
    refine congrArg Host.Outcome.next ((request_of_holds held).trans ?_)
    rw [ownSaveSettings, begin_sst, if_neg (by simp [free])]
    exact settle_of_due_none rfl
  case copyA =>
    refine ⟨?_, ?_, ?_⟩
    · rw [exec_of_saveEnds (read := some true) rfl hv waits, Sst.endSave, last]
      rfl
    · rw [exec_of_saveEnds (read := some false) rfl hv waits, Sst.endSave, last]
      rfl
    · rw [exec_of_saveEnds (read := none) rfl hv waits, Sst.endSave, last]
      rfl
  case copyB =>
    refine ⟨?_, ?_, ?_⟩
    · rw [exec_of_saveEnds (read := some true) rfl hv waits, Sst.endSave, last]
      rfl
    · rw [exec_of_saveEnds (read := some false) rfl hv waits, Sst.endSave, last]
      rfl
    · rw [exec_of_saveEnds (read := none) rfl hv waits, Sst.endSave, last]
      rfl

/-! ### Block frames -/

section
variable {s : State} {words image index : Nat} {data : BlockData} {x : Image}

theorem takeFrame_of_stray (h : s.frameCase words image index = .stray) :
    s.takeFrame words image index data = s.strayFrame := by
  rw [takeFrame, h]

theorem takeFrame_of_duplicate (h : s.frameCase words image index = .duplicate) :
    s.takeFrame words image index data = s := by
  rw [takeFrame, h]

theorem takeFrame_of_gap {expected : Nat} (h : s.frameCase words image index = .gap expected) :
    s.takeFrame words image index data = s.frameGap image expected := by
  rw [takeFrame, h]

theorem takeFrame_of_accepted (h : s.frameCase words image index = .accepted) :
    s.takeFrame words image index data =
      ((s.acceptBlock { image := image, index := index, data := data }).intakeIssue).smcServe := by
  rw [takeFrame, h]

theorem frameCase_of_named (hw : 1027 ≤ words) (room : s.ipt.fifo.length < 32) (hx : s.image? image = some x) :
    s.frameCase words image index = x.frameCase index := by
  have whole : ¬ words < Config.intakeFrameWords := Nat.not_lt.2 hw
  have free : ¬ Config.intakeBlocks ≤ s.ipt.fifo.length := Nat.not_le.2 room
  rw [frameCase, if_neg whole, if_neg free, hx]

theorem frameCase_of_unnamed (h : words < 1027 ∨ 32 ≤ s.ipt.fifo.length ∨ s.image? image = none) :
    s.frameCase words image index = .stray := by
  have short (hw : words < 1027) : words < Config.intakeFrameWords := hw
  have full (hf : 32 ≤ s.ipt.fifo.length) : Config.intakeBlocks ≤ s.ipt.fifo.length := hf
  unfold frameCase
  rcases h with h | h | h
  · rw [if_pos (short h)]
  · split
    · rfl
    · rw [if_pos (full h)]
  · split
    · rfl
    · split
      · rfl
      · rw [h]

end

theorem State.intakeIssue_due (s : State) : s.intakeIssue.due = s.due := by
  unfold intakeIssue
  split
  · rfl
  · split <;> rfl

/-- An event that makes nothing due: the step ends where the event does. -/
theorem exec_event {s t u : State} {c : Instr} (he : exec c s = .next u.settle) (h : u = t) (due : t.due = {}) :
    exec c s = .next t := by
  rw [he, h, settle_of_due_none due]

/-- Settles O34, by the cases of R61 in order. -/
theorem blockFramesAreAcceptedInOrder : Obligations.BlockFramesAreAcceptedInOrder := by
  intro s words image index data
  refine ⟨fun h => ?unnamed, fun x hw room hx => ?named⟩
  case unnamed => exact exec_event rfl (takeFrame_of_stray (frameCase_of_unnamed (s := s.begin) h)) rfl
  case named =>
    have named : s.begin.frameCase words image index = x.frameCase index :=
      frameCase_of_named (s := s.begin) hw room hx
    refine ⟨fun h => ?stray, fun filling intake inside => ⟨fun below => ?duplicate, fun above => ?gap, fun next => ?accepted⟩⟩
    case stray =>
      have stray : x.frameCase index = .stray := by
        unfold Image.frameCase
        split
        · rfl
        · rw [if_pos (by tauto)]
      exact exec_event rfl (takeFrame_of_stray (named.trans stray)) rfl
    all_goals
      have inOrder : x.frameCase index =
          if index < x.accepted then .duplicate else if x.accepted < index then .gap x.accepted else .accepted := by
        rw [Image.frameCase, if_neg (by simp [filling, intake]), if_neg (Nat.not_le.2 inside)]
    case duplicate => exact exec_event rfl (takeFrame_of_duplicate (named.trans (inOrder.trans (if_pos below)))) rfl
    case gap =>
      rw [if_neg (by omega), if_pos above] at inOrder
      exact exec_event rfl (takeFrame_of_gap (named.trans inOrder)) rfl
    case accepted =>
      rw [if_neg (by omega), if_neg (by omega)] at inOrder
      exact exec_event rfl (takeFrame_of_accepted (named.trans inOrder)) (intakeIssue_due _)

end Sys2Proof.Machine
end

section
/-! PROOFS. The door (O51), ARRIVED (O52), and arm faults with their resumption (O56). -/

namespace Sys2Proof.Machine

open State

/-! ### The door and the faults of the arm -/

section
variable {s : State}

theorem stopArm_of_halts (h : s.tsq.arm.state.halts = true) :
    s.stopArm = ((s.toArm .halt).motionEnds).armTo .stopped :=
  if_pos h

theorem stopArm_of_stands (h : s.tsq.arm.state.halts = false) : s.stopArm = s := by
  rw [stopArm, if_neg (by simp [h])]

theorem ArmState.halts_eq (x : ArmState) : x.halts = decide (x ≠ .stopped ∧ x ≠ .fault) := by
  cases x <;> rfl

/-- A motion of the current move. -/
theorem sendMotion_of_move {m : Motion} {v : Move} (h : s.tsq.arm.move = some v) (work : m ≠ .home) :
    s.sendMotion m =
      { s with
        sent := s.sent ++ [.arm m.msg], tsq.arm.motion := some m, tsq.arm.lastCmd := some m.cmd
        tsq.arm.timer := some Config.armMotionMs, tsq.arm.move := some { v with cmd := some m.cmd } } := by
  rw [sendMotion]
  dsimp only
  rw [if_neg work]
  simp [modMove, toArm, emit, h]

end

/-- Settles O51: only an arm at work is halted, and only a STOPPED one homes. -/
theorem theDoorStopsTheArm : Obligations.TheDoorStopsTheArm := by
  intro s
  refine ⟨fun shut live faultless => ?halted, fun shut still => ?kept, fun opened stopped => ?homes,
    fun opened working => ?closes⟩
  case halted =>
    have halts : s.tsq.arm.state.halts = true := by simp [ArmState.halts_eq, live, faultless]
    refine exec_event rfl ((if_pos shut).trans ?_) rfl
    exact congrArg (State.deliver _) (stopArm_of_halts halts)
  case kept =>
    have stands : s.tsq.arm.state.halts = false := by rcases still with h | h <;> simp [ArmState.halts_eq, h]
    refine exec_event rfl ((if_pos shut).trans ?_) rfl
    exact congrArg (State.deliver _) (stopArm_of_stands stands)
  case homes => exact exec_event rfl ((if_pos opened).trans (if_pos stopped)) rfl
  case closes => exact exec_event rfl ((if_pos opened).trans (if_neg working)) rfl

/-- Settles O56: a fault is taken unless one stands, and resumed only with the door closed. -/
theorem armFaultsAreReportedAndResumed : Obligations.ArmFaultsAreReportedAndResumed := by
  refine ⟨fun s p tag held => ⟨fun h => ?refused, fun fault shut => ?resumed⟩,
    fun s => ⟨fun fault => ?discarded, fun faultless => ?motionFault, fun runs => ?timeout⟩⟩
  case refused => exact congrArg Host.Outcome.next (requestNow_answers held (if_pos h) rfl)
  case resumed =>
    have free : ¬ (s.tsq.arm.state ≠ .fault ∨ s.tsq.door = .opened) := by simp [fault, shut]
    exact congrArg Host.Outcome.next (requestNow_answers held (if_neg free) rfl)
  case discarded => exact exec_event rfl (if_pos fault) rfl
  case motionFault => exact exec_event rfl (if_neg faultless) rfl
  case timeout => exact exec_event rfl (if_pos runs) rfl

/-! ### ARRIVED -/

section
variable {s : State} {m : Move} {p : Position}

theorem armArrived_toSource (h : s.tsq.arm.state = .toSource) (hm : s.tsq.arm.move = some m) :
    s.armArrived p = ({ s.motionEnds with tsq.arm.position := p } : State).tryGrip := by
  have moving : s.motionEnds.tsq.arm.move = some m := hm
  have going : s.motionEnds.tsq.arm.state = .toSource := h
  simp only [armArrived, going, moving]
  rfl

theorem armArrived_toDest (h : s.tsq.arm.state = .toDest) :
    s.armArrived p = ({ s.motionEnds with tsq.arm.position := p } : State).tryRelease := by
  have going : s.motionEnds.tsq.arm.state = .toDest := h
  simp only [armArrived, going]

/-- The arm stands at a spindle it takes a disc from. -/
theorem tryGrip_of_spindle {x : Spindle} (hm : s.tsq.arm.move = some m)
    (still : s.tsq.arm.state = .toSource ∧ s.tsq.arm.motion = none ∧ some s.tsq.arm.position = m.entry.source.position)
    (src : m.entry.source = .spindle x) (back : m.returning = false) (gone : s.masterGone m.entry = false) :
    s.tryGrip = (s.armTo .picking).sendMotion .grip := by
  rw [tryGrip, hm]
  dsimp only
  rw [if_pos still, if_neg (by simp [back]), if_neg (by simp [gone]), src]

/-- The arm stands at its destination with its place reserved and no reason to turn to REJ. -/
theorem tryRelease_of_stands (hm : s.tsq.arm.move = some m)
    (still : s.tsq.arm.state = .toDest ∧ s.tsq.arm.motion = none ∧ s.tsq.arm.position = m.entry.dest.position
      ∧ m.reserved ≠ .none) (keeps : s.mustReroute m = false) (ready : ∀ n, m.entry.dest = .bay n → s.tsq.arm.trayReady = true) :
    s.tryRelease = (s.armTo .placing).sendMotion .release := by
  simp only [tryRelease, hm, if_pos still, keeps, Bool.false_eq_true, if_false]
  split
  next n hn => exact if_pos (ready n hn)
  next => rfl

/-- The arm waits at a bay whose tray is not ready. -/
theorem tryRelease_of_waits {n : BayId} (hm : s.tsq.arm.move = some m) (dest : m.entry.dest = .bay n)
    (keeps : s.mustReroute m = false) (waits : s.tsq.arm.trayReady = false) : s.tryRelease = s := by
  simp only [tryRelease, hm, keeps, dest, waits, Bool.false_eq_true, if_false, ite_self]

end

/-- Settles O52, by the state of the arm. -/
theorem theArmArrives : Obligations.TheArmArrives := by
  intro s
  refine ⟨fun idle => ?discarded, fun p m hgo hm => ⟨fun x going src at_ back stays => ?grips,
    fun going at_ reserved keeps ready => ?releases, fun n going dest at_ keeps waits => ?waits⟩⟩
  case discarded =>
    refine exec_event rfl ?_ rfl
    split
    next p h => exact absurd h (idle p)
    next => rfl
  all_goals
    have arrives : (match s.begin.tsq.arm.motion with
        | some (.goto q) => s.begin.armArrived q
        | _ => s.begin) = s.begin.armArrived p := by rw [begin_tsq, hgo]
  case grips =>
    refine exec_event rfl (arrives.trans ((armArrived_toSource (s := s.begin) going hm).trans
      ((tryGrip_of_spindle (s := { s.begin.motionEnds with tsq.arm.position := p }) hm ⟨going, rfl, at_.symm⟩ src back stays).trans ?_))) rfl
    exact sendMotion_of_move (m := .grip) hm (by decide)
  case releases =>
    refine exec_event rfl (arrives.trans ((armArrived_toDest (s := s.begin) going).trans
      ((tryRelease_of_stands (s := { s.begin.motionEnds with tsq.arm.position := p }) hm ⟨going, rfl, at_.symm, reserved⟩ keeps ready).trans ?_))) rfl
    exact sendMotion_of_move (m := .release) hm (by decide)
  case waits =>
    exact exec_event rfl (arrives.trans ((armArrived_toDest (s := s.begin) going).trans
      (tryRelease_of_waits hm dest keeps waits))) rfl

end Sys2Proof.Machine
end

section
/-! PROOFS. The burn: WANT (O43), PAUSED and RESUMED (O44), and BURN-DONE (O45). -/

namespace Sys2Proof.Machine

open State

/-! ### Rules for a bay -/

namespace State
variable {s : State} {n : BayId}

theorem modBay_congr {f g : Bay → Bay} (h : f (s.bay n) = g (s.bay n)) : s.modBay n f = s.modBay n g := by
  have same : f s.bays[n] = g s.bays[n] := h
  unfold modBay
  rw [same]

theorem modBay_eq_self {f : Bay → Bay} (h : f (s.bay n) = s.bay n) : s.modBay n f = s := by
  have same : f s.bays[n] = s.bays[n] := h
  unfold modBay
  rw [same]
  simp

/-- Send messages in turn. -/
def emits (ms : List OutMsg) (s : State) : State := { s with sent := s.sent ++ ms }

@[simp] theorem bay_emits (ms : List OutMsg) (s : State) : (s.emits ms).bay n = s.bay n := rfl

theorem emits_modBay (ms : List OutMsg) (f : Bay → Bay) : (s.modBay n f).emits ms = (s.emits ms).modBay n f := rfl

theorem emits_emits (ms ms' : List OutMsg) : (s.emits ms).emits ms' = s.emits (ms ++ ms') := by
  simp [emits]

theorem toBay_emits (ms : List OutMsg) (m : BayMsg) : (s.emits ms).toBay n m = s.emits (ms ++ [.bay n m]) :=
  emits_emits ..

theorem forEach_toBay {α : Type} (f : α → BayMsg) (xs : List α) (s : State) :
    forEach xs (fun x => toBay n (f x)) s = s.emits (xs.map (fun x => .bay n (f x))) := by
  induction xs generalizing s with
  | nil => simp [forEach_nil, emits]
  | cons x xs ih =>
    rw [forEach_cons, ih]
    exact emits_emits [_] _

end State

/-! ### Sending blocks -/

section
variable {s : State} {n : BayId} {k : Nat}

/-- The messages that send blocks to a bay. -/
def blockMsgs (n : BayId) (xs : List FeedBlock) : List OutMsg := xs.map (fun x => .bay n (.block x.data))

/-- A bay that has sent the first blocks of its FIFO. -/
def Bay.spend (k : Nat) (b : Bay) : Bay :=
  { b with fifo := b.fifo.drop k, wantCredit := b.wantCredit - k, sentBlocks := b.sentBlocks + k }

/-- A bay whose last block has been sent. -/
def Bay.finish (b : Bay) : Bay :=
  { b with state := .closing, refillHold := false, timers.starve := none, timers.close := some 240000 }

/-- The blocks a WRITING bay sends while its want credit lasts. -/
theorem sendBlocks_of_writing (h : (s.bay n).state = .writing) (free : (s.bay n).refillHold = false)
    (hk : min (s.bay n).wantCredit (s.bay n).fifo.length = k) :
    s.sendBlocks n = ((s.emits (blockMsgs n ((s.bay n).fifo.take k))).modBay n (Bay.spend k)).finishBurn n := by
  rw [sendBlocks]
  dsimp only
  rw [if_pos ⟨h, free⟩, hk, forEach_toBay]
  rfl

theorem sendBlocks_of_held (h : (s.bay n).refillHold = true) : s.sendBlocks n = s := by
  rw [sendBlocks]
  dsimp only
  rw [if_neg (by simp [h])]

theorem finishBurn_of_short (h : (s.bay n).sentBlocks < s.lengthAt n) : s.finishBurn n = s := by
  rw [finishBurn, if_neg (fun ⟨_, le⟩ => absurd h (Nat.not_lt.2 le))]

theorem finishBurn_of_whole (w : (s.bay n).state = .writing) (h : s.lengthAt n ≤ (s.bay n).sentBlocks) :
    s.finishBurn n = (s.toBay n .burnFinish).modBay n Bay.finish := by
  rw [finishBurn, if_pos ⟨w, h⟩]
  rfl

/-- What a WRITING bay sends when that is not the last block. -/
theorem sendBlocks_of_short (h : (s.bay n).state = .writing) (free : (s.bay n).refillHold = false)
    (hk : min (s.bay n).wantCredit (s.bay n).fifo.length = k) (short : (s.bay n).sentBlocks + k < s.lengthAt n) :
    s.sendBlocks n = (s.emits (blockMsgs n ((s.bay n).fifo.take k))).modBay n (Bay.spend k) := by
  rw [sendBlocks_of_writing h free hk]
  refine finishBurn_of_short ?_
  rw [bay_modBay_self]
  exact short

/-- What a WRITING bay sends when the last block is among it. -/
theorem sendBlocks_of_whole (h : (s.bay n).state = .writing) (free : (s.bay n).refillHold = false)
    (hk : min (s.bay n).wantCredit (s.bay n).fifo.length = k) (whole : s.lengthAt n ≤ (s.bay n).sentBlocks + k) :
    s.sendBlocks n =
      (s.emits (blockMsgs n ((s.bay n).fifo.take k) ++ [.bay n .burnFinish])).modBay n (fun b => (b.spend k).finish) := by
  rw [sendBlocks_of_writing h free hk, finishBurn_of_whole]
  · rw [← emits_emits]
    exact State.modBay_modBay n (Bay.spend k) Bay.finish (emits [.bay n .burnFinish] (emits _ s))
  · rw [bay_modBay_self]
    exact h
  · rw [bay_modBay_self]
    exact whole

@[simp] theorem lengthAt_modBay (m : BayId) (f : Bay → Bay) : (s.modBay m f).lengthAt n = s.lengthAt n := rfl

theorem addWant_eq : s.addWant n k =
    s.modBay n (fun b => { b with wantCredit := min 4194304 ((s.bay n).wantCredit + k) }) :=
  modBay_congr rfl

end

/-- Settles O43, by the state of the bay. -/
theorem wantSendsBlocks : Obligations.WantSendsBlocks := by
  intro s n k b credit q
  have writing_run (hw : b.state = .writing) :
      exec (.want n k) s = .next (((s.begin.addWant n k).sendBlocks n).settle) :=
    congrArg (fun u : State => Host.Outcome.next u.settle) (by
      have : (s.begin.bay n).state = .writing := hw
      simp only [this])
  have raised : (s.begin.addWant n k).bay n = { b with wantCredit := credit } := by
    rw [addWant_eq, bay_modBay_self]
    rfl
  refine ⟨fun hp hw => ?discarded, fun h => ?raised, fun hw free short => ?sends, fun hw free whole => ?finishes⟩
  case discarded =>
    refine exec_event rfl ?_ rfl
    split
    next h => exact absurd h hp
    next h => exact absurd h hw
    next => rfl
  case raised =>
    rcases h with hp | ⟨hw, held⟩
    · refine exec_event rfl ?_ rfl
      have : (s.begin.bay n).state = .prefill := hp
      simp only [this]
      exact addWant_eq
    · refine exec_event (writing_run hw) ?_ rfl
      rw [sendBlocks_of_held (by rw [raised]; exact held)]
      exact addWant_eq
  case sends =>
    refine exec_event (writing_run hw) ?_ rfl
    rw [sendBlocks_of_short (k := q) (by rw [raised]; exact hw) (by rw [raised]; exact free) (by rw [raised])
      (by rw [raised]; exact short), raised, addWant_eq, emits_modBay, State.modBay_modBay]
    rfl
  case finishes =>
    refine exec_event (writing_run hw) ?_ rfl
    rw [sendBlocks_of_whole (k := q) (by rw [raised]; exact hw) (by rw [raised]; exact free) (by rw [raised])
      (by rw [raised]; exact whole), raised, addWant_eq, emits_modBay, State.modBay_modBay]
    rfl

/-! ### Pauses -/

section
variable {s : State} {n : BayId} {d : DiscId} {r : Disc}

theorem countPause_of_disc (hd : s.discAt (.bay n) = some d) :
    s.countPause n = s.modDisc d (fun r => { r with pauses := min 255 (r.pauses + 1) }) := by
  rw [countPause, hd]
  rfl

theorem State.discAt_congr {t : State} {l : Location}
    (h : ∀ c, (t.disc c).map Disc.location = (s.disc c).map Disc.location) : t.discAt l = s.discAt l := by
  unfold discAt
  congr 1
  funext c
  have := h c
  cases ht : t.disc c <;> cases hs : s.disc c <;> simp_all

/-- A change of a record that leaves its place leaves every disc in its place. -/
theorem State.discAt_modDisc {f : Disc → Disc} {l : Location} (hf : ∀ r, (f r).location = r.location) :
    (s.modDisc d f).discAt l = s.discAt l := by
  refine discAt_congr fun c => ?_
  by_cases h : c = d
  · subst h
    rw [disc_modDisc_self, Option.map_map]
    exact congrArg (fun g => (s.disc c).map g) (funext hf)
  · rw [disc_modDisc_ne h]

/-- A change of a record that leaves its place and its job leaves the length of the disc at a bay. -/
theorem lengthAt_modDisc {f : Disc → Disc} (hf : ∀ r, (f r).location = r.location ∧ (f r).job = r.job) :
    (s.modDisc d f).lengthAt n = s.lengthAt n := by
  rw [lengthAt, lengthAt, recAt, recAt, discAt_modDisc fun r => (hf r).1]
  cases s.discAt (.bay n) with
  | none => rfl
  | some c =>
    by_cases h : c = d
    · subst h
      rw [Option.bind_some, Option.bind_some, disc_modDisc_self, Option.map_map]
      refine congrArg (fun g => ((s.disc c).map g).getD 0) (funext fun r => ?_)
      show copyLength _ (f r) = copyLength s r
      rw [copyLength, copyLength, jobOf, jobOf, (hf r).2]
      rfl
    · rw [Option.bind_some, Option.bind_some, disc_modDisc_ne h]
      rfl

theorem resumeAt_modDisc {f : Disc → Disc} (hf : ∀ r, (f r).location = r.location ∧ (f r).job = r.job) :
    (s.modDisc d f).resumeAt n = s.resumeAt n := by
  rw [resumeAt, resumeAt, lengthAt_modDisc hf]
  rfl

end

/-- Settles O44: the pause is counted in the record, and the record's count is compared. -/
theorem pausesAreCounted : Obligations.PausesAreCounted := by
  intro s n
  refine ⟨fun h => ⟨exec_event rfl (if_neg h) rfl, exec_event rfl (if_neg h) rfl⟩,
    fun hw => ⟨exec_event rfl (if_pos hw) rfl, ?_⟩⟩
  intro d r hd hr u
  have counted : s.begin.countPause n = u := countPause_of_disc (s := s.begin) hd
  have at_ : u.discAt (.bay n) = some d :=
    (discAt_modDisc (s := s.begin) (f := fun r => { r with pauses := min 255 (r.pauses + 1) }) (fun _ => rfl)).trans hd
  have pauses : u.pausesAt n = min 255 (r.pauses + 1) := by
    have kept : u.disc d = some { r with pauses := min 255 (r.pauses + 1) } := by
      rw [disc_modDisc_self]
      exact congrArg (Option.map _) hr
    rw [pausesAt, recAt, at_]
    simp [kept]
  have runs : exec (.paused n) s = .next
      ((if s.sst.working.pauseLimit < min 255 (r.pauses + 1) then u.bayReject n .starved true
        else u.waitForData n).settle) := by
    refine congrArg (fun t : State => Host.Outcome.next t.settle) ((if_pos hw).trans ?_)
    rw [drivePaused, counted, pauses]
    rfl
  have resume : u.resumeAt n = s.resumeAt n :=
    resumeAt_modDisc (s := s.begin) (fun _ => ⟨rfl, rfl⟩)
  have waits : u.waitForData n = u.modBay n (fun b =>
      { b with
        timers.starve := if b.timers.starve.isSome then b.timers.starve else some s.sst.working.starveMs
        refillHold := b.refillHold || decide (b.fifo.length < s.resumeAt n) }) := by
    rw [waitForData, resume]
    rfl
  refine ⟨fun within => ?_, fun beyond => ?_⟩
  · exact exec_event runs ((if_neg (Nat.not_lt.2 within)).trans waits) rfl
  · rw [runs, if_pos beyond, bayReject, at_]

/-! ### BURN-DONE -/

/-- Settles O45: the disc goes where its next step is, but for a verify of a lost image. -/
theorem burnDoneLeadsToTheNextStep : Obligations.BurnDoneLeadsToTheNextStep := by
  intro s n
  refine ⟨fun h => exec_event rfl (if_neg h) rfl, ?_⟩
  intro d r hc hd hr u
  have kept : u.disc d = some { r with steps.write := true } := by
    rw [disc_modDisc_self]
    exact congrArg (Option.map _) hr
  have runs : exec (.burnDone n) s = .next
      ((if (s.bay n).imageLostMark = true ∧ u.nextStepOf d = some .verify then (u.writeVerdict d (some .imageLost)).hold n
        else u.stepDone n d).settle) := by
    refine congrArg (fun t : State => Host.Outcome.next t.settle) ((if_pos hc).trans ?_)
    have at_ : (s.begin.modBay n (fun b => { b with imageLostMark := false, timers.close := none })).discAt (.bay n) =
      some d := hd
    rw [burnClosed]
    dsimp only
    rw [at_]
    rfl
  have next : u.nextStepOf d =
      (u.jobOf { r with steps.write := true }).bind (fun j => nextStep j { r with steps.write := true }) := by
    rw [nextStepOf, kept]
    rfl
  have done : u.stepDone n d = match u.nextStepOf d with
      | some .verify => u.towardGrant n .verify
      | some _ => u.hold n
      | none => (u.verdict d none).hold n := by
    rw [stepDone, kept, next] <;> rfl
  refine ⟨fun hn mark => ?_, fun hn mark => ?_, fun hn => ?_, fun hn => ?_⟩
  · rw [runs, if_pos ⟨mark, hn⟩]
  · rw [runs, if_neg (by simp [mark]), done, hn]
  · rw [runs, if_neg (fun h => absurd (hn.symm.trans h.2) (by decide)), done, hn]
  · rw [runs, if_neg (fun h => absurd (hn.symm.trans h.2) (by decide)), done, hn]

end Sys2Proof.Machine
end

section
/-! PROOFS. What a scan of the wait queue leaves as it is (R80, R81), and with it the closing of a stream, a release, a
withdrawal and a request. -/

namespace Sys2Proof.Machine

/-- A bay without its speed exchange: what a grant handed to it leaves as it is (R112). -/
def Bay.exceptSpeed (b : Bay) : Bay := { b with speedPending := false, timers.speed := none }

/-! ### A scan -/

namespace State

theorem scanWalk_frame (ws : List WaitEntry) (s : State) : ∃ r, (scanWalk ws s).1 = { s with rgu := r } := by
  induction ws generalizing s with
  | nil => exact ⟨s.rgu, rfl⟩
  | cons w ws ih =>
    unfold scanWalk
    split
    next m hm => exact ih (s.setGrant w.bay (some (w.grant m)))
    next =>
      split
      · exact ⟨s.rgu, rfl⟩
      · exact ih s

/-- What the grants of a scan do to the bays: each has its SPEED, and waits for the report. -/
theorem handGrants_frame (marks : List (WaitEntry × ScanMark)) (s : State) :
    ∃ ms bs, handGrants marks s = { s with sent := s.sent ++ ms, bays := bs } := by
  induction marks generalizing s with
  | nil => exact ⟨[], s.bays, by simp [handGrants]⟩
  | cons x marks ih =>
    obtain ⟨w, mark⟩ := x
    cases mark with
    | granted m =>
      obtain ⟨ms, bs, h⟩ := ih (s.handGrant w.bay w.kind m)
      refine ⟨.bay w.bay (.speed m w.kind) :: ms, bs, h.trans ?_⟩
      simp [handGrant, toBay, emit, modBay]
    | skipped => exact ih s
    | untested => exact ih s

/-- A scan changes the ledger and the wait queue, sends messages and changes bays. -/
theorem scan_frame (s : State) : ∃ r ms bs, s.scan = { s with rgu := r, sent := s.sent ++ ms, bays := bs } := by
  obtain ⟨r, hr⟩ := scanWalk_frame s.rgu.queue s
  obtain ⟨ms, bs, h⟩ := handGrants_frame (scanWalk s.rgu.queue s).2
    { (scanWalk s.rgu.queue s).1 with rgu.queue := afterScan (scanWalk s.rgu.queue s).2 }
  refine ⟨{ r with queue := afterScan (scanWalk s.rgu.queue s).2 }, ms, bs, h.trans ?_⟩
  rw [hr]

section
variable {s : State} {n : BayId}

theorem scanWalk_marks_of_mem (ws : List WaitEntry) (s : State) (x : WaitEntry × ScanMark) (h : x ∈ (scanWalk ws s).2) :
    x.1 ∈ ws := by
  induction ws generalizing s with
  | nil => simp [scanWalk] at h
  | cons w ws ih =>
    unfold scanWalk at h
    split at h
    next m hm =>
      rcases List.mem_cons.1 h with rfl | h
      · exact List.mem_cons_self
      · exact List.mem_cons_of_mem _ (ih _ h)
    next =>
      split at h
      · rcases List.mem_cons.1 h with rfl | h
        · exact List.mem_cons_self
        · obtain ⟨v, hv, rfl⟩ := List.mem_map.1 h
          exact List.mem_cons_of_mem _ hv
      · rcases List.mem_cons.1 h with rfl | h
        · exact List.mem_cons_self
        · exact List.mem_cons_of_mem _ (ih _ h)

/-- A bay's grant is written only for an entry of that bay. -/
theorem scanWalk_grant (ws : List WaitEntry) (s : State) (h : ∀ w ∈ ws, w.bay ≠ n) :
    (scanWalk ws s).1.grant n = s.grant n := by
  induction ws generalizing s with
  | nil => rfl
  | cons w ws ih =>
    have ne : n ≠ w.bay := fun e => h w List.mem_cons_self e.symm
    have rest : ∀ v ∈ ws, v.bay ≠ n := fun v hv => h v (List.mem_cons_of_mem _ hv)
    unfold scanWalk
    split
    next m hm => exact (ih _ rest).trans (grant_setGrant_ne ne _ _)
    next =>
      split
      · rfl
      · exact ih s rest

/-- A bay is changed only by a grant of its own. -/
theorem handGrants_bay (marks : List (WaitEntry × ScanMark)) (s : State) (h : ∀ x ∈ marks, x.1.bay ≠ n) :
    (handGrants marks s).bay n = s.bay n := by
  induction marks generalizing s with
  | nil => rfl
  | cons x marks ih =>
    have rest : ∀ y ∈ marks, y.1.bay ≠ n := fun y hy => h y (List.mem_cons_of_mem _ hy)
    have ne : n ≠ x.1.bay := fun e => h x List.mem_cons_self e.symm
    obtain ⟨w, mark⟩ := x
    cases mark with
    | granted m => exact (ih _ rest).trans (bay_modBay_ne ne _ _)
    | skipped => exact ih s rest
    | untested => exact ih s rest

/-- What a grant handed to it leaves of a bay. -/
theorem handGrants_exceptSpeed (marks : List (WaitEntry × ScanMark)) (s : State) :
    ((handGrants marks s).bay n).exceptSpeed = (s.bay n).exceptSpeed := by
  induction marks generalizing s with
  | nil => rfl
  | cons x marks ih =>
    obtain ⟨w, mark⟩ := x
    cases mark with
    | granted m =>
      refine (ih (s.handGrant w.bay w.kind m)).trans ?_
      by_cases e : n = w.bay
      · subst e
        rw [handGrant, bay_modBay_self]
        rfl
      · exact congrArg Bay.exceptSpeed (bay_modBay_ne e _ _)
    | skipped => exact ih s
    | untested => exact ih s

theorem handGrants_sent (marks : List (WaitEntry × ScanMark)) (s : State) :
    ∀ m ∈ (handGrants marks s).sent, m ∈ s.sent ∨ ∃ n k x, m = .bay n (.speed k x) := by
  induction marks generalizing s with
  | nil => exact fun m hm => .inl hm
  | cons x marks ih =>
    obtain ⟨w, mark⟩ := x
    cases mark with
    | granted k =>
      intro m hm
      rcases ih (s.handGrant w.bay w.kind k) m hm with h | h
      · rcases List.mem_append.1 h with h | h
        · exact .inl h
        · exact .inr ⟨w.bay, k, w.kind, List.mem_singleton.1 h⟩
      · exact .inr h
    | skipped => exact ih s
    | untested => exact ih s

theorem mem_afterScan {w : WaitEntry} {marks : List (WaitEntry × ScanMark)} (h : w ∈ afterScan marks) :
    ∃ x ∈ marks, x.1.bay = w.bay := by
  induction marks with
  | nil => simp [afterScan] at h
  | cons x marks ih =>
    have later (h : w ∈ afterScan marks) : ∃ y ∈ x :: marks, y.1.bay = w.bay := by
      obtain ⟨y, hy, e⟩ := ih h
      exact ⟨y, List.mem_cons_of_mem _ hy, e⟩
    obtain ⟨v, mark⟩ := x
    cases mark with
    | granted m => exact later h
    | skipped =>
      rcases List.mem_cons.1 h with rfl | h
      · exact ⟨_, List.mem_cons_self, by dsimp only; split <;> rfl⟩
      · exact later h
    | untested =>
      rcases List.mem_cons.1 h with rfl | h
      · exact ⟨_, List.mem_cons_self, rfl⟩
      · exact later h

/-- The two parts of a scan: the walk, and the grants handed over. -/
theorem scan_eq : s.scan = handGrants (scanWalk s.rgu.queue s).2
    { (scanWalk s.rgu.queue s).1 with rgu.queue := afterScan (scanWalk s.rgu.queue s).2 } := rfl

theorem scan_exceptSpeed : (s.scan.bay n).exceptSpeed = (s.bay n).exceptSpeed := by
  obtain ⟨r, hr⟩ := scanWalk_frame s.rgu.queue s
  rw [scan_eq, handGrants_exceptSpeed, hr]
  rfl

theorem scan_sent : ∀ m ∈ s.scan.sent, m ∈ s.sent ∨ ∃ n k x, m = .bay n (.speed k x) := by
  obtain ⟨r, hr⟩ := scanWalk_frame s.rgu.queue s
  rw [scan_eq, hr]
  exact handGrants_sent _ _

theorem waits_eq_false : s.waits n = false ↔ ∀ w ∈ s.rgu.queue, w.bay ≠ n := by
  simp [waits]

/-- A scan grants nothing to a bay with no entry in the queue. -/
theorem scan_of_not_waits (h : s.waits n = false) :
    s.scan.bay n = s.bay n ∧ s.scan.grant n = s.grant n ∧ s.scan.waits n = false := by
  obtain ⟨r, hr⟩ := scanWalk_frame s.rgu.queue s
  have others : ∀ x ∈ (scanWalk s.rgu.queue s).2, x.1.bay ≠ n := fun x hx =>
    waits_eq_false.1 h x.1 (scanWalk_marks_of_mem _ _ _ hx)
  have handed := handGrants_frame (scanWalk s.rgu.queue s).2
    { (scanWalk s.rgu.queue s).1 with rgu.queue := afterScan (scanWalk s.rgu.queue s).2 }
  obtain ⟨ms, bs, hh⟩ := handed
  refine ⟨?_, ?_, ?_⟩
  · rw [scan_eq, handGrants_bay _ _ others, hr]
    rfl
  · rw [scan_eq, hh]
    exact scanWalk_grant _ _ (waits_eq_false.1 h)
  · rw [scan_eq, hh, waits_eq_false]
    intro w hw
    obtain ⟨x, hx, e⟩ := mem_afterScan hw
    exact e ▸ others x hx

end

/-! ### Streams, releases, withdrawals and requests -/

section
variable {s : State} {n : BayId}

theorem closeStream_frame (n : BayId) (s : State) : ∃ f m, s.closeStream n = { s with fdr := f, smc := m } := by
  unfold closeStream
  split
  · exact ⟨_, _, rfl⟩
  · exact ⟨s.fdr, s.smc, rfl⟩

theorem removeGrant_frame (n : BayId) (s : State) : ∃ r f m, s.removeGrant n = { s with rgu := r, fdr := f, smc := m } := by
  unfold removeGrant
  split
  · dsimp only
    split
    · obtain ⟨f, m, h⟩ := closeStream_frame n (s.setGrant n none)
      exact ⟨_, f, m, h⟩
    · exact ⟨_, s.fdr, s.smc, rfl⟩
  · exact ⟨s.rgu, s.fdr, s.smc, rfl⟩

theorem release_frame (n : BayId) (s : State) :
    ∃ r ms bs, s.release n = { s with rgu := r, sent := s.sent ++ ms, bays := bs } := by
  unfold release
  split
  · exact scan_frame (s.setGrant n none)
  · exact ⟨s.rgu, [], s.bays, by simp⟩

/-- A withdrawal changes the ledger, the wait queue and the stream, and what its scan changes. -/
theorem withdraw_frame (n : BayId) (s : State) :
    ∃ r f m ms bs, s.withdraw n = { s with rgu := r, fdr := f, smc := m, sent := s.sent ++ ms, bays := bs } := by
  unfold withdraw
  split
  · obtain ⟨r, f, m, h⟩ := removeGrant_frame n s
    obtain ⟨r', ms, bs, h'⟩ := scan_frame (s.removeGrant n)
    exact ⟨r', f, m, ms, bs, by rw [h', h]⟩
  · split
    · obtain ⟨r, ms, bs, h⟩ := scan_frame (s.removeWait n)
      exact ⟨r, s.fdr, s.smc, ms, bs, h⟩
    · exact ⟨s.rgu, s.fdr, s.smc, [], s.bays, by simp⟩

theorem requestGrant_frame (w : WaitEntry) (s : State) :
    ∃ r f m ms bs, s.requestGrant w = { s with rgu := r, fdr := f, smc := m, sent := s.sent ++ ms, bays := bs } := by
  obtain ⟨r, f, m, h⟩ := removeGrant_frame w.bay s
  obtain ⟨r', ms, bs, h'⟩ := scan_frame ({ (s.removeGrant w.bay).removeWait w.bay with
    rgu.queue := ((s.removeGrant w.bay).removeWait w.bay).rgu.queue ++ [w] })
  refine ⟨r', f, m, ms, bs, h'.trans ?_⟩
  rw [h]
  rfl

theorem removeGrant_bay {m : BayId} : (s.removeGrant n).bay m = s.bay m := by
  obtain ⟨r, f, k, h⟩ := removeGrant_frame n s
  rw [h]
  rfl

theorem removeGrant_sent : (s.removeGrant n).sent = s.sent := by
  obtain ⟨r, f, k, h⟩ := removeGrant_frame n s
  rw [h]

theorem release_exceptSpeed {m : BayId} : ((s.release n).bay m).exceptSpeed = (s.bay m).exceptSpeed := by
  unfold release
  split
  · exact scan_exceptSpeed
  · rfl

theorem withdraw_exceptSpeed {m : BayId} : ((s.withdraw n).bay m).exceptSpeed = (s.bay m).exceptSpeed := by
  unfold withdraw
  split
  · exact scan_exceptSpeed.trans (congrArg Bay.exceptSpeed removeGrant_bay)
  · split
    · exact scan_exceptSpeed
    · rfl

theorem requestGrant_exceptSpeed {w : WaitEntry} {m : BayId} :
    ((s.requestGrant w).bay m).exceptSpeed = (s.bay m).exceptSpeed :=
  scan_exceptSpeed.trans (congrArg Bay.exceptSpeed removeGrant_bay)

end

end State

end Sys2Proof.Machine
end

section
/-! PROOFS. The speed report (O42). -/

namespace Sys2Proof.Machine

open State

/-- The entry an adjustment settles (R84, R85). -/
def Grant.settledAt (a : Nat) (g : Grant) : Grant := { g with step := a, rate := stepRate g.cls a, phase := .settled }

namespace State
variable {s : State} {n : BayId} {d : DiscId} {r : Disc} {j : Job} {m : MediaReport} {y : Image}

theorem image?_number {i : Nat} (h : s.image? i = some y) : y.number = i := by
  have := List.find?_some h
  simpa using this

theorem image?_discImageOf (h : s.discImageOf j = some y) : s.image? y.number = some y := by
  obtain ⟨i, -, hi⟩ := Option.bind_eq_some_iff.1 h
  rw [image?_number hi]
  exact hi

theorem imageIsLost_of_ne (h : s.image? y.number = some y) (live : y.state ≠ .lost) :
    s.imageIsLost y.number = false := by
  simp [imageIsLost, h, live]

theorem copyAt_eq_some (h : s.copyAt n = some (d, r, j, m)) :
    s.discAt (.bay n) = some d ∧ s.disc d = some r ∧ s.jobOf r = some j ∧ r.media = some m := by
  unfold copyAt at h
  split at h
  next c hc =>
    split at h
    next x hx =>
      split at h
      next i k hi hk =>
        obtain ⟨rfl, rfl, rfl, rfl⟩ := by simpa using h
        exact ⟨hc, hx, hi, hk⟩
      next => simp at h
    next => simp at h
  next => simp at h

theorem copyLength_of_job (hj : s.jobOf r = some j) (hy : s.discImageOf j = some y) : s.copyLength r = y.length := by
  simp [copyLength, hj, hy]

/-! ### The grant settles -/

/-- The verify of the copy at a bay. -/
theorem verifyCtx_of_copyAt (h : s.copyAt n = some (d, r, j, m)) (hy : s.discImageOf j = some y) :
    s.verifyCtx n =
      some { disc := d, mode := j.verify, limit := j.marginalLimit, sampleK := j.sampleK, stop := y.length } := by
  obtain ⟨-, -, hj, -⟩ := copyAt_eq_some h
  rw [verifyCtx, h, ← copyLength_of_job hj hy]

/-- The stream of a settled grant is opened on an image that is not LOST. -/
theorem openStream_of_live {g : Grant} (hg : s.grant n = some g) (h : s.copyAt n = some (d, r, j, m))
    (hy : s.discImageOf j = some y) (live : y.state ≠ .lost) :
    s.openStream n = s.setStream n (some
      { image := y.number, kind := g.kind, stop := y.length, rate := g.rate
        sampleK := if g.kind = .verify then j.sampleK else none }) := by
  have opened : (s.grant n).bind (s.newStream n) = some
      { image := y.number, kind := g.kind, stop := y.length, rate := g.rate
        sampleK := if g.kind = .verify then j.sampleK else none } := by
    rw [hg, Option.bind_some, newStream, h]
    dsimp only
    rw [hy]
    cases g.kind <;> rfl
  have found : s.imageIsLost y.number = false := imageIsLost_of_ne (image?_discImageOf hy) live
  rw [openStream, opened]
  dsimp only
  rw [if_neg (by simp [found])]

/-- The first range of a verify. -/
def firstStop (j : Job) (y : Image) : Nat := if j.sampleK = none then y.length else groupEnd y.length 0

theorem toBay_modBay {k : BayId} {msg : BayMsg} {f : Bay → Bay} :
    (s.modBay k f).toBay n msg = (s.toBay n msg).modBay k f := rfl

theorem startRange_eq {first count : Nat} {p : EnginePhase} :
    s.startRange n first count p = (s.toBay n (.readStart first count)).modBay n (fun b =>
      { b with timers.read := some 10000, engine := { b.engine with phase := p, attemptRead := false } }) := by
  unfold startRange modEngine readTimer
  rw [State.modBay_modBay]
  rfl

theorem startVerify_of_copyAt (h : s.copyAt n = some (d, r, j, m)) (hy : s.discImageOf j = some y) :
    s.startVerify n = (s.toBay n (.readStart 0 (firstStop j y))).modBay n (fun b =>
      { b with
        state := .verifying, fifo := [], holding := [], timers.read := some 10000
        engine := { phase := .reading, rangeEnd := some (firstStop j y)
                    rangesLeft := (j.sampleK.map (fun k => furtherGroups k y.length)).getD 0 } }) := by
  rw [startVerify, verifyCtx_of_copyAt h hy]
  dsimp only
  rw [startRange_eq, firstStop]
  cases j.sampleK with
  | none =>
    rw [toBay_modBay, State.modBay_modBay]
    rfl
  | some k =>
    rw [toBay_modBay, State.modBay_modBay]
    rfl

/-! ### The adjustment -/

section
variable {g : Grant} {step a : Nat}

theorem adjust_of_le (hg : s.grant n = some g) (hp : g.phase = .speedPending) (ha : roundUp g.kind g.cls step = a)
    (le : a ≤ g.step) :
    s.adjust n step = (s.setGrant n (some (g.settledAt a)), .settled (stepRate g.cls a) (decide (a < g.step))) := by
  rw [adjust, hg]
  dsimp only
  rw [if_pos hp, ha, if_pos le]
  rfl

theorem adjust_of_fits (hg : s.grant n = some g) (hp : g.phase = .speedPending) (ha : roundUp g.kind g.cls step = a)
    (lt : g.step < a) (fits : s.growthFits g (stepRate g.cls a) = true) :
    s.adjust n step = (s.setGrant n (some (g.settledAt a)), .settled (stepRate g.cls a) false) := by
  rw [adjust, hg]
  dsimp only
  rw [if_pos hp, ha, if_neg (by omega), if_pos fits]
  rfl

theorem adjust_of_full (hg : s.grant n = some g) (hp : g.phase = .speedPending) (ha : roundUp g.kind g.cls step = a)
    (lt : g.step < a) (full : s.growthFits g (stepRate g.cls a) = false) :
    s.adjust n step =
      ({ s.setGrant n none with
        rgu.queue := { bay := n, kind := g.kind, cls := g.cls, requested := a, minimum := some a } :: s.rgu.queue },
       .sentBack) := by
  rw [adjust, hg]
  dsimp only
  rw [if_pos hp, ha, if_neg (by omega), if_neg (by simp [full])]
  rfl

/-- The free rate of a growth, the grant's own rate taken as free (R85). -/
def growthRoom (s : State) (g : Grant) : Nat :=
  if g.kind = .write then
    min (s.sst.working.ceiling - (s.rgu.committedWrite - g.rate)) (s.sst.working.budget - (s.rgu.committedTotal - g.rate))
  else s.sst.working.budget - (s.rgu.committedTotal - g.rate)

theorem growthFits_eq {rate : Nat} : s.growthFits g rate = decide (rate ≤ s.growthRoom g) := by
  rw [growthFits, growthRoom]
  cases g.kind <;> rfl

end

end State

/-! ### The report -/

section
variable {s : State} {n : BayId} {g : Grant} {step a : Nat} {d : DiscId} {r : Disc} {j : Job} {m : MediaReport} {y : Image}

/-- The state in which a speed report is handed over. -/
def State.speedTaken (s : State) (n : BayId) : State :=
  s.begin.modBay n (fun b => { b with speedPending := false, timers.speed := none })

theorem speedTaken_bay : ((s.speedTaken n).setGrant n (some g)).bay n = { s.bay n with speedPending := false, timers.speed := none } := by
  show (s.speedTaken n).bay n = _
  rw [speedTaken, bay_modBay_self]
  rfl

theorem speedTaken_bay_ne {k : BayId} (h : k ≠ n) : (s.speedTaken n).bay k = s.bay k := bay_modBay_ne h _ s.begin

/-- The stream of a settled grant. -/
def openedStream (g : Grant) (j : Job) (y : Image) : Stream :=
  { image := y.number, kind := g.kind, stop := y.length, rate := g.rate
    sampleK := if g.kind = .verify then j.sampleK else none }

theorem grantSettled_of_write (hs : (s.bay n).state = .grantWait) (hg : s.grant n = some g)
    (h : s.copyAt n = some (d, r, j, m)) (hy : s.discImageOf j = some y) (live : y.state ≠ .lost) :
    s.grantSettled n = (s.setStream n (some (openedStream g j y))).enterPrefill n := by
  have opened : s.openStream n = s.setStream n (some (openedStream g j y)) := openStream_of_live hg h hy live
  have waits : ((s.setStream n (some (openedStream g j y))).bay n).state = .grantWait := hs
  rw [grantSettled, opened, waits]

theorem grantSettled_of_verify (hs : (s.bay n).state = .verifyWait) (hg : s.grant n = some g)
    (h : s.copyAt n = some (d, r, j, m)) (hy : s.discImageOf j = some y) (live : y.state ≠ .lost) :
    s.grantSettled n = (s.setStream n (some (openedStream g j y))).startVerify n := by
  have opened : s.openStream n = s.setStream n (some (openedStream g j y)) := openStream_of_live hg h hy live
  have waits : ((s.setStream n (some (openedStream g j y))).bay n).state = .verifyWait := hs
  rw [grantSettled, opened, waits]

theorem speedReported_of_settled {t : State} {rate : Nat} {freed : Bool}
    (h : (s.modBay n (fun b => { b with speedPending := false, timers.speed := none })).adjust n step =
      (t, .settled rate freed)) :
    s.speedReported n step = if freed then (t.grantSettled n).scan else t.grantSettled n := by
  rw [speedReported]
  dsimp only
  rw [h]

theorem speedReported_of_sentBack {t : State}
    (h : (s.modBay n (fun b => { b with speedPending := false, timers.speed := none })).adjust n step = (t, .sentBack)) :
    s.speedReported n step = t.scan := by
  rw [speedReported]
  dsimp only
  rw [h]

theorem scan_due : s.scan.due = s.due := by
  obtain ⟨r, ms, bs, h⟩ := scan_frame s
  rw [h]

theorem committedTotal_setGrant {x : Grant} (hg : s.grant n = some g) :
    (s.setGrant n (some x)).rgu.committedTotal + g.rate = s.rgu.committedTotal + x.rate := by
  have total := s.total_setGrant grantRate n (some x)
  rw [hg] at total
  exact total

end

/-- Settles O42, by the cases of the adjustment and the state in which the bay waits. -/
theorem aSpeedReportSettlesTheGrant : Obligations.ASpeedReportSettlesTheGrant := by
  intro s n step
  have runs (hp : (s.bay n).speedPending = true) :
      exec (.speedReport n step) s = .next ((s.begin.speedReported n step).settle) :=
    congrArg (fun t : State => Host.Outcome.next t.settle) (if_pos hp)
  have settles (g : Grant) (hp : (s.bay n).speedPending = true) (hg : s.grant n = some g) (hph : g.phase = .speedPending) :
      let a := roundUp g.kind g.cls step
      let rate := stepRate g.cls a
      let left := s.sst.working.budget - (s.rgu.committedTotal - g.rate)
      let free := if g.kind = .write then min (s.sst.working.ceiling - (s.rgu.committedWrite - g.rate)) left else left
      let told := s.begin.modBay n (fun b => { b with speedPending := false, timers.speed := none })
      let granted := told.setGrant n (some (g.settledAt a))
      (a < g.step → s.begin.speedReported n step = (granted.grantSettled n).scan) ∧
      (a = g.step ∨ (g.step < a ∧ rate ≤ free) → s.begin.speedReported n step = granted.grantSettled n) ∧
      (g.step < a → free < rate → s.begin.speedReported n step = { told.setGrant n none with
            rgu.queue := { bay := n, kind := g.kind, cls := g.cls, requested := a, minimum := some a, passes := 0 }
              :: s.rgu.queue }.scan) := by
    intro a rate left free told granted
    have room : told.growthFits g rate = decide (rate ≤ free) := growthFits_eq
    refine ⟨fun lt => ?_, fun h => ?_, fun lt full => ?_⟩
    · have shrinks := adjust_of_le (s := told) hg hph (step := step) rfl (Nat.le_of_lt lt)
      rw [speedReported_of_settled shrinks, if_pos (by simpa using lt)]
    · rcases h with e | ⟨lt, fits⟩
      · have same := adjust_of_le (s := told) hg hph (step := step) rfl (Nat.le_of_eq e)
        rw [speedReported_of_settled same, if_neg (by simpa using Nat.le_of_eq e.symm)]
      · have grows := adjust_of_fits (s := told) hg hph (step := step) rfl lt (by rw [room]; simpa using fits)
        rw [speedReported_of_settled grows, if_neg (by simp)]
    · exact speedReported_of_sentBack (adjust_of_full (s := told) hg hph (step := step) rfl lt
        (by rw [room]; simpa using full))
  refine ⟨fun h => exec_event rfl (if_neg (by simp [h])) rfl, ?same, ?cases⟩
  case same =>
    intro g d r j m y hp hs hg hph hk ha hc hy live
    obtain ⟨-, same, -⟩ := settles g hp hg hph
    rw [hk, ha] at same
    have fills := grantSettled_of_write (s := (s.speedTaken n).setGrant n (some (g.settledAt g.step)))
      ((congrArg Bay.state (speedTaken_bay (s := s))).trans hs) (grant_setGrant_self ..) hc hy live
    refine ⟨_, exec_event (runs hp) ((same (.inl rfl)).trans fills) rfl, ?_, ?_, ?_, rfl, rfl, fun k ne => ⟨?_, ?_, ?_⟩⟩
    · exact (grant_setGrant_self ..)
    · refine (stream_setStream_self ..).trans ?_
      rw [openedStream, Grant.settledAt, hk]
      rfl
    · rw [enterPrefill, bay_modBay_self]
      exact congrArg (fun b : Bay => { b with
        state := .prefill, fifo := [], wantCredit := 0, sentBlocks := 0, refillHold := false }) (speedTaken_bay (g := g.settledAt g.step))
    · exact (bay_modBay_ne ne _ _).trans (speedTaken_bay_ne ne)
    · exact grant_setGrant_ne ne _ _
    · exact stream_setStream_ne ne _ _
  case cases =>
    intro g hp hg hph a rate left free told
    obtain ⟨shrinks, same, back⟩ := settles g hp hg hph
    refine ⟨?_, fun lt full => exec_event (runs hp) (back lt full) scan_due⟩
    intro d r j m y hc hy live settled filling stop verifying
    refine ⟨committedTotal_setGrant (s := told) (x := g.settledAt a) hg, fun hs hk => ?_, fun hs hk => ?_⟩
    · have fills : (told.setGrant n (some (g.settledAt a))).grantSettled n = filling :=
        grantSettled_of_write ((congrArg Bay.state (speedTaken_bay (s := s))).trans hs) (grant_setGrant_self ..) hc hy live
      rw [fills] at shrinks same
      exact ⟨fun lt => exec_event (runs hp) (shrinks lt) scan_due, fun h => exec_event (runs hp) (same h) rfl⟩
    · have starts : (told.setGrant n (some (g.settledAt a))).grantSettled n = verifying := by
        refine (grantSettled_of_verify ((congrArg Bay.state (speedTaken_bay (s := s))).trans hs) (grant_setGrant_self ..) hc hy live).trans ?_
        exact startVerify_of_copyAt (s := settled) hc hy
      rw [starts] at shrinks same
      exact ⟨fun lt => exec_event (runs hp) (shrinks lt) scan_due, fun h => exec_event (runs hp) (same h) rfl⟩

end Sys2Proof.Machine
end

section
/-! PROOFS. What the operations of a step do to whatever is watched. A relation between the states before and after is closed
under the quiet operations once it is closed under the primitive changes they are made of; each operation has one lemma, for
every such relation. The relations themselves are given where they are needed. -/

namespace Sys2Proof.Machine

/-- A message that stops no operation of a drive. -/
def OutMsg.calm (m : OutMsg) : Prop := ∀ n, m ≠ .bay n .abort ∧ m ≠ .bay n .readHalt

/-- A bay whose buffers are empty and whose engine and read inactivity timer are idle. -/
structure Bay.Drained (b : Bay) : Prop where
  engine : b.engine = {}
  fifo : b.fifo = []
  holding : b.holding = []
  read : b.timers.read = none

/-- A change of a bay that keeps its state and fills no buffer. -/
structure Bay.Steady (f : Bay → Bay) : Prop where
  state (b : Bay) : (f b).state = b.state
  drained (b : Bay) : b.Drained → (f b).Drained

/-- A change of a bay to a state in which its drive does not work; it fills no buffer. -/
structure Bay.Rests (f : Bay → Bay) : Prop where
  idle (b : Bay) : (f b).state.working = false
  drained (b : Bay) : b.Drained → (f b).Drained

theorem Bay.steady_of_eq {f : Bay → Bay} (hf : ∀ b,
    ((f b).state, (f b).engine, (f b).fifo, (f b).holding, (f b).timers.read) =
      (b.state, b.engine, b.fifo, b.holding, b.timers.read)) : Bay.Steady f where
  state b := congrArg (fun x => x.1) (hf b)
  drained b h :=
    ⟨(congrArg (fun x => x.2.1) (hf b)).trans h.engine, (congrArg (fun x => x.2.2.1) (hf b)).trans h.fifo,
      (congrArg (fun x => x.2.2.2.1) (hf b)).trans h.holding, (congrArg (fun x => x.2.2.2.2) (hf b)).trans h.read⟩

/-- A change of a bay's fault count and of its pending offline (R127). -/
def Bay.faulty (f : Bay → Bay) : Prop := ∀ b, ∃ k o, f b = { b with faults := k, offline := o }

theorem Bay.faulty.steady {f : Bay → Bay} (h : Bay.faulty f) : Bay.Steady f :=
  Bay.steady_of_eq fun b => by obtain ⟨k, o, e⟩ := h b; rw [e]

/-- A bay whose pending offline takes effect (R127). -/
def Bay.goesOffline (b : Bay) : Bay :=
  { b with
    state := .offline, offline := none, errand := .none, timers := {}
    tray := if b.tray = .moving then .unknown else b.tray }

/-- A bay state that an offline pending or the end of a reservation may change (R127, R107). -/
def BayState.vacant (x : BayState) : Prop := x = .empty ∨ x = .reserved ∨ x = .fault

/-- A pending offline of a bay may take effect (R127). -/
structure State.retires (s : State) (n : BayId) : Prop where
  pending : (s.bay n).offline ≠ none
  gone : s.discAt (.bay n) = none
  idle : (s.bay n).state = .empty ∨ (s.bay n).state = .fault ∧ (s.bay n).errand = .none

theorem State.retires.vacant {s : State} {n : BayId} (h : s.retires n) : (s.bay n).state.vacant :=
  h.idle.imp_right fun h => .inr h.1

theorem State.retires_of_offlineReady {s : State} {n : BayId} (h : s.offlineReady n = true)
    (pending : (s.bay n).offline ≠ none) : s.retires n := by
  obtain ⟨places, states⟩ := Bool.and_eq_true_iff.1 h
  refine ⟨pending, by simpa using (Bool.and_eq_true_iff.1 places).1, ?_⟩
  simpa using states

/-- A change of an image's accounts. -/
def Image.accounts (f : Image → Image) : Prop := ∀ x, ∃ r a o, f x = { x with refs := r, accesses := a, source := o }

/-- A hold cause that a spindle gives and takes back (R28). -/
def HoldCause.ofSpindle (c : HoldCause) : Prop := c = .noBlanks ∨ c = .spindleSuspect

/-- The parts of a state that are watched. -/
def State.watched (s : State) :=
  ((s.discs, s.cat, s.sent, s.bays), (s.jsc.jobs, s.jsc.masters, s.ports, s.jsc.spareHold), s.psc, s.fdr, s.rgu, s.ipt,
    s.tsq, s.sst, s.mem)

/-- A change of a station that is LOADED: it stays so, with the sense pending, the tag of the artwork and
its reservation as they are, and its timer does not start. -/
structure Psc.LoadedAs (x y : Psc) : Prop where
  before : x.state = .loaded
  after : y.state = .loaded
  sense : y.sense = x.sense
  tag : y.cacheTag = x.cacheTag
  timer : y.timer = none ∨ y.timer = x.timer
  reserved : y.reservedFor = x.reservedFor

/-- A relation closed under the primitive changes of the plain operations: those that reject no disc, drain no job, stop no
drive, end no operation of a bay and leave the transport as it is. -/
structure Plain (R : State → State → Prop) : Prop where
  refl (s : State) : R s s
  trans {s t u : State} : R s t → R t u → R s u
  other {s t : State} : t.watched = s.watched → R s t
  emit {m : OutMsg} (s : State) : m.calm → R s (s.emit m)
  cleared (n : BayId) (s : State) : R s (s.modBay n (fun b => { b with faults := 0 }))
  unreserve (n : BayId) (s : State) : (s.bay n).state = .reserved → R s (s.bayTo n .empty)
  retire (n : BayId) (s : State) : s.retires n → R s (s.modBay n Bay.goesOffline)
  deliver (e : Event) (s : State) : R s (s.deliver e)
  hold {n : Nat} {j : Job} {c : HoldCause} {b : Bool} {s : State} :
    s.job? n = some j → j.live = true → b = true ∨ c.ofSpindle → R s (s.modJob n (fun x => { x with holds := x.holds.put c b }))
  live {n : Nat} {j : Job} {s : State} :
    s.job? n = some j → j.live = true → R s (s.modJob n (fun x => { x with state := s.liveState j }))
  terminal {n : Nat} {j : Job} {x : JobState} {s : State} :
    s.job? n = some j → s.terminalOf j = some x → R s (s.modJob n (fun y => { y with state := x }))
  loads (n : Nat) (s : State) : R s (s.modJob n (fun x => { x with loads := x.loads - 1 }))
  image {f : Image → Image} (i : Nat) (s : State) : Image.accounts f → R s (s.modImage i f)
  freed (i : Nat) (s : State) : R s { s with cat.images := s.cat.images.filter (fun y => y.number != i) }
  masters {q : List MasterReq} (s : State) :
    (∀ x ∈ q, ∃ o ∈ s.jsc.masters, o.image = x.image) → R s { s with jsc.masters := q }
  unreserved (s : State) :
    R s { s with psc.reservedFor := none, psc.state := if s.psc.state = .reserved then .vacant else s.psc.state }
  ungranted (n : BayId) (s : State) : R s (s.setGrant n none)
  unwaited (n : BayId) (s : State) : R s (s.removeWait n)
  scan (s : State) : R s s.scan
  closed (n : BayId) (k : Vector Nat 12) (s : State) : R s { s with fdr.streams := s.fdr.streams.set n none, fdr.draining := k }
  withdrawn (s : State) : R s { s with fdr.artwork := none }
  unspared (n : BayId) (s : State) : R s (s.setSpareHold n none)

/-! ### Bays that are torn down -/

namespace State
variable {s : State} {n : BayId}

theorem quiet_of_exceptSpeed {b c : Bay} (h : b.exceptSpeed = c.exceptSpeed) : b.quiet = c.quiet :=
  show b.exceptSpeed.quiet = c.exceptSpeed.quiet by rw [h]

theorem bay_teardown {abort : Bool} : (s.teardown n abort).bay n = (s.bay n).quiet := by
  unfold teardown
  dsimp only
  rw [bay_modBay_self]
  refine quiet_of_exceptSpeed (withdraw_exceptSpeed.trans ?_)
  split <;> rfl

theorem state_withdraw : ((s.withdraw n).bay n).state = (s.bay n).state :=
  show ((s.withdraw n).bay n).exceptSpeed.state = (s.bay n).exceptSpeed.state by rw [withdraw_exceptSpeed]

theorem state_stopForSpare : ((s.stopForSpare n).bay n).state = (s.bay n).state := by
  rw [stopForSpare, bay_modBay_self]
  exact state_withdraw

end State

namespace Plain
variable {R : State → State → Prop} {s : State} {n : BayId} {d : DiscId}

theorem ite (h : Plain R) {c : Prop} [Decidable c] {t : State} (ht : R s t) : R s (if c then t else s) := by
  split
  · exact ht
  · exact h.refl s

/-- What a relation has of each member of a list, it has of the repetition. -/
theorem each (h : Plain R) {α : Type} {f : α → State → State} (xs : List α) (s : State) (hf : ∀ x s, R s (f x s)) :
    R s (forEach xs f s) :=
  forEach_keeps (P := R s) (fun x _ t ht => h.trans ht (hf x t)) (h.refl s)

/-! ### Primitive changes under their names -/

theorem duePass (h : Plain R) : R s s.duePass := h.other rfl
theorem dueSelect (h : Plain R) : R s s.dueSelect := h.other rfl
theorem dueBoth (h : Plain R) : R s s.dueBoth := h.other rfl
theorem dueSweep (h : Plain R) : R s s.dueSweep := h.other rfl
theorem setBayRes (h : Plain R) {r : Option BayRes} : R s (s.setBayRes n r) := h.other rfl
theorem calmBay (h : Plain R) {m : BayMsg} (ha : m ≠ .abort) (hr : m ≠ .readHalt) : R s (s.toBay n m) :=
  h.emit s fun k => ⟨fun e => ha (by cases e; rfl), fun e => hr (by cases e; rfl)⟩

theorem toArm (h : Plain R) {m : ArmMsg} : R s (s.toArm m) := h.emit s fun _ => ⟨fun e => (by cases e), fun e => (by cases e)⟩

theorem toPrinter (h : Plain R) {m : PrinterMsg} : R s (s.toPrinter m) :=
  h.emit s fun _ => ⟨fun e => (by cases e), fun e => (by cases e)⟩

/-! ### Images and jobs -/

theorem freeTest (h : Plain R) {i : Nat} : R s (s.freeTest i) := by
  unfold State.freeTest
  split
  · exact h.ite (h.freed i s)
  · exact h.refl s

theorem dropRef (h : Plain R) {i : Nat} : R s (s.dropRef i) :=
  h.trans (h.image i s fun _ => ⟨_, _, _, rfl⟩) h.freeTest

theorem refreshJob (h : Plain R) {k : Nat} : R s (s.refreshJob k) := by
  unfold State.refreshJob
  split
  next j hj =>
    split
    next hl =>
      dsimp only
      split
      · exact h.trans (h.live hj hl) h.duePass
      · exact h.live hj hl
    next => exact h.refl s
  next => exact h.refl s

theorem addHold (h : Plain R) {c : HoldCause} {k : Nat} : R s (s.addHold c k) := by
  unfold State.addHold
  split
  next j hj =>
    split
    next hl =>
      obtain ⟨live, -⟩ := Bool.and_eq_true_iff.1 hl
      exact h.trans (h.trans (h.hold hj live (.inl rfl)) h.refreshJob) (h.deliver _ _)
    next => exact h.refl s
  next => exact h.refl s

theorem removeHold (h : Plain R) {c : HoldCause} {k : Nat} (hc : c.ofSpindle) : R s (s.removeHold c k) := by
  unfold State.removeHold
  split
  next j hj =>
    split
    next hl =>
      obtain ⟨live, -⟩ := Bool.and_eq_true_iff.1 hl
      exact h.trans (h.hold hj live (.inr hc)) h.refreshJob
    next => exact h.refl s
  next => exact h.refl s

theorem evalSpindles (h : Plain R) : R s s.evalSpindles := by
  refine h.each _ s fun k t => ?_
  unfold State.evalNoBlanks
  split
  · split
    · exact h.removeHold (.inl rfl)
    · exact h.addHold
  · exact h.refl t

theorem terminalTest (h : Plain R) {k : Nat} : R s (s.terminalTest k) := by
  unfold State.terminalTest
  split
  next j hj =>
    split
    next x hx =>
      exact h.trans (h.trans (h.trans (h.terminal hj hx) (h.each (f := State.dropRef) _ _ fun _ _ => h.dropRef))
        (h.each (f := State.dropRef) _ _ fun _ _ => h.dropRef)) (h.deliver _ _)
    next => exact h.refl s
  next => exact h.refl s

theorem loadGone (h : Plain R) {k : Nat} : R s (s.loadGone k) := h.trans (h.trans (h.loads k s) h.terminalTest) h.duePass

/-! ### Grants and streams -/

theorem closeStream (h : Plain R) : R s (s.closeStream n) := by
  unfold State.closeStream
  split
  · exact h.trans (h.closed n _ s) (h.other rfl)
  · exact h.refl s

theorem removeGrant (h : Plain R) : R s (s.removeGrant n) := by
  unfold State.removeGrant
  split
  · dsimp only
    split
    · exact h.trans (h.ungranted n s) h.closeStream
    · exact h.ungranted n s
  · exact h.refl s

theorem release (h : Plain R) : R s (s.release n) := by
  unfold State.release
  split
  · exact h.trans (h.ungranted n s) (h.scan _)
  · exact h.refl s

theorem withdraw (h : Plain R) : R s (s.withdraw n) := by
  unfold State.withdraw
  split
  · exact h.trans h.removeGrant (h.scan _)
  · exact h.ite (h.trans (h.unwaited n s) (h.scan _))

/-! ### Bays -/

theorem offlineCheck (h : Plain R) : R s (s.offlineCheck n) := by
  unfold State.offlineCheck
  split
  next c hc =>
    split
    next ready =>
      exact h.trans (h.trans (h.retire n s (State.retires_of_offlineReady ready (by simp [hc]))) (h.deliver _ _)) h.dueSweep
    next => exact h.refl s
  · exact h.refl s

theorem dropBayRes (h : Plain R) : R s (s.dropBayRes n) := by
  have freed (u : State) : R u (if (u.bay n).state = .reserved then u.bayTo n .empty else u) := by
    split
    next e => exact h.unreserve n u e
    next => exact h.refl u
  exact h.ite (h.trans (h.trans (h.trans h.setBayRes (freed _)) h.offlineCheck) h.dueBoth)

theorem dropResOf (h : Plain R) {r : BayRes} : R s (s.dropResOf r) := by
  unfold State.dropResOf
  split
  · exact h.dropBayRes
  · exact h.refl s

theorem unreserveStation (h : Plain R) {r : StationRes} : R s (s.unreserveStation r) :=
  h.ite (h.trans (h.unreserved s) h.dueBoth)

theorem dropCopyRes (h : Plain R) {j a : Nat} : R s (s.dropCopyRes j a) := h.trans h.dropResOf h.unreserveStation

/-! ### What follows a verdict -/

/-- A rise of the fault count of a bay, when that may change its count and its pending offline. -/
theorem raiseFaults_of_blame (h : Plain R) (blame : ∀ f (t : State), Bay.faulty f → R t (t.modBay n f)) :
    R s (s.raiseFaults n) :=
  h.trans (blame _ s (by exact fun _ => ⟨_, _, rfl⟩))
    (h.ite (h.trans (blame _ _ (by exact fun _ => ⟨_, _, rfl⟩)) h.offlineCheck))

/-- The hand-off to the work bay is mild, but for a rise of its fault count. -/
theorem handBay (h : Plain R) {r : Disc} {v : Option RejectCause}
    (raised : ∀ c n, v = some c → c.raisesFaults = true → R s (s.raiseFaults n)) : R s (s.handBay r v) := by
  unfold State.handBay
  split
  · exact h.refl s
  · split
    · exact h.ite (h.cleared _ s)
    next c =>
      split
      next hc => exact raised c _ rfl hc
      next => exact h.refl s

theorem handClu (h : Plain R) {j : Nat} {c : RejectCause} : R s (s.handClu j c) :=
  h.trans (h.deliver _ _) (h.ite h.addHold)

section
variable {r : Disc} {v : Option RejectCause}
  (raised : ∀ c n (t : State), v = some c → c.raisesFaults = true → R t (t.raiseFaults n))
include raised

/-- What follows the accounts of a verdict of a job's record (R14, R26, R42). -/
theorem handResult_of_job (h : Plain R) {k : Nat} (hk : r.job = some k) :
    R (s.modJob k (Job.account r v)) (s.handResult r v) := by
  unfold State.handResult State.handOffs
  rw [hk]
  have told : R (s.modJob k (Job.account r v)) ((s.modJob k (Job.account r v)).handBay r v) :=
    h.handBay fun c n => raised c n _
  cases v with
  | none => exact h.trans (h.trans told h.terminalTest) h.duePass
  | some c =>
    have reported := h.trans told (h.handClu (j := k) (c := c))
    cases r.attempt with
    | none => exact h.trans (h.trans reported h.terminalTest) h.duePass
    | some a => exact h.trans (h.trans (h.trans reported h.dropCopyRes) h.terminalTest) h.duePass

theorem handResult_of_none (h : Plain R) (hk : r.job = none) : R s (s.handResult r v) := by
  unfold State.handResult State.handOffs
  rw [hk]
  exact h.handBay fun c n => raised c n s

end

theorem stopSpareHold (h : Plain R) {r : Disc} : R s (s.stopSpareHold r) := by
  unfold State.stopSpareHold
  split
  · exact h.trans (h.unspared _ _) h.duePass
  · exact h.refl s

/-! ### The station -/

theorem withdrawArtwork (h : Plain R) : R s s.withdrawArtwork := by
  unfold State.withdrawArtwork
  split
  · exact h.trans (h.withdrawn s) (h.other rfl)
  · exact h.refl s

end Plain

/-- A relation closed under the changes of the transport queue too. -/
structure Mild (R : State → State → Prop) : Prop extends Plain R where
  queue (q : List Entry) (s : State) : R s { s with tsq.queue := q }

namespace Mild
variable {R : State → State → Prop} {s : State} {n : BayId} {d : DiscId}

theorem setEntries (h : Mild R) {q : List Entry} : R s { s with tsq.queue := q } := h.queue _ s

theorem queueClear (h : Mild R) {src : Source} {dest : Dest} : R s (s.queueClear src d dest) := by
  unfold State.queueClear
  split
  · exact h.refl s
  · exact h.trans (h.queue _ s) h.dueSelect

theorem clearFromBay (h : Mild R) : R s (s.clearFromBay n) := by
  unfold State.clearFromBay
  split
  · split
    · exact h.queueClear
    · exact h.refl s
  · exact h.refl s

theorem rerouteQueued (h : Mild R) : R s (s.rerouteQueued d) :=
  h.trans (h.queue _ s) h.dueSelect

theorem clearFromPrinter (h : Mild R) : R s s.clearFromPrinter := by
  unfold State.clearFromPrinter
  split
  · exact h.refl s
  · split
    · split
      · exact h.queueClear
      · exact h.refl s
    · exact h.refl s

theorem dropLoad (h : Mild R) {e : Entry} : R s (s.dropLoad e) := by
  unfold State.dropLoad
  dsimp only
  split
  · exact h.trans (h.trans (h.trans h.setEntries h.dropCopyRes) h.loadGone) h.dueBoth
  · exact h.trans h.setEntries h.dueBoth

end Mild

/-! ### Operations that leave a bay at rest -/

/-- A relation closed under the changes of a bay and under its coming to rest too. -/
structure Quiet (R : State → State → Prop) : Prop extends Mild R where
  bay {f : Bay → Bay} (n : BayId) (s : State) : Bay.Steady f → R s (s.modBay n f)
  rest {f : Bay → Bay} (n : BayId) (s : State) : Bay.Rests f → R s (s.modBay n f)

namespace Quiet
variable {R : State → State → Prop} {s : State} {n : BayId}

theorem moveTray (h : Quiet R) {shut : Bool} : R s (s.moveTray n shut) :=
  h.trans (h.calmBay (by split <;> simp) (by split <;> simp)) (h.bay n _ (by exact Bay.steady_of_eq fun _ => rfl))

theorem closeTray (h : Quiet R) : R s (s.closeTray n) := h.ite h.moveTray

theorem quietBay (h : Quiet R) : R s (s.modBay n Bay.quiet) :=
  h.bay n s ⟨fun _ => rfl, fun _ _ => ⟨rfl, rfl, rfl, rfl⟩⟩

/-- The teardown of a bay whose drive does not work, or has stopped (R119). -/
theorem teardown (h : Quiet R) {abort : Bool} (ha : (abort && (s.bay n).state.working) = false) :
    R s (s.teardown n abort) := by
  unfold State.teardown
  rw [ha]
  exact h.trans h.withdraw h.quietBay

theorem leaveVerify (h : Quiet R) : R s (s.leaveVerify n) :=
  h.trans h.withdraw (h.bay n _ (by exact ⟨fun _ => rfl, fun _ _ => ⟨rfl, rfl, rfl, rfl⟩⟩))

theorem stopForSpare (h : Quiet R) : R s (s.stopForSpare n) :=
  h.trans h.withdraw (h.bay n _ (by exact ⟨fun _ => rfl, fun _ hd => ⟨hd.1, rfl, hd.3, hd.4⟩⟩))

theorem raiseFaults (h : Quiet R) : R s (s.raiseFaults n) := h.raiseFaults_of_blame fun _ t hf => h.bay n t hf.steady

theorem bayTo (h : Quiet R) {x : BayState} (hx : x.working = false) : R s (s.bayTo n x) :=
  h.rest n s ⟨fun _ => hx, fun _ hd => ⟨hd.1, hd.2, hd.3, hd.4⟩⟩

theorem idleBay (h : Quiet R) : R s (s.idleBay n) :=
  h.trans (h.trans (h.bayTo (by split <;> rfl)) h.offlineCheck) h.dueBoth

theorem openToPlace (h : Quiet R) : R s (s.openToPlace n) :=
  h.trans h.moveTray (h.rest n _ (by exact ⟨fun _ => rfl, fun _ hd => ⟨hd.1, hd.2, hd.3, hd.4⟩⟩))

theorem openToPick (h : Quiet R) : R s (s.openToPick n) :=
  h.trans h.moveTray
    (h.rest n _ (by exact ⟨fun _ => by dsimp only; split <;> rfl, fun _ hd => ⟨hd.1, hd.2, hd.3, hd.4⟩⟩))

theorem hold' (h : Quiet R) : R s (s.hold n) := h.trans (h.bayTo rfl) h.clearFromBay

theorem endEarly (h : Quiet R) {abort : Bool} (ha : (abort && (s.bay n).state.working) = false) :
    R s (s.endEarly n abort) := h.trans (h.teardown ha) h.hold'

end Quiet

end Sys2Proof.Machine
end

section
/-! PROOFS. What a verdict and the drains that follow it do to whatever is watched (R13, R14, R32 to R36, R44). -/

namespace Sys2Proof.Machine

/-! ### Verdicts -/

/-- A relation closed under the writing of a verdict too (R13). -/
structure Writes (R : State → State → Prop) : Prop extends Plain R where
  account (n : Nat) (r : Disc) (v : Option RejectCause) (s : State) : R s (s.modJob n (Job.account r v))
  decide {d : DiscId} {r : Disc} (v : Option RejectCause) {s : State} :
    s.disc d = some r → r.verdict = .pending → R s (s.modDisc d (Disc.decide' v))

namespace Writes
variable {R : State → State → Prop} {s : State} {n : BayId} {d : DiscId}

theorem handResult (h : Writes R) {r : Disc} {v : Option RejectCause}
    (raised : ∀ c n (t : State), v = some c → c.raisesFaults = true → R t (t.raiseFaults n)) :
    R s (s.handResult r v) := by
  cases hk : r.job with
  | none => exact h.handResult_of_none raised hk
  | some k => exact h.trans (h.account k r v s) (h.handResult_of_job raised hk)

/-- The writing of a verdict, with what it does to a fault count given. -/
theorem writeVerdict_of_raised (h : Writes R) {v : Option RejectCause}
    (raised : ∀ c n (t : State), v = some c → c.raisesFaults = true → R t (t.raiseFaults n)) :
    R s (s.writeVerdict d v) := by
  unfold State.writeVerdict
  split
  next r hr =>
    split
    next hp => exact h.trans (h.trans (h.decide v hr hp) h.stopSpareHold) (h.handResult raised)
    next => exact h.refl s
  next => exact h.refl s

/-- A reject that raises no fault count. -/
theorem writeVerdict (h : Writes R) {c : RejectCause} (hc : c.raisesFaults = false) :
    R s (s.writeVerdict d (some c)) :=
  h.writeVerdict_of_raised fun c' _ _ e raises => by
    cases e
    simp [hc] at raises

theorem writeVerdict_none (h : Writes R) : R s (s.writeVerdict d none) :=
  h.writeVerdict_of_raised fun _ _ _ e => nomatch e

theorem verdict_none (h : Writes R) : R s (s.verdict d none) := by
  unfold State.verdict
  split
  · exact h.ite h.writeVerdict_none
  · exact h.refl s

end Writes

/-- A relation closed under verdicts and the mild operations. -/
structure Decides (R : State → State → Prop) : Prop extends Mild R, Writes R

/-- The states of an operation whose drive does not work (R119). -/
def BayState.waits (x : BayState) : Bool := x == .grantWait || x == .prefill || x == .verifyWait || x == .spare

/-- A change that sets no waiting bay to work, and fills no buffer. -/
structure Bay.Settles (f : Bay → Bay) : Prop where
  idle (b : Bay) : b.state.waits = true → (f b).state.working = false
  drained (b : Bay) : b.Drained → (f b).Drained

theorem BayState.not_working_of_waits {x : BayState} (h : x.waits = true) : x.working = false := by
  cases x <;> simp_all [waits, working]

theorem Bay.Steady.settles {f : Bay → Bay} (h : Bay.Steady f) : Bay.Settles f where
  idle b w := by
    rw [h.state]
    exact BayState.not_working_of_waits w
  drained := h.drained

/-- A relation closed under verdicts, and under the end of an operation whose drive does not work. -/
structure Judges (R : State → State → Prop) : Prop extends Decides R where
  settle {f : Bay → Bay} (n : BayId) (s : State) : (s.bay n).state.waits = true → Bay.Settles f → R s (s.modBay n f)
  loaded {x : Psc} {s : State} : s.psc.LoadedAs x → R s { s with psc := x }

/-! ### Places and drives -/

/-- A field of every record is kept, and no record is entered or deleted. -/
def State.keepsField {α : Type} (f : Disc → α) (s t : State) : Prop := ∀ d, (t.disc d).map f = (s.disc d).map f

theorem State.keepsField.discAt {s t : State} (h : s.keepsField Disc.location t) (l : Location) : t.discAt l = s.discAt l :=
  discAt_congr h

theorem State.discAt_eq_some {s : State} {l : Location} {d : DiscId} (h : s.discAt l = some d) :
    ∃ r, s.disc d = some r ∧ r.location = l := by
  unfold State.discAt at h
  have found := List.find?_some h
  cases hd : s.disc d with
  | none => simp [hd] at found
  | some r => exact ⟨r, rfl, by simpa [hd] using found⟩

theorem State.keepsField_of_discs {α : Type} {f : Disc → α} {s t : State} (h : t.discs = s.discs) :
    s.keepsField f t := fun d => by rw [State.disc, State.disc, h]

theorem State.keepsField_modDisc {α : Type} {f : Disc → α} {g : Disc → Disc} {d : DiscId} (s : State)
    (hg : ∀ r, f (g r) = f r) : s.keepsField f (s.modDisc d g) := fun c => by
  by_cases e : c = d
  · subst e
    rw [disc_modDisc_self, Option.map_map]
    exact congrArg (fun k => (s.disc c).map k) (funext hg)
  · rw [disc_modDisc_ne e]

/-- A relation that watches the records alone. -/
theorem Quiet.of_discs {R : State → State → Prop} (h : ∀ s t : State, t.discs = s.discs → R s t)
    (trans : ∀ {s t u : State}, R s t → R t u → R s u) : Quiet R where
  refl s := h s s rfl
  trans := trans
  other e := h _ _ (congrArg (fun w => w.1.1) e)
  emit _ _ := h _ _ rfl
  bay _ _ _ := h _ _ rfl
  cleared _ _ := h _ _ rfl
  unreserve _ _ _ := h _ _ rfl
  retire _ _ _ := h _ _ rfl
  rest _ _ _ := h _ _ rfl
  deliver _ _ := h _ _ rfl
  hold _ _ _ := h _ _ rfl
  live _ _ := h _ _ rfl
  terminal _ _ := h _ _ rfl
  loads _ _ := h _ _ rfl
  image _ _ _ := h _ _ rfl
  freed _ _ := h _ _ rfl
  masters _ _ := h _ _ rfl
  unreserved _ := h _ _ rfl
  ungranted _ _ := h _ _ rfl
  unwaited _ _ := h _ _ rfl
  scan s := h _ _ (by
    obtain ⟨r, ms, bs, e⟩ := s.scan_frame
    rw [e])
  closed _ _ _ := h _ _ rfl
  withdrawn _ := h _ _ rfl
  unspared _ _ := h _ _ rfl
  queue _ _ := h _ _ rfl

/-- The quiet operations leave the disc table. -/
theorem quiet_discs : Quiet (fun s t => t.discs = s.discs) := .of_discs (fun _ _ e => e) fun e e' => e'.trans e

/-- The quiet operations keep every field of a record. -/
theorem quiet_field {α : Type} (f : Disc → α) : Quiet (State.keepsField f) :=
  .of_discs (fun _ _ => State.keepsField_of_discs) fun h k d => (k d).trans (h d)

/-- Verdicts keep every field that a verdict does not write. -/
theorem judges_field {α : Type} {f : Disc → α} (hf : ∀ v r, f (Disc.decide' v r) = f r) : Judges (State.keepsField f) where
  toMild := (quiet_field f).toMild
  loaded _ := State.keepsField_of_discs rfl
  account _ _ _ _ := State.keepsField_of_discs rfl
  settle _ _ _ _ := State.keepsField_of_discs rfl
  decide v _ _ _ := State.keepsField_modDisc _ (hf v)

theorem judges_places : Judges (State.keepsField Disc.location) := judges_field fun v _ => by cases v <;> rfl

/-- No drive is set to work, and no drive is stopped. -/
structure State.Calm (s t : State) : Prop where
  idle (n : BayId) : (t.bay n).state.working = true → (s.bay n).state.working = true
  sent (m : OutMsg) : m ∈ t.sent → m ∈ s.sent ∨ m.calm

theorem State.Calm.of_frame {s t : State} (bays : t.bays = s.bays) (sent : t.sent = s.sent) : s.Calm t where
  idle n h := by rwa [State.bay, bays] at h
  sent m h := .inl (sent ▸ h)

theorem State.Calm.of_bay {s : State} {n : BayId} {f : Bay → Bay}
    (h : (f (s.bay n)).state.working = true → (s.bay n).state.working = true) : s.Calm (s.modBay n f) where
  idle k w := by
    by_cases e : k = n
    · subst e
      rw [bay_modBay_self] at w
      exact h w
    · rwa [bay_modBay_ne e] at w
  sent _ hm := .inl hm

theorem judges_calm : Judges State.Calm where
  refl _ := .of_frame rfl rfl
  trans h k :=
    { idle := fun n w => h.idle n (k.idle n w)
      sent := fun m hm => (k.sent m hm).elim (h.sent m) .inr }
  other e := .of_frame (congrArg (fun w => w.1.2.2.2) e) (congrArg (fun w => w.1.2.2.1) e)
  emit s hm :=
    { idle := fun _ w => w
      sent := fun x hx => (List.mem_append.1 hx).imp id fun e => by
        rw [List.mem_singleton.1 e]
        exact hm }
  cleared n s := .of_bay fun w => w
  unreserve n s _ := .of_bay fun w => nomatch w
  retire n s _ := .of_bay fun w => nomatch w
  settle n s waits hf := .of_bay fun w => by simp [hf.idle _ waits] at w
  deliver _ _ := .of_frame rfl rfl
  account _ _ _ _ := .of_frame rfl rfl
  hold _ _ _ := .of_frame rfl rfl
  live _ _ := .of_frame rfl rfl
  terminal _ _ := .of_frame rfl rfl
  loads _ _ := .of_frame rfl rfl
  image _ _ _ := .of_frame rfl rfl
  freed _ _ := .of_frame rfl rfl
  masters _ _ := .of_frame rfl rfl
  unreserved _ := .of_frame rfl rfl
  loaded _ := .of_frame rfl rfl
  ungranted _ _ := .of_frame rfl rfl
  unwaited _ _ := .of_frame rfl rfl
  scan s :=
    { idle := fun n w => by
        have same := congrArg Bay.state (s.scan_exceptSpeed (n := n))
        exact same ▸ w
      sent := fun m hm => (s.scan_sent m hm).imp id fun ⟨_, _, _, e⟩ => by
        rw [e]
        exact fun _ => ⟨by simp, by simp⟩ }
  closed _ _ _ := .of_frame rfl rfl
  withdrawn _ := .of_frame rfl rfl
  unspared _ _ := .of_frame rfl rfl
  queue _ _ := .of_frame rfl rfl
  decide _ _ _ _ := .of_frame rfl rfl

/-! ### The block that holds a rejected disc -/

namespace Judges
variable {R : State → State → Prop} {s : State} {n : BayId} {d : DiscId}

theorem stopArtwork (h : Judges R) (hs : s.psc.state = .loaded) : R s s.stopArtwork :=
  h.trans (h.loaded (x := { s.psc with timer := none }) ⟨hs, hs, rfl, rfl, .inl rfl, rfl⟩) h.withdrawArtwork

theorem stopArtwork_state (s : State) : s.stopArtwork.psc.state = s.psc.state := by
  unfold State.stopArtwork State.withdrawArtwork
  dsimp only
  split <;> rfl

theorem stationLeaves (h : Judges R) (hs : s.psc.state = .loaded) : R s s.stationLeaves :=
  h.trans (h.loaded (x := { s.psc with state := .loaded, step := some .leaving }) ⟨hs, rfl, rfl, rfl, .inr rfl, rfl⟩)
    h.clearFromPrinter

theorem stationOnReject (h : Judges R) : R s (s.stationOnReject d) := by
  have leaves (hs : s.psc.state = .loaded) : R s s.stopArtwork.stationLeaves :=
    h.trans (h.stopArtwork hs) (h.stationLeaves ((stopArtwork_state s).trans hs))
  unfold State.stationOnReject
  split
  next hs _ => exact leaves hs
  next hs _ => exact leaves hs
  next hs _ => exact h.stationLeaves hs
  next hs _ => exact h.stationLeaves hs
  · exact h.rerouteQueued
  · exact h.rerouteQueued
  · exact h.clearFromPrinter
  all_goals exact h.refl s

theorem bayTo (h : Judges R) (waits : (s.bay n).state.waits = true) {x : BayState} (hx : x.working = false) :
    R s (s.bayTo n x) :=
  h.settle n s waits ⟨fun _ _ => hx, fun _ hd => ⟨hd.1, hd.2, hd.3, hd.4⟩⟩

/-- The operation of a bay whose drive does not work ends early. -/
theorem endEarly (h : Judges R) {abort : Bool} (waits : (s.bay n).state.waits = true) : R s (s.endEarly n abort) := by
  have still : ((s.teardown n abort).bay n).state.waits = true := by
    rw [State.bay_teardown]
    exact waits
  have torn : R s (s.teardown n abort) := by
    unfold State.teardown
    rw [BayState.not_working_of_waits waits, Bool.and_false]
    refine h.trans h.withdraw (h.settle n _ ?_ ⟨fun _ => BayState.not_working_of_waits, fun _ _ => ⟨rfl, rfl, rfl, rfl⟩⟩)
    rw [State.state_withdraw]
    exact waits
  exact h.trans torn (h.trans (h.bayTo still rfl) h.clearFromBay)

/-- A bay whose drive does not work takes the reject of its disc. -/
theorem bayOnReject (h : Judges R) (idle : (s.bay n).state.working = false) : R s (s.bayOnReject n d) := by
  unfold State.bayOnReject
  split
  case h_9 => exact h.rerouteQueued
  case h_10 => exact h.clearFromBay
  case h_11 => exact h.refl s
  all_goals
    rename_i e
    exact h.endEarly (by rw [e] at idle ⊢; simp_all [BayState.working, BayState.waits])

theorem holderOnReject (h : Judges R)
    (hp : ∀ l, (s.disc d).map Disc.location = some l → l ≠ .arm ∧ ∀ m, l = .bay m → (s.bay m).state.working = false) :
    R s (s.holderOnReject d) := by
  unfold State.holderOnReject
  split
  next m hm => exact h.bayOnReject ((hp _ hm).2 m rfl)
  next => exact h.stationOnReject
  next hm => exact absurd rfl (hp _ hm).1
  next => exact h.refl s

/-- The cancellation of a disc that is not at the arm, and at no bay whose drive works. -/
theorem cancelDisc (h : Judges R)
    (hp : ∀ l, (s.disc d).map Disc.location = some l → l ≠ .arm ∧ ∀ m, l = .bay m → (s.bay m).state.working = false) :
    R s (s.cancelDisc d) := by
  refine h.ite (h.trans (h.writeVerdict rfl) (h.holderOnReject fun l hl => ?_))
  rw [judges_places.writeVerdict rfl d] at hl
  refine ⟨(hp l hl).1, fun m hm => ?_⟩
  have idle := (hp l hl).2 m hm
  refine Bool.eq_false_iff.2 fun w => ?_
  have := (judges_calm.writeVerdict rfl).idle m w
  simp [idle] at this

theorem endSpareHold (h : Judges R) (idle : (s.bay n).state.working = false) : R s (s.endSpareHold n) := by
  have held : R s (s.setSpareHold n none) := h.unspared n s
  unfold State.endSpareHold
  dsimp only
  split
  next d hd =>
    split
    · refine h.trans held (h.cancelDisc fun l hl => ?_)
      obtain ⟨r, hr, at_⟩ := State.discAt_eq_some hd
      obtain rfl : Location.bay n = l := by simpa [hr, at_] using hl
      refine ⟨by simp, fun m hm => ?_⟩
      cases hm
      exact idle
    · exact held
  next => exact held

theorem bayToSpare (h : Judges R) (waits : (s.bay n).state.waits = true) : R s (s.bayToSpare n) := by
  have entered : R s (s.bayTo n .spare) := h.bayTo waits rfl
  refine h.trans (h.trans entered (h.ite (h.endSpareHold ?_))) h.dueBoth
  rw [State.bayTo, State.bay_modBay_self]
  rfl

/-- What follows once the record of a blank is a spare's (R123, R26). -/
theorem spareMade (h : Judges R) :
    R ((s.modDisc d (fun r => { r with purpose := .spare, job := none, attempt := none })).setSpareHold n
      (some Config.spareHoldMs)) (s.makeSpare d n) := by
  have entered (u : State) : R u (match (u.bay n).state with
      | .grantWait | .prefill => (u.stopForSpare n).bayToSpare n
      | _ => u) := by
    have stops (hs : (u.bay n).state.waits = true) : R u ((u.stopForSpare n).bayToSpare n) := by
      have stopped : R u (u.stopForSpare n) := by
        refine h.trans h.withdraw (h.settle n _ ?_ ?_)
        · rw [State.state_withdraw]
          exact hs
        · exact ⟨fun _ => BayState.not_working_of_waits, fun _ hd => ⟨hd.1, rfl, hd.3, hd.4⟩⟩
      refine h.trans stopped (h.bayToSpare ?_)
      rw [State.state_stopForSpare]
      exact hs
    split
    next e => exact stops (by rw [e]; rfl)
    next e => exact stops (by rw [e]; rfl)
    · exact h.refl u
  have tested (u : State) : R u (match (s.disc d).bind Disc.job with
      | some j => (u.terminalTest j).dueBoth
      | none => u.dueBoth) := by
    split
    · exact h.trans h.terminalTest h.dueBoth
    · exact h.dueBoth
  unfold State.makeSpare
  exact h.trans (entered _) (tested _)

end Judges

/-- A relation closed under a request for a grant too (R78). -/
structure Requests (R : State → State → Prop) : Prop extends Quiet R, Decides R where
  request (w : WaitEntry) (s : State) : R s { s with rgu.queue := s.rgu.queue ++ [w] }

namespace Requests
variable {R : State → State → Prop} {s : State} {n : BayId} {d : DiscId}

theorem requestGrant (h : Requests R) {w : WaitEntry} : R s (s.requestGrant w) :=
  h.trans (h.trans (h.trans h.removeGrant (h.unwaited _ _)) (h.request w _)) (h.scan _)

theorem towardGrant (h : Requests R) {k : GrantKind} : R s (s.towardGrant n k) := by
  unfold State.towardGrant
  split
  · split
    · exact h.trans (h.writeVerdict rfl) h.hold'
    · split
      · exact h.trans (h.bayTo rfl) h.requestGrant
      · exact h.trans (h.bayTo rfl) h.requestGrant
  · exact h.refl s

theorem stepDone (h : Requests R) : R s (s.stepDone n d) := by
  unfold State.stepDone
  split
  · split
    · exact h.towardGrant
    · exact h.hold'
    · exact h.trans h.verdict_none h.hold'
  · exact h.refl s

end Requests

/-! ### Drains that stop no drive -/

/-- A relation closed under the making of a spare too (R44). -/
structure Drains (R : State → State → Prop) : Prop extends Judges R where
  spare {d : DiscId} {r : Disc} {s : State} : s.disc d = some r → r.verdict = .pending →
    R s (s.modDisc d (fun r => { r with purpose := .spare, job := none, attempt := none }))
  spared (n : BayId) (s : State) : R s (s.setSpareHold n (some Config.spareHoldMs))

namespace Drains
variable {R : State → State → Prop} {s : State} {n : BayId} {d : DiscId}

theorem makeSpare (h : Drains R) {r : Disc} (hr : s.disc d = some r) (hp : r.verdict = .pending) : R s (s.makeSpare d n) :=
  h.trans (h.trans (h.spare hr hp) (h.spared n _)) h.spareMade

theorem drainDisc (h : Drains R) : R s (s.drainDisc false d) := by
  unfold State.drainDisc
  split
  next r hr =>
    split
    next hp =>
      split
      next => exact h.refl s
      next hl =>
        split
        · exact h.refl s
        · refine h.ite (h.cancelDisc fun l e => ?_)
          obtain rfl : .printer = l := by simpa [hr, hl] using e
          exact ⟨by simp, by simp⟩
      next m hl =>
        split
        · exact h.makeSpare hr hp
        · exact h.refl s
    next => exact h.refl s
  next => exact h.refl s

theorem drainDiscs (h : Drains R) {j : Nat} : R s (s.drainDiscs j false) := h.each _ s fun _ _ => h.ite h.drainDisc

end Drains

/-- A relation closed under the start of a drain and a rise of a fault count too (R34, R14, R127). -/
structure Verdicts (R : State → State → Prop) : Prop extends Drains R where
  drain (n : Nat) (k : DrainKind) (s : State) : R s (s.modJob n (fun x => { x with drain := some k, state := .draining }))
  blame {f : Bay → Bay} (n : BayId) (s : State) : Bay.faulty f → R s (s.modBay n f)

namespace Verdicts
variable {R : State → State → Prop} {s : State} {n : BayId} {d : DiscId}

theorem raiseFaults (h : Verdicts R) : R s (s.raiseFaults n) := h.raiseFaults_of_blame fun _ t => h.blame n t

theorem startDrain (h : Verdicts R) {j : Nat} {k : DrainKind} (hk : k ≠ .hard) : R s (s.startDrain j k) := by
  unfold State.startDrain
  rw [decide_eq_false hk]
  exact h.trans (h.trans (h.trans (h.trans (h.drain j k s) (h.each _ _ fun _ _ => h.dropLoad)) h.drainDiscs)
    h.terminalTest) h.duePass

theorem verdict (h : Verdicts R) {v : Option RejectCause} : R s (s.verdict d v) := by
  unfold State.verdict
  split
  · refine h.ite ?_
    dsimp only
    split
    · split
      · exact h.trans (h.writeVerdict_of_raised fun _ _ _ _ _ => h.raiseFaults) (h.startDrain (by decide))
      · exact h.writeVerdict_of_raised fun _ _ _ _ _ => h.raiseFaults
    · exact h.writeVerdict_of_raised fun _ _ _ _ _ => h.raiseFaults
  · exact h.refl s

end Verdicts

/-- A relation closed under verdicts, drains and a bay's coming to rest. -/
structure Ends (R : State → State → Prop) : Prop extends Quiet R, Verdicts R

namespace Ends
variable {R : State → State → Prop} {s : State} {n : BayId} {d : DiscId}

theorem verifyReject (h : Ends R) {c : RejectCause} : R s (s.verifyReject n d c) :=
  h.trans (h.trans h.verdict h.leaveVerify) h.hold'

end Ends

/-! ### What these operations keep -/

/-- A record with a final verdict stays as it is. -/
def State.keepsFinal (s t : State) : Prop := ∀ d r, s.disc d = some r → r.verdict ≠ .pending → t.disc d = some r

theorem State.keepsFinal_modDisc {d : DiscId} {r : Disc} {f : Disc → Disc} {s : State} (hr : s.disc d = some r)
    (hp : r.verdict = .pending) : s.keepsFinal (s.modDisc d f) := fun c x hx hv => by
  have ne : c ≠ d := by
    rintro rfl
    rw [hr] at hx
    cases hx
    exact hv hp
  rw [disc_modDisc_ne ne, hx]

theorem quiet_final : Quiet State.keepsFinal :=
  .of_discs (fun s t e d r hr _ => by rw [State.disc, e]; exact hr) fun h k d r hr hv => k d r (h d r hr hv) hv

theorem ends_final : Ends State.keepsFinal where
  toQuiet := quiet_final
  loaded _ := fun _ _ hr _ => hr
  account _ _ _ _ := fun _ _ hr _ => hr
  blame _ _ _ := fun _ _ hr _ => hr
  settle _ _ _ _ := fun _ _ hr _ => hr
  decide _ _ := State.keepsFinal_modDisc
  drain _ _ _ := fun _ _ hr _ => hr
  spare := State.keepsFinal_modDisc
  spared _ _ := fun _ _ hr _ => hr

theorem ends_calm : Ends State.Calm where
  toJudges := judges_calm
  bay n s hf := .of_bay fun w => by rwa [hf.state] at w
  blame n s hf := .of_bay fun w => by rwa [hf.steady.state] at w
  rest n s hf := .of_bay fun w => by simp [hf.idle] at w
  drain _ _ _ := .of_frame rfl rfl
  spare _ _ := .of_frame rfl rfl
  spared _ _ := .of_frame rfl rfl

/-- Verdicts and drains queue no request for a grant. -/
theorem ends_waits (n : BayId) : Ends (fun s t => s.waits n = false → t.waits n = false) where
  refl _ h := h
  trans h k w := k (h w)
  other e h := by
    have same := congrArg (fun w => w.2.2.2.2.1) e
    exact (congrArg (fun r : Rgu => r.queue.any (fun w => w.bay == n)) same).trans h
  emit _ _ h := h
  bay _ _ _ h := h
  cleared _ _ h := h
  blame _ _ _ h := h
  unreserve _ _ _ h := h
  retire _ _ _ h := h
  rest _ _ _ h := h
  settle _ _ _ _ h := h
  deliver _ _ h := h
  account _ _ _ _ h := h
  hold _ _ _ h := h
  live _ _ h := h
  terminal _ _ h := h
  loads _ _ h := h
  image _ _ _ h := h
  freed _ _ h := h
  masters _ _ h := h
  unreserved _ h := h
  loaded _ h := h
  ungranted _ _ h := h
  unwaited m s h := by
    rw [State.waits_eq_false] at h ⊢
    exact fun w hw => h w (List.mem_filter.1 hw).1
  scan s h := (State.scan_of_not_waits h).2.2
  closed _ _ _ h := h
  withdrawn _ h := h
  unspared _ _ h := h
  queue _ _ h := h
  decide _ _ _ _ h := h
  drain _ _ _ h := h
  spare _ _ h := h
  spared _ _ h := h

/-! ### A bay that keeps its state -/

/-- The states in which a bay works on a disc or waits to (R119). -/
def BayState.operates (x : BayState) : Bool := x.working || x.waits

theorem BayState.not_vacant_of_operates {x : BayState} (h : x.operates = true) : ¬ x.vacant := by
  rintro (e | e | e) <;> simp [e, BayState.operates, BayState.working, BayState.waits] at h

/-- What holds of a bay whose state no mild operation vacates, whatever its fault count and its speed exchange, goes on
holding through verdicts. -/
theorem State.decides_of_bay (n : BayId) {P : Bay → Prop} (fixed : ∀ b, P b → ¬ b.state.vacant)
    (faults : ∀ b, P b → P { b with faults := 0 }) (speed : ∀ b b', b'.exceptSpeed = b.exceptSpeed → P b → P b') :
    Decides (fun s t => P (s.bay n) → P (t.bay n)) where
  refl _ h := h
  trans h k w := k (h w)
  other {s t} e h := by
    have same : t.bay n = s.bay n := congrArg (fun w => w.1.2.2.2[n]) e
    rwa [same]
  emit _ _ h := h
  cleared m s h := by
    by_cases e : n = m
    · subst e
      rw [bay_modBay_self]
      exact faults _ h
    · rwa [bay_modBay_ne e]
  unreserve m s hv h := by
    by_cases e : n = m
    · subst e
      exact absurd (.inr (.inl hv)) (fixed _ h)
    · rwa [bayTo, bay_modBay_ne e]
  retire m s hv h := by
    by_cases e : n = m
    · subst e
      exact absurd hv.vacant (fixed _ h)
    · rwa [bay_modBay_ne e]
  deliver _ _ h := h
  account _ _ _ _ h := h
  hold _ _ _ h := h
  live _ _ h := h
  terminal _ _ h := h
  loads _ _ h := h
  image _ _ _ h := h
  freed _ _ h := h
  masters _ _ h := h
  unreserved _ h := h
  ungranted _ _ h := h
  unwaited _ _ h := h
  scan s h := speed _ _ (State.scan_exceptSpeed ..) h
  closed _ _ _ h := h
  withdrawn _ h := h
  unspared _ _ h := h
  queue _ _ h := h
  decide _ _ _ _ h := h

/-- A bay whose state no mild operation vacates keeps it through verdicts. -/
theorem State.decides_state (n : BayId) {x : BayState} (hx : ¬ x.vacant) :
    Decides (fun s t => (s.bay n).state = x → (t.bay n).state = x) :=
  decides_of_bay n (P := fun b => b.state = x) (fun _ h => by rwa [h]) (fun _ h => h)
    (fun _ _ e h => (congrArg Bay.state e).trans h)

section
variable {s : State} {n : BayId} {d : DiscId} {r : Disc} {v : Option RejectCause}

theorem State.writeVerdict_of_pending (hr : s.disc d = some r) (hp : r.verdict = .pending) :
    s.writeVerdict d v = ((s.modDisc d (Disc.decide' v)).stopSpareHold r).handResult r v := by
  rw [writeVerdict, hr]
  exact if_pos hp

theorem State.writeVerdict_of_final (hr : s.disc d = some r) (hp : r.verdict ≠ .pending) : s.writeVerdict d v = s := by
  rw [writeVerdict, hr]
  exact if_neg hp

/-- A verdict is written to one record and to no other. -/
theorem State.writeVerdict_discs (hr : s.disc d = some r) (hp : r.verdict = .pending) :
    (s.writeVerdict d v).discs = (s.modDisc d (Disc.decide' v)).discs := by
  rw [writeVerdict_of_pending hr hp]
  refine quiet_discs.trans (quiet_discs.stopSpareHold (r := r)) ?_
  cases hk : r.job with
  | none => exact quiet_discs.handResult_of_none (fun _ _ _ _ _ => quiet_discs.raiseFaults) hk
  | some k => exact quiet_discs.handResult_of_job (fun _ _ _ _ _ => quiet_discs.raiseFaults) hk

theorem State.disc_writeVerdict (hr : s.disc d = some r) (hp : r.verdict = .pending) :
    (s.writeVerdict d v).disc d = some (r.decide' v) := by
  rw [State.disc, writeVerdict_discs hr hp]
  exact (disc_modDisc_self ..).trans (congrArg (Option.map _) hr)

theorem State.disc_writeVerdict_ne {c : DiscId} (h : c ≠ d) : (s.writeVerdict d v).disc c = s.disc c := by
  cases hr : s.disc d with
  | none => rw [writeVerdict, hr]
  | some r =>
    by_cases hp : r.verdict = .pending
    · rw [State.disc, writeVerdict_discs hr hp]
      exact disc_modDisc_ne h _ _
    · rw [writeVerdict_of_final hr hp]

theorem Disc.decide'_final (v : Option RejectCause) (r : Disc) : (r.decide' v).verdict ≠ .pending := by
  cases v <;> simp [Disc.decide']

/-- A record keeps the verdict written to it through all that follows. -/
theorem State.disc_verdict (hr : s.disc d = some r) (hp : r.verdict = .pending) :
    (s.verdict d v).disc d = some (r.decide' v) := by
  have written := disc_writeVerdict (v := v) hr hp
  rw [State.verdict, hr]
  dsimp only
  rw [if_pos hp]
  split
  · split
    · exact ends_final.startDrain (by decide) d _ written (r.decide'_final _)
    · exact written
  · exact written

end

end Sys2Proof.Machine
end

section
/-! PROOFS. What the end of an operation leaves of its bay (R117 to R119), and BURN-ERROR (O46). -/

namespace Sys2Proof.Machine

namespace State
variable {s : State} {n : BayId}

/-! ### HOLDING with a CLEAR -/

theorem clearFromBay_frame (n : BayId) (s : State) : ∃ q u, s.clearFromBay n = { s with tsq.queue := q, due := u } := by
  unfold clearFromBay
  split
  · split
    · unfold queueClear
      split
      · exact ⟨s.tsq.queue, s.due, rfl⟩
      · exact ⟨_, _, rfl⟩
    · exact ⟨s.tsq.queue, s.due, rfl⟩
  · exact ⟨s.tsq.queue, s.due, rfl⟩

theorem hold_frame (n : BayId) (s : State) : ∃ q u, s.hold n = { s.bayTo n .holding with tsq.queue := q, due := u } :=
  clearFromBay_frame n (s.bayTo n .holding)

theorem hold_discs : (s.hold n).discs = s.discs := by
  obtain ⟨q, u, h⟩ := hold_frame n s
  rw [h]
  rfl

theorem hold_sent : (s.hold n).sent = s.sent := by
  obtain ⟨q, u, h⟩ := hold_frame n s
  rw [h]
  rfl

theorem hold_grant : (s.hold n).grant n = s.grant n := by
  obtain ⟨q, u, h⟩ := hold_frame n s
  rw [h]
  rfl

theorem bay_hold : (s.hold n).bay n = { s.bay n with state := .holding } := by
  obtain ⟨q, u, h⟩ := hold_frame n s
  rw [h]
  refine (show _ = (s.bayTo n .holding).bay n from rfl).trans ?_
  rw [bayTo, bay_modBay_self]

/-! ### Messages sent stay sent -/

/-- What has been sent stays sent. -/
theorem ends_sent : Ends (fun s t => s.sent <+: t.sent) where
  refl s := List.prefix_refl _
  trans h k := h.trans k
  other e := by
    have same := congrArg (fun w => w.1.2.2.1) e
    exact ⟨[], (List.append_nil _).trans same.symm⟩
  emit _ _ := List.prefix_append _ _
  bay _ _ _ := List.prefix_refl _
  cleared _ _ := List.prefix_refl _
  blame _ _ _ := List.prefix_refl _
  unreserve _ _ _ := List.prefix_refl _
  retire _ _ _ := List.prefix_refl _
  rest _ _ _ := List.prefix_refl _
  settle _ _ _ _ := List.prefix_refl _
  deliver _ _ := List.prefix_refl _
  account _ _ _ _ := List.prefix_refl _
  hold _ _ _ := List.prefix_refl _
  live _ _ := List.prefix_refl _
  terminal _ _ := List.prefix_refl _
  loads _ _ := List.prefix_refl _
  image _ _ _ := List.prefix_refl _
  freed _ _ := List.prefix_refl _
  masters _ _ := List.prefix_refl _
  unreserved _ := List.prefix_refl _
  loaded _ := List.prefix_refl _
  ungranted _ _ := List.prefix_refl _
  unwaited _ _ := List.prefix_refl _
  scan s := by
    obtain ⟨r, ms, bs, h⟩ := s.scan_frame
    rw [h]
    exact List.prefix_append _ _
  closed _ _ _ := List.prefix_refl _
  withdrawn _ := List.prefix_refl _
  unspared _ _ := List.prefix_refl _
  queue _ _ := List.prefix_refl _
  decide _ _ _ _ := List.prefix_refl _
  drain _ _ _ := List.prefix_refl _
  spare _ _ := List.prefix_refl _
  spared _ _ := List.prefix_refl _

/-! ### A withdrawal -/

theorem withdraw_grant (h : s.waits n = false) : (s.withdraw n).grant n = none := by
  unfold withdraw
  split
  next hg =>
    have gone : (s.removeGrant n).grant n = none := by
      obtain ⟨g, hg⟩ := Option.isSome_iff_exists.1 hg
      unfold removeGrant
      rw [hg]
      dsimp only
      split
      · obtain ⟨f, m, e⟩ := closeStream_frame n (s.setGrant n none)
        rw [e]
        exact grant_setGrant_self ..
      · exact grant_setGrant_self ..
    have waits : (s.removeGrant n).waits n = false := (ends_waits n).removeGrant h
    exact (scan_of_not_waits waits).2.1.trans gone
  next hg =>
    rw [if_neg (by simp [h])]
    simpa using hg

/-! ### The teardown -/

theorem teardown_discs {abort : Bool} : (s.teardown n abort).discs = s.discs := by
  unfold teardown
  dsimp only
  split
  · exact quiet_discs.withdraw (s := s.toBay n .abort)
  · exact quiet_discs.withdraw (s := s)

theorem teardown_sent {abort : Bool} : (if abort && (s.bay n).state.working then s.toBay n .abort else s).sent <+:
    (s.teardown n abort).sent := ends_sent.withdraw

theorem teardown_grant {abort : Bool} (h : s.waits n = false) : (s.teardown n abort).grant n = none := by
  unfold teardown
  refine withdraw_grant ?_
  split <;> exact h

theorem bay_endEarly {abort : Bool} : (s.endEarly n abort).bay n = { (s.bay n).quiet with state := .holding } :=
  bay_hold.trans (congrArg (fun b : Bay => { b with state := .holding }) bay_teardown)

theorem endEarly_discs {abort : Bool} : (s.endEarly n abort).discs = s.discs := hold_discs.trans teardown_discs

theorem endEarly_grant {abort : Bool} (h : s.waits n = false) : (s.endEarly n abort).grant n = none :=
  hold_grant.trans (teardown_grant h)

/-- The teardown of a bay at work sends ABORT. -/
theorem abort_mem_endEarly (h : (s.bay n).state.working = true) : .bay n .abort ∈ (s.endEarly n true).sent := by
  rw [endEarly, hold_sent]
  refine teardown_sent.subset ?_
  rw [if_pos (by simp [h])]
  exact List.mem_append_right _ (List.mem_singleton.2 rfl)

theorem disc_congr {t : State} {d : DiscId} (h : t.discs = s.discs) : t.disc d = s.disc d := by
  rw [disc, disc, h]

end State

open State

/-- Settles O46: the verdict of the drive's own error is followed by no ABORT. -/
theorem burnErrorRejectsTheDisc : Obligations.BurnErrorRejectsTheDisc := by
  intro s n code
  refine ⟨fun hw hc => ?discarded, ?rejected, fun _ => rfl⟩
  case discarded =>
    refine exec_event rfl ?_ rfl
    split
    next h => exact absurd h hw
    next h => exact absurd h hc
    next => rfl
  case rejected =>
    intro d hs hd u
    have calm : s.begin.Calm u := ends_calm.trans ends_calm.verdict (ends_calm.endEarly rfl)
    have bay : u.bay n = { ((s.begin.verdict d (some .writeFailed)).bay n).quiet with state := .holding } := bay_endEarly
    have rejects : s.begin.bayReject n .writeFailed false = u := by
      have at_ : s.begin.discAt (.bay n) = some d := hd
      rw [bayReject, at_]
    have runs : exec (.burnError n code) s = .next u.settle := by
      refine congrArg (fun t : State => Host.Outcome.next t.settle) (Eq.trans ?_ rejects)
      split
      next => rfl
      next => rfl
      next hw hc => rcases hs with h | h <;> contradiction
    refine ⟨runs, fun sent => ?_, by rw [bay], by rw [bay]; rfl, by rw [bay]; rfl, by rw [bay]; rfl, by rw [bay]; rfl,
      by rw [bay]; rfl, by rw [bay]; rfl, by rw [bay]; rfl, fun waits => ?_, fun r hr hp => ?_⟩
    · rcases calm.sent _ sent with h | h
      · simp at h
      · exact (h n).1 rfl
    · exact endEarly_grant ((ends_waits n).verdict waits)
    · have rejected : u.disc d = some (r.decide' (some .writeFailed)) :=
        (disc_congr endEarly_discs).trans (disc_verdict (s := s.begin) hr hp)
      rw [rejected]
      exact ⟨rfl, rfl⟩

end Sys2Proof.Machine
end

section
/-! PROOFS. The compare engine: what a judgement, the end of a verify and giving up do (R138 to R146). -/

namespace Sys2Proof.Machine

/-- The bay at the start of a retry (R144). -/
def Bay.retries (b : Bay) : Bay :=
  { b with
    holding := []
    engine := { b.engine with readPos := b.engine.comparePos, retryAttempt := 1, retryMatched := false, held := false } }

namespace State
variable {s : State} {n : BayId} {d : DiscId} {r : Disc} {v : VerifyCtx} {e : HeldBlock} {x : FeedBlock}

/-! ### Leaving a verify -/

theorem bay_leaveVerify :
    ∃ b : Bay, (s.leaveVerify n).bay n = { b with fifo := [], holding := [], timers.read := none, engine := {} } :=
  ⟨(s.withdraw n).bay n, bay_modBay_self ..⟩

theorem leaveVerify_drained : ((s.leaveVerify n).bay n).Drained := by
  obtain ⟨b, h⟩ := s.bay_leaveVerify (n := n)
  rw [h]
  exact ⟨rfl, rfl, rfl, rfl⟩

theorem leaveVerify_discs : (s.leaveVerify n).discs = s.discs := quiet_discs.leaveVerify

theorem drained_modBay {m : BayId} {f : Bay → Bay} (hf : ∀ b : Bay, b.Drained → (f b).Drained)
    (h : (s.bay n).Drained) : ((s.modBay m f).bay n).Drained := by
  by_cases e : n = m
  · subst e
    rw [bay_modBay_self]
    exact hf _ h
  · rwa [bay_modBay_ne e]

/-- Operations that only ask for grants and write verdicts leave an empty bay empty. -/
theorem requests_drained (n : BayId) : Requests (fun s t => (s.bay n).Drained → (t.bay n).Drained) where
  refl _ h := h
  trans h k w := k (h w)
  other {s t} e h := by
    have same : t.bay n = s.bay n := congrArg (fun w => w.1.2.2.2[n]) e
    rwa [same]
  emit _ _ h := h
  bay m s hf := drained_modBay hf.drained
  cleared m s := drained_modBay (by exact fun _ hd => ⟨hd.1, hd.2, hd.3, hd.4⟩)
  unreserve m s _ := drained_modBay (by exact fun _ hd => ⟨hd.1, hd.2, hd.3, hd.4⟩)
  retire m s _ := drained_modBay (by exact fun _ hd => ⟨hd.1, hd.2, hd.3, rfl⟩)
  rest m s hf := drained_modBay hf.drained
  deliver _ _ h := h
  account _ _ _ _ h := h
  hold _ _ _ h := h
  live _ _ h := h
  terminal _ _ h := h
  loads _ _ h := h
  image _ _ _ h := h
  freed _ _ h := h
  masters _ _ h := h
  unreserved _ h := h
  ungranted _ _ h := h
  unwaited _ _ h := h
  scan s h := by
    have same := s.scan_exceptSpeed (n := n)
    exact ⟨(congrArg Bay.engine same).trans h.engine, (congrArg Bay.fifo same).trans h.fifo,
      (congrArg Bay.holding same).trans h.holding, (congrArg (fun b => b.timers.read) same).trans h.read⟩
  closed _ _ _ h := h
  withdrawn _ h := h
  unspared _ _ h := h
  queue _ _ h := h
  decide _ _ _ _ h := h
  request _ _ h := h

theorem hold_drained (h : (s.bay n).Drained) : ((s.hold n).bay n).Drained := (requests_drained n).hold' h

/-- A verify that ends with a reject (R146, R117). -/
theorem verifyReject_ends {c : RejectCause} (hr : s.disc d = some r) (hp : r.verdict = .pending) :
    (s.verifyReject n d c).verifyOver n ∧ (s.verifyReject n d c).rejectedAt n d c ∧
      (s.verifyReject n d c).disc d = some (r.decide' (some c)) := by
  have drained : ((s.verifyReject n d c).bay n).Drained := hold_drained leaveVerify_drained
  have written : (s.verifyReject n d c).disc d = some (r.decide' (some c)) :=
    (disc_congr (hold_discs.trans leaveVerify_discs)).trans (disc_verdict hr hp)
  refine ⟨⟨drained.engine, drained.fifo, drained.holding, drained.read⟩, ⟨?_, ?_, ?_⟩, written⟩
  · exact congrArg Bay.state bay_hold
  · rw [written]; rfl
  · rw [written]; rfl

theorem stepDone_of_none (hr : s.disc d = some r) (h : s.nextStepOf d = none) :
    s.stepDone n d = (s.verdict d none).hold n := by
  have none_left : (s.jobOf r).bind (fun j => nextStep j r) = none := by
    rw [nextStepOf, hr] at h
    exact h
  rw [stepDone, hr]
  dsimp only
  rw [none_left]

/-- The next step of a disc goes by its record and the job table. -/
theorem nextStepOf_congr {t : State} (hd : t.disc d = s.disc d) (hj : t.jsc.jobs = s.jsc.jobs) :
    t.nextStepOf d = s.nextStepOf d := by
  rw [nextStepOf, nextStepOf, hd]
  refine congrArg ((s.disc d).bind ·) (funext fun r => ?_)
  rw [jobOf, jobOf]
  refine congrArg (fun j => (r.job.bind j).bind fun j => nextStep j r) (funext fun k => ?_)
  rw [job?, job?, hj]

theorem leaveVerify_jobs : (s.leaveVerify n).jsc = s.jsc := by
  obtain ⟨r, f, m, ms, bs, h⟩ := withdraw_frame n s
  rw [leaveVerify, h]
  rfl

/-- A verify that has been entered in a record stays entered. -/
theorem requests_verified : Requests (keepsField fun r => r.steps.verify) where
  toQuiet := quiet_field _
  account _ _ _ _ := keepsField_of_discs rfl
  decide := (judges_field fun v _ => by cases v <;> rfl).decide
  request _ _ := keepsField_of_discs rfl

/-- A verify that ends with a pass (R146, R117, R11). -/
theorem verifyPass_ends (hr : s.disc d = some r) (hp : r.verdict = .pending) :
    (s.verifyPass n d).verifyOver n ∧ ((s.verifyPass n d).disc d).map (fun r => r.steps.verify) = some true ∧
      ((s.modDisc d (fun r => { r with steps.verify := true })).nextStepOf d = none →
        ((s.verifyPass n d).bay n).state = .holding ∧ ((s.verifyPass n d).disc d).map Disc.verdict = some .good) := by
  have entered : (s.enterStep d .verify).disc d = some { r with steps.verify := true } :=
    (disc_modDisc_self ..).trans (congrArg (Option.map _) hr)
  have left : ((s.enterStep d .verify).leaveVerify n).disc d = some { r with steps.verify := true } :=
    (disc_congr leaveVerify_discs).trans entered
  have drained : ((s.verifyPass n d).bay n).Drained := (requests_drained n).stepDone leaveVerify_drained
  refine ⟨⟨drained.engine, drained.fifo, drained.holding, drained.read⟩, ?_, fun none_left => ?_⟩
  · have kept := requests_verified.stepDone (s := (s.enterStep d .verify).leaveVerify n) (n := n) (d := d) d
    rw [left] at kept
    exact kept
  · have next : ((s.enterStep d .verify).leaveVerify n).nextStepOf d = none :=
      (nextStepOf_congr (disc_congr leaveVerify_discs) (by rw [leaveVerify_jobs])).trans none_left
    rw [verifyPass, stepDone_of_none left next]
    refine ⟨congrArg Bay.state bay_hold, ?_⟩
    rw [disc_congr hold_discs, disc_verdict left hp]
    rfl

/-! ### The end of a verify -/

theorem endTest_of_open (h : (s.bay n).engine.comparePos < v.stop ∨ (s.bay n).holding ≠ []) : s.endTest n v = s := by
  unfold endTest
  dsimp only
  rw [if_neg (by rintro ⟨le, empty⟩; rcases h with h | h; exacts [absurd h (Nat.not_lt.2 le), h empty])]

section
variable (hr : s.disc v.disc = some r) (whole : v.stop ≤ (s.bay n).engine.comparePos) (empty : (s.bay n).holding = [])
include hr whole empty

theorem endTest_of_result {c : RejectCause} (hv : verifyResult v r = some c) :
    s.endTest n v = s.verifyReject n v.disc c := by
  unfold endTest
  dsimp only
  rw [if_pos ⟨whole, empty⟩, hr, Option.bind_some, hv]

theorem endTest_of_pass (hv : verifyResult v r = none) : s.endTest n v = s.verifyPass n v.disc := by
  unfold endTest
  dsimp only
  rw [if_pos ⟨whole, empty⟩, hr, Option.bind_some, hv]

/-- The verify that has judged every block ends with its result (R146). -/
theorem endTest_ends (hp : r.verdict = .pending) : s.verifyJudged (s.endTest n v) n v r := by
  by_cases hm : r.mismatches = 0
  · by_cases marginal : v.mode = .retry ∧ v.limit ≠ Config.unlimited ∧ v.limit < r.marginals
    · rw [endTest_of_result hr whole empty (c := .marginal) (by rw [verifyResult, if_neg (by simp [hm]), if_pos marginal])]
      obtain ⟨idle, rejected, -⟩ := verifyReject_ends (n := n) (c := .marginal) hr hp
      refine ⟨idle, fun h => absurd hm h, fun _ _ _ _ => rejected, fun _ h => ?_⟩
      obtain ⟨mode, limit, lt⟩ := marginal
      rcases h with h | h | h
      · exact absurd mode h
      · exact absurd h limit
      · omega
    · rw [endTest_of_pass hr whole empty (by rw [verifyResult, if_neg (by simp [hm]), if_neg marginal])]
      obtain ⟨idle, entered, good⟩ := verifyPass_ends (n := n) hr hp
      exact ⟨idle, fun h => absurd hm h, fun _ mode limit lt => absurd ⟨mode, limit, lt⟩ marginal,
        fun _ _ => ⟨entered, good⟩⟩
  · rw [endTest_of_result hr whole empty (c := .verifyFailed) (by rw [verifyResult, if_pos hm])]
    obtain ⟨idle, rejected, -⟩ := verifyReject_ends (n := n) (c := .verifyFailed) hr hp
    exact ⟨idle, fun _ => rejected, fun h => absurd h hm, fun h => absurd h hm⟩

end

/-! ### Judgements -/

theorem judgesEqual_iff {pos : Nat} : judgesEqual pos e x = true ↔ e.index = pos ∧ e.status = .ok ∧ e.data = x.data := by
  simp [judgesEqual, and_assoc]

theorem judgesEqual_eq_false {pos : Nat} (h : e.index ≠ pos ∨ e.status ≠ .ok ∨ e.data ≠ x.data) :
    judgesEqual pos e x = false := by
  rw [Bool.eq_false_iff, Ne, judgesEqual_iff]
  tauto

/-- A bay whose image block at the head has been judged: the compare position has moved on (R138). -/
def passHead (v : VerifyCtx) (b : Bay) : Bay :=
  { b with
    fifo := b.fifo.drop 1
    engine := { b.engine with comparePos := nextInVerifySet v.sampleK v.stop b.engine.comparePos } }

theorem advance_eq : s.advance n v = s.modBay n (passHead v) := rfl

theorem readGo_of_free (h : (s.bay n).engine.held = false) : s.readGo n = s := by
  unfold readGo
  dsimp only
  rw [if_neg (by simp [h])]

theorem readGo_of_other (h : (s.bay n).engine.phase ≠ .reading) : s.readGo n = s := by
  unfold readGo
  dsimp only
  rw [if_neg (fun k => h k.2.1)]

theorem readGo_of_held (h : (s.bay n).engine.held = true) (hp : (s.bay n).engine.phase = .reading)
    (room : (s.bay n).holding.length < 2) :
    s.readGo n = (s.toBay n .readGo).modBay n (fun b => { b with timers.read := some 10000, engine.held := false }) := by
  unfold readGo
  dsimp only
  rw [if_pos ⟨h, hp, room⟩]
  unfold modEngine readTimer
  rw [State.modBay_modBay]
  rfl

theorem judge_of_equal (h : judgesEqual (s.bay n).engine.comparePos e x = true) :
    s.judge n v e x = ((s.modBay n (passHead v)).readGo n).endTest n v :=
  if_pos h

section
variable (h : judgesEqual (s.bay n).engine.comparePos e x = false)
include h

theorem judge_of_stop (hm : v.mode = .stop) : s.judge n v e x = s.stopMismatch n v := by
  rw [judge, if_neg (by simp [h]), hm]

theorem judge_of_retry (hm : v.mode = .retry) : s.judge n v e x = s.startRetry n := by
  rw [judge, if_neg (by simp [h]), hm]

theorem judge_of_counts (hm : v.mode = .count ∨ ∃ k, v.mode = .sample k) :
    s.judge n v e x =
      (((s.modDisc v.disc (Disc.mismatch (s.bay n).engine.comparePos 1)).modBay n (passHead v)).readGo n).endTest n v := by
  rw [judge, if_neg (by simp [h])]
  rcases hm with hm | ⟨k, hm⟩ <;> rw [hm] <;> rfl

end

/-- The retry of a block met in READING halts the read first (R144). -/
theorem startRetry_of_reading (h : (s.bay n).engine.phase = .reading) :
    s.startRetry n = (s.toBay n .readHalt).modBay n (fun b =>
      { b.retries with timers.read := some 10000, engine := { b.retries.engine with phase := .halting } }) := by
  unfold startRetry
  dsimp only
  rw [if_pos h]
  unfold modEngine readTimer
  rw [toBay_modBay, State.modBay_modBay, State.modBay_modBay]
  exact modBay_congr rfl

theorem startRetry_of_other (h : (s.bay n).engine.phase ≠ .reading) :
    s.startRetry n = (s.toBay n (.readStart (s.bay n).engine.comparePos 1)).modBay n (fun b =>
      { b.retries with
        timers.read := some 10000, engine := { b.retries.engine with phase := .reread, attemptRead := false } }) := by
  unfold startRetry
  dsimp only
  rw [if_neg h, startRange_eq, toBay_modBay, State.modBay_modBay]
  exact modBay_congr rfl

end State

end Sys2Proof.Machine
end

section
/-! PROOFS. What the operations that stop a drive, move the arm or lose an image do to whatever is watched. -/

namespace Sys2Proof.Machine

/-- The image is marked LOST, and its blocks leave the intake FIFO (R54, R62, R63). -/
def State.marked (i : Nat) (why : LossReason) (s : State) : State :=
  State.recountAccepted i
    { s.modImage i (fun y => { y with state := .lost, loss := some why }) with ipt := s.ipt.removeImage i }

/-- A change that sets no drive to work, and fills no buffer. -/
structure Bay.Eases (f : Bay → Bay) : Prop where
  state (b : Bay) : (f b).state = b.state ∨ (f b).state.working = false
  drained (b : Bay) : b.Drained → (f b).Drained

/-- The bay at the outcome of its master read (R126). -/
def Bay.settled (b : Bay) : Bay :=
  { b with holding := [], masterHeld := false, masterReported := true, timers.read := none, timers.probe := none }

/-- A relation closed under the operations of the arm too: its motions and its reservations, the trays it has opened and
closed, and a new destination of a record. -/
structure Moves (R : State → State → Prop) : Prop extends Decides R where
  tsq (x : Tsq) (s : State) : R s { s with tsq := x }
  shut (n : BayId) (s : State) : (s.bay n).errand = .place ∨ (s.bay n).errand = .pick → R s (s.moveTray n true)
  opens (n : BayId) (s : State) : s.placeable n = true → R s (s.openToPlace n)
  aim (d : DiscId) (x : Dest) (s : State) : R s (s.modDisc d (fun r => { r with dest := some x }))

namespace Moves
variable {R : State → State → Prop} {s : State} {n : BayId} 

/-! ### The arm -/

theorem modMove (h : Moves R) {f : Move → Move} : R s (s.modMove f) := h.tsq _ s

theorem sendMotion (h : Moves R) {m : Motion} : R s (s.sendMotion m) := by
  unfold State.sendMotion
  dsimp only
  split
  · exact h.trans h.toArm (h.tsq _ _)
  · exact h.trans h.toArm (h.tsq _ _)

theorem armTo (h : Moves R) {x : ArmState} : R s (s.armTo x) := h.tsq _ s

theorem dropMoveRes (h : Moves R) {m : Move} : R s (s.dropMoveRes m) := by
  unfold State.dropMoveRes
  refine h.trans ?_ h.dueSelect
  split
  · exact h.refl s
  · exact h.refl s
  · exact h.refl s
  · split
    · exact h.unreserveStation
    · exact h.refl s
  · exact h.tsq _ s
  · exact h.tsq _ s

theorem dropReservation (h : Moves R) : R s s.dropReservation := by
  unfold State.dropReservation
  split
  · exact h.trans h.dropMoveRes h.modMove
  · exact h.refl s

theorem park (h : Moves R) : R s s.park := h.trans (h.tsq _ s) h.dueBoth

theorem giveUp (h : Moves R) : R s s.giveUp := h.trans h.dropReservation h.park

theorem closeTray (h : Moves R) : R s (s.closeTray n) := by
  unfold State.closeTray
  dsimp only
  split
  next ok => exact h.shut n s ok.1
  next => exact h.refl s

theorem askPlace (h : Moves R) : R s (s.askPlace n) := by
  unfold State.askPlace
  dsimp only
  split
  · exact h.tsq _ s
  · split
    · exact h.refl s
    · split
      next ok => exact h.opens n s ok
      · exact h.modMove

theorem reportFull (h : Moves R) {out : Bool} : R s (s.reportFull out) := by
  unfold State.reportFull
  dsimp only
  split
  · split
    · exact h.refl s
    · exact h.trans (h.tsq _ s) (h.deliver _ _)
  · split
    · exact h.refl s
    · exact h.trans (h.tsq _ s) (h.deliver _ _)

theorem closeDest (h : Moves R) {m : Move} : R s (s.closeDest m) := by
  unfold State.closeDest
  split
  · exact h.ite h.closeTray
  · exact h.refl s

theorem reroute (h : Moves R) {m : Move} : R s (s.reroute m) := by
  have aimed (u : State) : R u (match m.entry.disc with
      | some d => u.modDisc d (fun r => { r with dest := some .rej })
      | none => u) := by
    split
    · exact h.aim _ _ u
    · exact h.refl u
  exact h.trans (h.trans (h.trans h.dropMoveRes h.closeDest) (aimed _)) h.modMove

theorem setOut (h : Moves R) {m : Move} : R s (s.setOut m) := by
  have closed (u : State) : R u (match m.entry.source with
      | .bay n => u.closeTray n
      | _ => u) := by
    split
    · exact h.closeTray
    · exact h.refl u
  have asked (u : State) : R u (match m.entry.dest with
      | .bay n => u.askPlace n
      | _ => u) := by
    split
    · exact h.askPlace
    · exact h.refl u
  have sent : R s (({ s with tsq.arm.state := .toDest, tsq.arm.trayReady := false }.modMove
      (fun v => { v with refused := false })).sendMotion (.goto m.entry.dest.position)) :=
    h.trans (h.trans (t := { s with tsq.arm.state := .toDest, tsq.arm.trayReady := false }) (h.tsq _ s) h.modMove)
      h.sendMotion
  exact h.trans (h.trans sent (closed _)) (asked _)

theorem goOn (h : Moves R) {m : Move} : R s (s.goOn m) := by
  have waits : R s s.waitForRej := by
    unfold State.waitForRej
    split
    · exact h.reportFull
    · exact h.trans h.armTo h.reportFull
  unfold State.goOn
  split
  · split
    · exact h.trans (h.tsq _ s) h.setOut
    · exact waits
  · exact h.setOut

theorem travel (h : Moves R) : R s s.travel := by
  unfold State.travel
  split
  next m _ =>
    have turned : R s (if s.mustReroute m then s.reroute m else s) := h.ite h.reroute
    refine h.trans turned ?_
    generalize (if s.mustReroute m then s.reroute m else s) = u
    dsimp only
    split
    · exact h.goOn
    · exact h.refl u
  next => exact h.refl s

theorem armOnReject (h : Moves R) : R s s.armOnReject := by
  unfold State.armOnReject
  split
  · exact h.ite h.travel
  · exact h.refl s

end Moves

/-- A relation closed under the messages that stop a drive and the end of its operation too. -/
structure Treats (R : State → State → Prop) : Prop extends Drains R, Moves R where
  operate {f : Bay → Bay} (n : BayId) (s : State) : (s.bay n).state.operates = true → Bay.Eases f → R s (s.modBay n f)
  emptied (n : BayId) (s : State) : R s (s.modBay n Bay.settled)
  halt (n : BayId) (m : BayMsg) (s : State) : R s (s.toBay n m)

namespace Treats
variable {R : State → State → Prop} {s : State} {n : BayId} {d : DiscId} {i : Nat}

/-! ### The block that holds a rejected disc, and the drains -/

theorem hold' (h : Treats R) (hs : (s.bay n).state.operates = true) : R s (s.hold n) :=
  h.trans (h.operate n s hs (by exact ⟨fun _ => .inr rfl, fun _ hd => ⟨hd.1, hd.2, hd.3, hd.4⟩⟩)) h.clearFromBay

theorem teardown (h : Treats R) {abort : Bool} (hs : (s.bay n).state.operates = true) : R s (s.teardown n abort) := by
  unfold State.teardown
  refine h.trans (h.trans (h.ite (h.halt n .abort s)) h.withdraw) (h.operate n _ ?_ ?_)
  · rw [State.state_withdraw]
    split <;> exact hs
  · exact ⟨fun _ => .inl rfl, fun _ _ => ⟨rfl, rfl, rfl, rfl⟩⟩

theorem endEarly (h : Treats R) {abort : Bool} (hs : (s.bay n).state.operates = true) : R s (s.endEarly n abort) := by
  refine h.trans (h.teardown hs) (h.hold' ?_)
  rw [State.bay_teardown]
  exact hs

theorem bayOnReject (h : Treats R) : R s (s.bayOnReject n d) := by
  unfold State.bayOnReject
  split
  case h_9 => exact h.rerouteQueued
  case h_10 => exact h.clearFromBay
  case h_11 => exact h.refl s
  all_goals
    rename_i e
    exact h.endEarly (by rw [e]; rfl)

theorem holderOnReject (h : Treats R) : R s (s.holderOnReject d) := by
  unfold State.holderOnReject
  split
  · exact h.bayOnReject
  · exact h.stationOnReject
  · exact h.armOnReject
  · exact h.refl s

theorem cancelDisc (h : Treats R) : R s (s.cancelDisc d) := h.ite (h.trans (h.writeVerdict rfl) h.holderOnReject)

theorem drainDisc (h : Treats R) {hard : Bool} : R s (s.drainDisc hard d) := by
  unfold State.drainDisc
  split
  next r hr =>
    split
    next hp =>
      split
      · exact h.ite h.cancelDisc
      · split
        · exact h.refl s
        · exact h.ite h.cancelDisc
      · split
        · exact h.makeSpare hr hp
        · exact h.ite h.cancelDisc
    next => exact h.refl s
  next => exact h.refl s

theorem drainDiscs (h : Treats R) {j : Nat} {hard : Bool} : R s (s.drainDiscs j hard) :=
  h.each _ s fun _ _ => h.ite h.drainDisc

theorem drainArrival (h : Treats R) : R s (s.drainArrival d) := by
  unfold State.drainArrival
  split
  · split
    · exact h.ite h.drainDisc
    · exact h.refl s
  · exact h.refl s

/-! ### The loss of an image -/

theorem stall (h : Treats R) {serial : Bool} (hs : s.psc.state = .loaded) : R s (s.stall d serial) := by
  have stalled (x : PrintStep) : R s { s with psc.state := .loaded, psc.step := some x, psc.timer := none } :=
    h.loaded (x := { s.psc with state := .loaded, step := some x, timer := none }) ⟨hs, rfl, rfl, rfl, .inl rfl, rfl⟩
  unfold State.stall
  dsimp only
  refine h.trans ?_ h.drainArrival
  split
  · exact h.trans (h.trans (stalled _) h.addHold) (h.deliver _ _)
  · exact stalled _

theorem masterSettles (h : Treats R) : R s (s.masterSettles n) := by
  have halted (u : State) : R u (if u.stillReading n then u.toBay n .readHalt else u) := h.ite (h.halt _ _ _)
  have stopped (u : State) : R u
      (if (u.bay n).state = .probing ∧ (u.bay n).timers.probe.isSome then u.toBay n .abort else u) :=
    h.ite (h.halt _ _ _)
  have settled (u : State) : R u (match (u.bay n).state with
      | .masterRead | .probing => u.hold n
      | .fault => u.clearFromBay n
      | .holding => if u.sweeping then u else u.clearFromBay n
      | _ => u) := by
    split
    next e => exact h.hold' (by rw [e]; rfl)
    next e => exact h.hold' (by rw [e]; rfl)
    · exact h.clearFromBay
    · split
      · exact h.refl u
      · exact h.clearFromBay
    · exact h.refl u
  unfold State.masterSettles
  exact h.trans (h.trans (h.trans (halted s) (stopped _)) (h.emptied n _)) (settled _)

theorem masterOutcome (h : Treats R) {ready : Bool} : R s (s.masterOutcome i ready) := by
  unfold State.masterOutcome
  split
  · split
    · split
      · exact h.refl s
      · dsimp only
        have written (d : DiscId) : R s (s.writeVerdict d (if ready then none else some .imageLost)) := by
          cases ready
          · exact h.writeVerdict rfl
          · exact h.writeVerdict_none
        split
        · exact h.trans (written _) h.masterSettles
        · exact written _
    · exact h.refl s
  · exact h.refl s

end Treats

namespace Mild
variable {R : State → State → Prop} {s : State} {n : BayId} {i : Nat}

theorem unassignMaster (h : Mild R) : R s (s.unassignMaster i) := by
  refine h.trans (h.trans (h.masters s fun x hx => ?_) (h.image i _ fun _ => ⟨_, _, _, rfl⟩)) h.duePass
  obtain ⟨o, ho, rfl⟩ := List.mem_map.1 hx
  exact ⟨o, ho, by split <;> rfl⟩

theorem dropMasterLoad (h : Mild R) {e : Entry} : R s (s.dropMasterLoad e) := by
  unfold State.dropMasterLoad
  dsimp only
  split
  · exact h.trans (h.trans (h.trans h.setEntries h.dropResOf) h.unassignMaster) h.dueBoth
  · exact h.trans h.setEntries h.dueBoth

theorem loseMasterRequest (h : Mild R) : R s (s.loseMasterRequest i) := by
  refine h.ite (h.trans (h.trans (h.each _ s fun _ _ => h.dropMasterLoad) (h.masters _ fun x hx => ?_)) h.duePass)
  exact ⟨x, (List.mem_filter.1 hx).1, rfl⟩

theorem abortStream (h : Mild R) : R s (s.abortStream i n) := by
  unfold State.abortStream
  split
  · exact h.ite (h.trans h.closeStream h.release)
  · exact h.refl s

end Mild

namespace Treats
variable {R : State → State → Prop} {s : State} {n : BayId} {d : DiscId} {i : Nat}

theorem bayImageLost (h : Treats R) : R s (s.bayImageLost i n) := by
  unfold State.bayImageLost
  split
  · split
    case h_7 =>
      rename_i e
      exact h.operate n s (by rw [e]; rfl) (by exact ⟨fun _ => .inl rfl, fun _ hd => ⟨hd.1, hd.2, hd.3, hd.4⟩⟩)
    case h_8 => exact h.refl s
    all_goals
      rename_i e
      have operates : (s.bay n).state.operates = true := by rw [e]; rfl
      refine h.trans (h.writeVerdict rfl) (h.endEarly ?_)
      rw [(State.decides_state n (BayState.not_vacant_of_operates operates)).writeVerdict rfl rfl]
      exact operates
  · exact h.refl s

theorem discTold (h : Treats R) : R s (s.discTold i d) := by
  unfold State.discTold
  split
  · exact h.bayImageLost
  · exact h.refl s

theorem discImageLost (h : Treats R) : R s (s.discImageLost i) :=
  h.trans (h.trans (h.each _ s fun _ _ => h.abortStream) (h.each _ _ fun _ _ => h.discTold)) h.masterOutcome

theorem labelImageLost (h : Treats R) : R s (s.labelImageLost i) := by
  refine h.trans ?_ (h.ite h.withdrawArtwork)
  unfold State.stationImageLost
  split
  · split
    next hs =>
      refine h.trans h.withdrawArtwork (h.stall ?_)
      unfold State.withdrawArtwork
      split <;> exact hs.1
    next => exact h.refl s
  · exact h.refl s

/-- What follows the mark of a loss (R54). -/
theorem imageLost_rest (h : Treats R) {x : Image} {e : Event} (js : List Nat) (t : State) :
    R t (((match x.kind with
      | .disc => ((forEach js (State.addHold .imageLost) t).loseMasterRequest i).discImageLost i
      | .label => ((forEach js (State.addHold .imageLost) t).loseMasterRequest i).labelImageLost i).deliver e).freeTest i) := by
  have held : R t ((forEach js (State.addHold .imageLost) t).loseMasterRequest i) :=
    h.trans (h.each _ t fun _ _ => h.addHold) h.loseMasterRequest
  refine h.trans (h.trans ?_ (h.deliver _ _)) h.freeTest
  split
  · exact h.trans held h.discImageLost
  · exact h.trans held h.labelImageLost

end Treats

/-- A relation closed under the loss of an image and its becoming READY too. -/
structure Upsets (R : State → State → Prop) : Prop extends Treats R where
  lose {i : Nat} {x : Image} (why : LossReason) {s : State} :
    s.image? i = some x → x.state ≠ .lost → R s (s.marked i why)
  ready {i : Nat} {x : Image} {s : State} :
    s.image? i = some x → x.state = .filling → R s (s.modImage i (fun x => { x with state := .ready }))
  done (i : Nat) (s : State) : R s (s.modImage i (fun x => { x with readDone := true }))

/-- The loss of an image: the mark, and what follows it. -/
theorem State.imageLost_eq {s : State} {i : Nat} {why : LossReason} {x : Image} (hx : s.image? i = some x)
    (live : x.state ≠ .lost) :
    s.imageLost i why =
      ((match x.kind with
        | .disc => ((forEach ((s.marked i why).naming i) (State.addHold .imageLost) (s.marked i why)).loseMasterRequest
            i).discImageLost i
        | .label => ((forEach ((s.marked i why).naming i) (State.addHold .imageLost) (s.marked i why)).loseMasterRequest
            i).labelImageLost i).deliver
        { kind := .imageLost, subject := .image i, detail := .loss why }).freeTest i := by
  rw [imageLost, hx]
  dsimp only
  rw [if_neg live]
  rfl

namespace Upsets
variable {R : State → State → Prop} {s : State} {n : BayId} {d : DiscId} {i : Nat}

theorem imageLost (h : Upsets R) {why : LossReason} : R s (s.imageLost i why) := by
  cases hx : s.image? i with
  | none =>
    rw [State.imageLost, hx]
    exact h.refl s
  | some x =>
    by_cases lost : x.state = .lost
    · rw [State.imageLost, hx]
      dsimp only
      rw [if_pos lost]
      exact h.refl s
    · rw [State.imageLost_eq hx lost]
      exact h.trans (h.lose why hx lost) (h.imageLost_rest _ _)

theorem readFailed (h : Upsets R) {why : LossReason} : R s (s.readFailed i why) := h.ite h.imageLost

theorem reportFailed (h : Upsets R) {why : LossReason} : R s (s.reportFailed i why) := by
  unfold State.reportFailed
  split
  · exact h.masterOutcome
  · exact h.readFailed

end Upsets

end Sys2Proof.Machine
end

section
/-! PROOFS. READ-END (O48): the end of a range, of an attempt and of a verify (R139 to R145). -/

namespace Sys2Proof.Machine

open State

/-- The bay at the end of a retried block (R145). -/
def Bay.resumes (v : VerifyCtx) (b : Bay) : Bay :=
  { b with
    fifo := b.fifo.drop 1
    engine := { b.engine with
      comparePos := nextInVerifySet v.sampleK v.stop b.engine.comparePos, retryAttempt := 0, retryMatched := false } }

/-- The bay that has taken the last range of its verify (R139). -/
def Bay.tails (b : Bay) : Bay := { b with timers.read := none, engine.phase := .tail }

namespace State
variable {s : State} {n : BayId} {d : DiscId} {r : Disc} {v : VerifyCtx}

/-- The next step of a disc goes by its job and its steps. -/
theorem nextStepOf_of_steps {t : State}
    (hd : (t.disc d).map (fun r => (r.job, r.steps)) = (s.disc d).map (fun r => (r.job, r.steps)))
    (hj : t.jsc.jobs = s.jsc.jobs) : t.nextStepOf d = s.nextStepOf d := by
  have by_steps (u : State) : u.nextStepOf d = ((u.disc d).map (fun r => (r.job, r.steps))).bind (fun x =>
      (x.1.bind u.job?).bind (fun j => (stepList j.order j.verify).find? (fun y => !x.2.has y))) := by
    rw [nextStepOf, Option.bind_map]
    rfl
  have jobs : t.job? = s.job? := funext fun k => by rw [job?, job?, hj]
  rw [by_steps, by_steps, hd, jobs]

/-- What is counted in a record changes no next step. -/
theorem nextStepOf_counted {f g : Disc → Disc} {t : State} (hf : ∀ r, ((f r).job, (f r).steps) = (r.job, r.steps))
    (hg : ∀ r r', (r.job, r.steps) = (r'.job, r'.steps) → ((g r).job, (g r).steps) = ((g r').job, (g r').steps))
    (hd : t.discs = (s.modDisc d f).discs) (hj : t.jsc.jobs = s.jsc.jobs) :
    (t.modDisc d g).nextStepOf d = (s.modDisc d g).nextStepOf d := by
  refine nextStepOf_of_steps ?_ hj
  have counted : t.disc d = (s.disc d).map f := (disc_congr hd).trans (disc_modDisc_self ..)
  rw [disc_modDisc_self, disc_modDisc_self, counted]
  cases s.disc d with
  | none => rfl
  | some r => exact congrArg some (hg _ _ (hf r))

/-! ### Giving up -/

/-- The record of a verify that counts blocks and is rejected for it (R141, R146). -/
theorem countedReject_ends {p k : Nat} (hr : s.disc d = some r) (hp : r.verdict = .pending) :
    ((s.modDisc d (Disc.mismatch p k)).verifyReject n d .verifyFailed).verifyOver n ∧
      ((s.modDisc d (Disc.mismatch p k)).verifyReject n d .verifyFailed).rejectedAt n d .verifyFailed ∧
      ((s.modDisc d (Disc.mismatch p k)).verifyReject n d .verifyFailed).disc d =
        some ((r.mismatch p k).decide' (some .verifyFailed)) :=
  verifyReject_ends (r := r.mismatch p k) ((disc_modDisc_self ..).trans (congrArg (Option.map _) hr)) hp

theorem giveUpRead_of_ctx (h : s.verifyCtx n = some v) (hp : (s.bay n).engine.phase ≠ .reading) :
    s.giveUpRead n = (s.modDisc v.disc (Disc.mismatch (s.bay n).engine.comparePos
      (giveUpCount v (s.bay n).engine.comparePos))).verifyReject n v.disc .verifyFailed := by
  rw [giveUpRead, h]
  dsimp only
  rw [if_neg hp]

theorem giveUpRead_of_reading (h : s.verifyCtx n = some v) (hp : (s.bay n).engine.phase = .reading) :
    s.giveUpRead n = ((s.toBay n .readHalt).modDisc v.disc (Disc.mismatch (s.bay n).engine.comparePos
      (giveUpCount v (s.bay n).engine.comparePos))).verifyReject n v.disc .verifyFailed := by
  rw [giveUpRead, h]
  dsimp only
  rw [if_pos hp]

/-! ### The end of a range -/

theorem rangeDone_of_last (whole : (s.bay n).engine.rangeEnd = some (s.bay n).engine.readPos)
    (last : (s.bay n).engine.rangesLeft = 0) (short : (s.bay n).engine.comparePos < v.stop) :
    s.rangeDone n v = s.modBay n (fun b => { b with timers.read := none, engine.held := false, engine.phase := .tail }) := by
  unfold rangeDone enterTail modEngine readTimer
  dsimp only
  rw [if_pos whole, if_neg (by omega)]
  simp only [State.modBay_modBay]
  rw [endTest_of_open (.inl (by rw [bay_modBay_self]; exact short))]
  rfl

theorem rangeDone_of_next (whole : (s.bay n).engine.rangeEnd = some (s.bay n).engine.readPos)
    (more : 0 < (s.bay n).engine.rangesLeft) {k first stop : Nat} (hk : v.sampleK = some k)
    (hf : nextGroupStart k v.stop (groupOf ((s.bay n).engine.readPos - 1)) = first)
    (hs : groupEnd v.stop (groupOf first) = stop) :
    s.rangeDone n v = (s.toBay n (.readStart first (stop - first))).modBay n (fun b =>
      { b with
        timers.read := some 10000
        engine := { b.engine with
          readPos := first, rangeEnd := some stop, rangesLeft := b.engine.rangesLeft - 1, held := false
          phase := .reading, attemptRead := false } }) := by
  unfold rangeDone nextRange modEngine readTimer
  dsimp only
  rw [if_pos whole, if_pos more, startRange_eq]
  simp only [State.modBay_modBay, bay_modBay_self, toBay_modBay, hk, Option.getD_some, hf, hs]

theorem rangeDone_of_early (h : s.verifyCtx n = some v)
    (early : (s.bay n).engine.rangeEnd ≠ some (s.bay n).engine.readPos) :
    s.rangeDone n v = ((s.modEngine n (fun x => { x with phase := .tail, held := false })).modDisc v.disc
      (Disc.mismatch (s.bay n).engine.comparePos
        (giveUpCount v (s.bay n).engine.comparePos))).verifyReject n v.disc .verifyFailed := by
  have tail : (s.modEngine n (fun x => { x with phase := .tail, held := false })).bay n =
      { s.bay n with engine := { (s.bay n).engine with phase := .tail, held := false } } := bay_modBay_self ..
  unfold rangeDone
  dsimp only
  rw [if_neg early, giveUpRead_of_ctx (s := s.modEngine n _) (v := v) h (by rw [tail]; exact EnginePhase.noConfusion), tail]

/-! ### The end of a retried block -/

theorem advance_resumes : (s.advance n v).modEngine n (fun x => { x with retryAttempt := 0, retryMatched := false }) =
    s.modBay n (Bay.resumes v) := by
  unfold advance modEngine
  rw [State.modBay_modBay]
  rfl

section
variable {stop : Nat} (hstop : (s.bay n).engine.rangeEnd = some stop)
include hstop

theorem retryDone_of_more {next : Nat}
    (hnext : nextInVerifySet v.sampleK v.stop (s.bay n).engine.comparePos = next) (lt : next < stop) :
    s.retryDone n v = (s.toBay n (.readStart next (stop - next))).modBay n (fun b =>
      { b with
        fifo := b.fifo.drop 1, timers.read := some 10000
        engine := { b.engine with
          comparePos := next, readPos := next, retryAttempt := 0, retryMatched := false, phase := .reading
          attemptRead := false } }) := by
  unfold retryDone
  dsimp only
  rw [advance_resumes, bay_modBay_self, hstop, Option.getD_some]
  rw [if_pos (by exact lt_of_eq_of_lt hnext lt), startRange_eq]
  unfold modEngine
  rw [State.modBay_modBay, toBay_modBay, State.modBay_modBay]
  subst hnext
  exact modBay_congr rfl

theorem retryDone_of_last (le : stop ≤ nextInVerifySet v.sampleK v.stop (s.bay n).engine.comparePos) :
    s.retryDone n v = (s.modBay n (fun b => (b.resumes v).tails)).endTest n v := by
  unfold retryDone
  dsimp only
  rw [advance_resumes, bay_modBay_self, hstop, Option.getD_some, if_neg (by exact Nat.not_lt.2 le)]
  unfold enterTail modEngine readTimer
  rw [State.modBay_modBay, State.modBay_modBay]
  rfl

end

theorem attemptDone_of_match (h : (s.bay n).engine.retryMatched = true) :
    s.attemptDone n v = (s.modDisc v.disc (fun r => { r with marginals := r.marginals + 1 })).retryDone n v :=
  if_pos h

theorem attemptDone_of_miss (h : (s.bay n).engine.retryMatched = false) (lt : (s.bay n).engine.retryAttempt < 3) :
    s.attemptDone n v = (s.toBay n (.readStart (s.bay n).engine.comparePos 1)).modBay n (fun b =>
      { b with
        timers.read := some 10000
        engine := { b.engine with retryAttempt := b.engine.retryAttempt + 1, phase := .reread, attemptRead := false } }) := by
  unfold attemptDone
  dsimp only
  rw [if_neg (by simp [h]), if_pos (by exact lt), startRange_eq]
  unfold modEngine
  rw [toBay_modBay, State.modBay_modBay]

theorem attemptDone_of_missed (h : (s.bay n).engine.retryMatched = false) (le : 3 ≤ (s.bay n).engine.retryAttempt) :
    s.attemptDone n v = (s.modDisc v.disc (Disc.mismatch (s.bay n).engine.comparePos 1)).retryDone n v := by
  unfold attemptDone
  dsimp only
  rw [if_neg (by simp [h]), if_neg (by exact Nat.not_lt.2 le)]

/-- The record of a retried block that is done (R145). -/
def retried (b : Bay) (r : Disc) : Disc :=
  if b.engine.retryMatched then { r with marginals := r.marginals + 1 }
  else
    { r with
      mismatches := r.mismatches + 1
      firstMismatch :=
        if r.firstMismatch.isNone ∧ b.engine.comparePos < 4194304 then some b.engine.comparePos else r.firstMismatch }

theorem attemptDone_of_done (h : (s.bay n).engine.retryMatched = true ∨ 3 ≤ (s.bay n).engine.retryAttempt) :
    s.attemptDone n v = (s.modDisc v.disc (retried (s.bay n))).retryDone n v := by
  by_cases matched : (s.bay n).engine.retryMatched = true
  · rw [attemptDone_of_match matched]
    refine congrArg (fun f => (s.modDisc v.disc f).retryDone n v) (funext fun r => ?_)
    exact (if_pos matched).symm
  · rw [attemptDone_of_missed (by simpa using matched) (h.resolve_left matched)]
    refine congrArg (fun f => (s.modDisc v.disc f).retryDone n v) (funext fun r => ?_)
    exact (if_neg matched).symm

theorem retried_steps (b : Bay) (r : Disc) : ((retried b r).job, (retried b r).steps) = (r.job, r.steps) := by
  unfold retried
  split <;> rfl

theorem retried_verdict (b : Bay) (r : Disc) : (retried b r).verdict = r.verdict := by
  unfold retried
  split <;> rfl

end State

/-! ### READ-END -/

section
variable {s : State} {n : BayId} {v : VerifyCtx}

theorem readEnd_of_verifying (h : (s.bay n).state = .verifying) :
    exec (.readEnd n) s = .next ((s.begin.verifyReadEnd n).settle) :=
  congrArg (fun u : State => Host.Outcome.next u.settle) (by
    have : (s.begin.bay n).state = .verifying := h
    simp only [this])

variable (hb : (s.bay n).state = .verifying) (hv : s.verifyCtx n = some v)
include hb hv

theorem readEnd_of_reading (hp : (s.bay n).engine.phase = .reading) :
    exec (.readEnd n) s = .next ((s.begin.rangeDone n v).settle) := by
  refine (readEnd_of_verifying hb).trans (congrArg (fun t : State => Host.Outcome.next t.settle) ?_)
  have ctx : s.begin.verifyCtx n = some v := hv
  have phase : (s.begin.bay n).engine.phase = .reading := hp
  rw [verifyReadEnd, ctx]
  dsimp only
  rw [phase]

theorem readEnd_of_reread (hp : (s.bay n).engine.phase = .reread) :
    exec (.readEnd n) s = .next ((s.begin.attemptDone n v).settle) := by
  refine (readEnd_of_verifying hb).trans (congrArg (fun t : State => Host.Outcome.next t.settle) ?_)
  have ctx : s.begin.verifyCtx n = some v := hv
  have phase : (s.begin.bay n).engine.phase = .reread := hp
  rw [verifyReadEnd, ctx]
  dsimp only
  rw [phase]

theorem readEnd_of_halting (hp : (s.bay n).engine.phase = .halting) :
    exec (.readEnd n) s =
      .next ((s.begin.startRange n (s.bay n).engine.comparePos 1 .reread).settle) := by
  refine (readEnd_of_verifying hb).trans (congrArg (fun t : State => Host.Outcome.next t.settle) ?_)
  have ctx : s.begin.verifyCtx n = some v := hv
  have phase : (s.begin.bay n).engine.phase = .halting := hp
  rw [verifyReadEnd, ctx]
  dsimp only
  rw [phase]
  rfl

end

theorem readEnd_of_masterRead {s : State} {n : BayId} {i : Nat} (h : (s.bay n).state = .masterRead)
    (hi : s.masterImageAt n = some i) (hm : (s.bay n).masterReported = false) :
    exec (.readEnd n) s =
      .next (((s.begin.modBay n (fun b => { b with masterReported := true, timers.read := none })).readComplete
        i).settle) := by
  refine congrArg (fun u : State => Host.Outcome.next u.settle) (Eq.trans (b := s.begin.masterReadEnd n) ?_ ?_)
  · have : (s.begin.bay n).state = .masterRead := h
    simp only [this]
  · have image : s.begin.masterImageAt n = some i := hi
    have reported : (s.begin.bay n).masterReported = false := hm
    rw [masterReadEnd, image]
    dsimp only
    rw [reported]
    rfl

/-- Settles O48, by the phase of the engine. -/
theorem readEndsMoveTheEngine : Obligations.ReadEndsMoveTheEngine := by
  intro s n b ended
  refine ⟨fun hv hm => ?discarded, fun v hb hv => ⟨fun hp whole last short => ?tail, fun k hp whole more hk => ?next,
    fun r hp early hr pending => ?early, fun hp miss left => ?again, fun r stop hp done hstop hr => ?done,
    fun hp => ?reread⟩, fun i hb hi hm => readEnd_of_masterRead hb hi hm⟩
  case discarded =>
    refine exec_event rfl ?_ rfl
    split
    next h => exact absurd h hv
    next h => exact absurd h hm
    next => rfl
  case tail =>
    refine exec_event (readEnd_of_reading hb hv hp) ?_ rfl
    exact rangeDone_of_last (s := s.begin) whole last short
  case next =>
    refine exec_event (readEnd_of_reading hb hv hp) ?_ rfl
    exact rangeDone_of_next (s := s.begin) whole more hk rfl rfl
  case early =>
    refine ⟨_, (readEnd_of_reading hb hv hp).trans (congrArg (fun t : State => Host.Outcome.next t.settle)
      (rangeDone_of_early (s := s.begin) hv early)), ?_⟩
    obtain ⟨over', rejected, written⟩ := countedReject_ends (n := n) (p := b.engine.comparePos)
      (k := giveUpCount v b.engine.comparePos)
      (s := s.begin.modEngine n (fun x => { x with phase := .tail, held := false })) hr pending
    obtain ⟨engine, fifo, holding, read⟩ := over'
    obtain ⟨state, verdict, cause⟩ := rejected
    refine ⟨⟨state, engine, fifo, holding, read, verdict, cause⟩, fun sent => ?_, ?_⟩
    · have calm := ends_calm.verifyReject (s := (s.begin.modEngine n (fun x => { x with phase := .tail, held := false
        })).modDisc v.disc (Disc.mismatch b.engine.comparePos (giveUpCount v b.engine.comparePos)))
        (n := n) (d := v.disc) (c := .verifyFailed)
      rcases calm.sent _ sent with h | h
      · exact absurd h List.not_mem_nil
      · exact (h n).2 rfl
    · exact congrArg (Option.map Disc.mismatches) written
  case again =>
    refine exec_event (readEnd_of_reread hb hv hp) ?_ rfl
    refine (attemptDone_of_miss (s := s.begin) miss left).trans (modBay_congr ?_)
    have phase : ((s.begin.toBay n (.readStart b.engine.comparePos 1)).bay n).engine.phase = .reread := hp
    rw [← phase]
    rfl
  case reread =>
    refine exec_event (readEnd_of_halting hb hv hp) ?_ rfl
    rw [startRange_eq]
  case done =>
    intro pos next judged
    have run : exec (.readEnd n) s = .next (((s.begin.modDisc v.disc (retried b)).retryDone n v).settle) :=
      (readEnd_of_reread hb hv hp).trans (congrArg (fun t : State => Host.Outcome.next t.settle)
        (attemptDone_of_done (s := s.begin) done))
    have written : (s.begin.modDisc v.disc (retried b)).disc v.disc = some judged :=
      (disc_modDisc_self ..).trans (congrArg (Option.map _) hr)
    refine ⟨fun lt => ?more, fun le whole empty pending => ?ends⟩
    case more =>
      refine exec_event run ?_ rfl
      have same : s.begin.modDisc v.disc (retried b) = s.begin.modDisc v.disc (fun _ => judged) := by
        have entry : s.begin.discs[v.disc] = some r := hr
        unfold modDisc
        rw [entry]
        rfl
      rw [← same]
      exact retryDone_of_more (s := s.begin.modDisc v.disc (retried b)) hstop rfl lt
    case ends =>
      have last := retryDone_of_last (s := s.begin.modDisc v.disc (retried b)) (v := v) (n := n) hstop le
      have bay : ((s.begin.modDisc v.disc (retried b)).modBay n (fun b => (b.resumes v).tails)).bay n =
          (b.resumes v).tails := bay_modBay_self ..
      have ends := endTest_ends (n := n) (s := (s.begin.modDisc v.disc (retried b)).modBay n (fun b => (b.resumes v).tails))
        written (by rw [bay]; exact whole) (by rw [bay]; exact empty) ((retried_verdict b r).trans pending)
      have steps : (((s.begin.modDisc v.disc (retried b)).modBay n (fun b => (b.resumes v).tails)).modDisc v.disc
          (fun r => { r with steps.verify := true })).nextStepOf v.disc =
          (s.modDisc v.disc (fun r => { r with steps.verify := true })).nextStepOf v.disc :=
        nextStepOf_counted (retried_steps b) (fun _ _ h => by simp only [Prod.mk.injEq] at h ⊢; simp [h]) rfl rfl
      obtain ⟨⟨engine, fifo, holding, read⟩, failed, marginal, passed⟩ := ends
      refine ⟨_, run.trans (congrArg (fun t : State => Host.Outcome.next t.settle) last), engine, fun h => ?_,
        fun h mode limit lt => ?_, fun h limits => ?_⟩
      · obtain ⟨state, verdict, cause⟩ := failed h
        exact ⟨state, engine, fifo, holding, read, verdict, cause⟩
      · obtain ⟨state, verdict, cause⟩ := marginal h mode limit lt
        exact ⟨state, engine, fifo, holding, read, verdict, cause⟩
      · rw [← steps]
        exact passed h limits

end Sys2Proof.Machine
end

section
/-! PROOFS. The loss of an image whose master is read at a bay (R54, R68, R126), and READ-BLOCK (O47). -/

namespace Sys2Proof.Machine

namespace State
variable {s : State} {n : BayId} {d : DiscId} {r : Disc} {i k : Nat} {x : Image} {why : LossReason}

/-! ### Reading the catalogue -/

/-- What is found of an image after a change that keeps the numbers. -/
theorem image?_modImage {f : Image → Image} (hf : ∀ x, (f x).number = x.number) :
    (s.modImage k f).image? i = (s.image? i).map (fun x => if x.number = k then f x else x) := by
  unfold image? modImage
  rw [List.find?_map]
  refine congrArg (Option.map _) (congrArg (fun p => s.cat.images.find? p) (funext fun x => ?_))
  dsimp only [Function.comp]
  split
  · rw [hf]
  · rfl

theorem image?_modImage_self {f : Image → Image} (hf : ∀ x, (f x).number = x.number) :
    (s.modImage i f).image? i = (s.image? i).map f := by
  rw [image?_modImage hf]
  cases hx : s.image? i with
  | none => rfl
  | some x => exact congrArg some (if_pos (image?_number hx))

theorem image?_modImage_ne {f : Image → Image} (hf : ∀ x, (f x).number = x.number) (h : k ≠ i) :
    (s.modImage k f).image? i = s.image? i := by
  rw [image?_modImage hf]
  cases hx : s.image? i with
  | none => rfl
  | some x => exact congrArg some (if_neg fun e => h (e.symm.trans (image?_number hx)))

/-- An image that is found once some images are freed was there before. -/
theorem image?_of_freed (h : { s with cat.images := s.cat.images.filter (fun y => y.number != k) : State }.image? i = some x) :
    s.image? i = some x := by
  unfold image? at h ⊢
  rw [List.find?_filter] at h
  have found := List.find?_some h
  have ne : i ≠ k := by
    rintro rfl
    simp at found
  refine Eq.trans (congrArg (fun p => s.cat.images.find? p) (funext fun y => ?_)) h
  by_cases e : y.number = i
  · simp [e, ne]
  · simp [e]

/-! ### What holds of an image while it has an entry -/

/-- The image, as long as it has an entry, has a property. -/
def everyImage (s : State) (i : Nat) (P : Image → Prop) : Prop := ∀ y, s.image? i = some y → P y

variable {P : Image → Prop}

theorem everyImage_of_images {t : State} (h : t.cat.images = s.cat.images) (hs : s.everyImage i P) : t.everyImage i P := by
  intro y hy
  rw [image?, h] at hy
  exact hs y hy

theorem everyImage_modImage {f : Image → Image} (hf : ∀ x, (f x).number = x.number) (hP : ∀ x, P x → P (f x))
    (hs : s.everyImage i P) : (s.modImage k f).everyImage i P := by
  intro y hy
  rw [image?_modImage hf] at hy
  obtain ⟨x, hx, rfl⟩ := Option.map_eq_some_iff.1 hy
  split
  · exact hP x (hs x hx)
  · exact hs x hx

theorem everyImage_modImage_ne {f : Image → Image} (hf : ∀ x, (f x).number = x.number) (h : k ≠ i)
    (hs : s.everyImage i P) : (s.modImage k f).everyImage i P := fun y hy => hs y (by rwa [image?_modImage_ne hf h] at hy)

/-- Verdicts, and what follows them, change the accounts of an image alone. -/
theorem decides_images (i : Nat) (hP : ∀ x r a o, P x → P { x with refs := r, accesses := a, source := o }) :
    Decides (fun s t => s.everyImage i P → t.everyImage i P) where
  refl _ h := h
  trans h k w := k (h w)
  other e := everyImage_of_images (congrArg (fun w => w.1.2.1.images) e)
  emit _ _ h := h
  cleared _ _ h := h
  unreserve _ _ _ h := h
  retire _ _ _ h := h
  deliver _ _ h := h
  account _ _ _ _ h := h
  hold _ _ _ h := h
  live _ _ h := h
  terminal _ _ h := h
  loads _ _ h := h
  image k s hf := everyImage_modImage (fun x => by obtain ⟨r, a, o, e⟩ := hf x; rw [e])
    (fun x hx => by obtain ⟨r, a, o, e⟩ := hf x; rw [e]; exact hP x r a o hx)
  freed k s h y hy := h y (image?_of_freed hy)
  masters _ _ h := h
  unreserved _ h := h
  ungranted _ _ h := h
  unwaited _ _ h := h
  scan s h := by
    obtain ⟨r, ms, bs, e⟩ := s.scan_frame
    rw [e]
    exact h
  closed _ _ _ h := h
  withdrawn _ h := h
  unspared _ _ h := h
  queue _ _ h := h
  decide _ _ _ _ h := h

/-! ### An image that is lost -/

/-- The image, as long as it has an entry, is LOST for a reason. -/
def lostFor (s : State) (i : Nat) (why : LossReason) : Prop := s.everyImage i (fun y => y.state = .lost ∧ y.loss = some why)

theorem recount_number (t : State) (x : Image) :
    (if x.state = .lost ∧ x.source = .intake then
      { x with accepted := x.ingested + t.ipt.fifo.countP (fun y => y.image == i) } else x).number = x.number := by
  split <;> rfl

theorem marked_lostFor : (s.marked i why).lostFor i why := by
  intro y hy
  unfold marked recountAccepted at hy
  rw [image?_modImage_self (recount_number _)] at hy
  obtain ⟨x, hx, rfl⟩ := Option.map_eq_some_iff.1 hy
  have marked : (s.modImage i (fun y => { y with state := .lost, loss := some why })).image? i = some x := hx
  rw [image?_modImage_self (by exact fun _ => rfl)] at marked
  obtain ⟨z, -, rfl⟩ := Option.map_eq_some_iff.1 marked
  split <;> exact ⟨rfl, rfl⟩

theorem lostFor_marked {why' : LossReason} (h : k ≠ i) (hs : s.lostFor i why) : (s.marked k why').lostFor i why := by
  unfold marked recountAccepted
  refine everyImage_modImage_ne (recount_number _) h (everyImage_of_images (s := s.modImage k _) rfl ?_)
  exact everyImage_modImage_ne (by exact fun _ => rfl) h hs

/-- An image that is LOST stays so, for its reason. -/
theorem upsets_lost (i : Nat) (why : LossReason) : Upsets (fun s t => s.lostFor i why → t.lostFor i why) where
  toDecides := decides_images i fun _ _ _ _ h => h
  loaded _ h := h
  tsq _ _ h := h
  settle _ _ _ _ h := h
  spare _ _ h := h
  spared _ _ h := h
  operate _ _ _ _ h := h
  emptied _ _ h := h
  shut _ _ _ h := h
  opens _ _ _ h := h
  halt _ _ _ h := h
  aim _ _ _ h := h
  lose {j x} _ {s} hx live h := by
    by_cases e : j = i
    · subst e
      exact absurd (h x hx).1 live
    · exact lostFor_marked e h
  ready {j x s} hx filling h := by
    by_cases e : j = i
    · subst e
      rw [(h x hx).1] at filling
      exact absurd filling (by decide)
    · exact everyImage_modImage_ne (by exact fun _ => rfl) e h
  done k s := everyImage_modImage (by exact fun _ => rfl) (by exact fun _ h => h)

/-- What has been sent stays sent, whatever image is lost. -/
theorem upsets_sent : Upsets (fun s t => s.sent <+: t.sent) where
  toDrains := ends_sent.toDrains
  tsq _ _ := List.prefix_refl _
  operate _ _ _ _ := List.prefix_refl _
  emptied _ _ := List.prefix_refl _
  shut _ _ _ := List.prefix_append _ _
  opens _ _ _ := List.prefix_append _ _
  halt _ _ _ := List.prefix_append _ _
  aim _ _ _ := List.prefix_refl _
  lose _ _ _ _ := List.prefix_refl _
  ready _ _ := List.prefix_refl _
  done _ _ := List.prefix_refl _

theorem imageLost_lostFor (hx : s.image? i = some x) (live : x.state ≠ .lost) : (s.imageLost i why).lostFor i why := by
  rw [imageLost_eq hx live]
  exact (upsets_lost i why).imageLost_rest _ _ marked_lostFor

/-! ### A bay that goes on -/

/-- A bay whose drive works goes on working through verdicts and the drains they begin. -/
theorem drains_working (n : BayId) {x : BayState} (hw : x.working = true) :
    Verdicts (fun s t => (s.bay n).state = x → (t.bay n).state = x) where
  toDecides := decides_state n (BayState.not_vacant_of_operates (by simp [BayState.operates, hw]))
  loaded _ h := h
  settle m s waits _ h := by
    by_cases e : n = m
    · subst e
      exact absurd (BayState.not_working_of_waits waits) (by simp [h, hw])
    · rwa [bay_modBay_ne e]
  drain _ _ _ h := h
  spare _ _ h := h
  spared _ _ h := h
  blame m s hf h := by
    by_cases e : n = m
    · subst e
      rw [bay_modBay_self, hf.steady.state]
      exact h
    · rwa [bay_modBay_ne e]

theorem bay_hold_ne {m : BayId} (h : n ≠ m) : (s.hold m).bay n = s.bay n := by
  obtain ⟨q, u, e⟩ := hold_frame m s
  rw [e]
  exact (show _ = (s.bayTo m .holding).bay n from rfl).trans (bay_modBay_ne h _ s)

/-- The end of another bay's operation leaves the state of a bay whose drive works. -/
theorem endEarly_state_ne {m : BayId} {abort : Bool} {x : BayState} (h : n ≠ m) (hw : x.working = true)
    (hs : (s.bay n).state = x) : ((s.endEarly m abort).bay n).state = x := by
  rw [endEarly, bay_hold_ne h]
  unfold teardown
  dsimp only
  rw [bay_modBay_ne h]
  refine (drains_working n hw).withdraw ?_
  split <;> exact hs

/-! ### The outcome of a master read -/

/-- The disc is the master of an image, at a bay in a state. -/
structure MasterAt (s : State) (i : Nat) (n : BayId) (x : BayState) (d : DiscId) (r : Disc) : Prop where
  place : s.discAt (.bay n) = some d
  record : s.disc d = some r
  master : s.masterOf i = some d
  state : (s.bay n).state = x

/-- The records that may be the master of an image are the same. -/
def keepsMasters (i : Nat) (s t : State) : Prop :=
  s.keepsField (fun r => r.purpose == .master && r.image == some i && r.verdict == .pending) t

theorem keepsMasters.masterOf {t : State} (h : s.keepsMasters i t) : t.masterOf i = s.masterOf i := by
  unfold State.masterOf
  refine congrArg (fun p => allDiscs.find? p) (funext fun c => ?_)
  have same := congrArg (fun o => Option.any id o) (h c)
  simpa [Option.any_map] using same

theorem masterOf_eq_some (h : s.masterOf i = some d) (hr : s.disc d = some r) :
    r.purpose = .master ∧ r.image = some i ∧ r.verdict = .pending := by
  have found := List.find?_some h
  simpa [hr, and_assoc] using found

/-- A verdict of a disc that is no master. -/
theorem writeVerdict_keepsMasters {c : DiscId} {y : Disc} {v : Option RejectCause} (hy : s.disc c = some y)
    (hp : y.purpose ≠ .master) : s.keepsMasters i (s.writeVerdict c v) := by
  intro e
  by_cases h : e = c
  · subst h
    by_cases pending : y.verdict = .pending
    · rw [disc_writeVerdict hy pending, hy]
      have same : (y.decide' v).purpose = y.purpose := by cases v <;> rfl
      have other : (y.purpose == .master) = false := by simpa using hp
      simp [same, other]
    · rw [writeVerdict_of_final hy pending]
  · rw [disc_writeVerdict_ne h]

variable {b : BayState}

/-- What keeps the records, and the bay's state, keeps the master there. -/
theorem MasterAt.of_discs {t : State} (h : s.MasterAt i n b d r) (hd : t.discs = s.discs) (hs : (t.bay n).state = b) :
    t.MasterAt i n b d r where
  place := ((keepsField_of_discs hd).discAt _).trans h.place
  record := (disc_congr hd).trans h.record
  master := (keepsMasters.masterOf (keepsField_of_discs hd)).trans h.master
  state := hs

theorem copyNaming_eq_some {m : BayId} {c : DiscId} (h : s.copyNaming m i = some c) :
    s.discAt (.bay m) = some c ∧ ∃ y, s.disc c = some y ∧ y.purpose = .copy := by
  unfold copyNaming at h
  split at h
  next e he =>
    split at h
    next ok =>
      cases h
      cases hy : s.disc c with
      | none => simp [hy] at ok
      | some y => exact ⟨he, y, rfl, by simp [hy] at ok; exact ok.1.1⟩
    next => contradiction
  next => contradiction

/-- A bay that is told of the loss rejects its copy; the master stays where it is read. -/
theorem MasterAt.bayImageLost {m : BayId} (h : s.MasterAt i n b d r) (hw : b.working = true) :
    (s.bayImageLost i m).MasterAt i n b d r := by
  obtain ⟨purpose, -, -⟩ := masterOf_eq_some h.master h.record
  unfold State.bayImageLost
  split
  next c hc =>
    obtain ⟨at_, y, hy, copy⟩ := copyNaming_eq_some hc
    have other : c ≠ d := by
      rintro rfl
      rw [h.record] at hy
      cases hy
      rw [purpose] at copy
      exact absurd copy (by decide)
    have elsewhere : n ≠ m := by
      rintro rfl
      exact other (Option.some.inj (at_.symm.trans h.place))
    have rejects : ((s.writeVerdict c (some .imageLost)).endEarly m true).MasterAt i n b d r := by
      have written : (s.writeVerdict c (some .imageLost)).MasterAt i n b d r :=
        { place := ((judges_places.writeVerdict rfl).discAt _).trans h.place
          record := (disc_writeVerdict_ne other.symm).trans h.record
          master := (writeVerdict_keepsMasters hy (by simp [copy])).masterOf.trans h.master
          state := (drains_working n hw).writeVerdict rfl h.state }
      exact written.of_discs endEarly_discs (endEarly_state_ne elsewhere hw written.state)
    split
    case h_7 => exact h.of_discs rfl ((congrArg Bay.state (bay_modBay_ne elsewhere _ _)).trans h.state)
    case h_8 => exact h
    all_goals exact rejects
  next => exact h

theorem bay_masterSettles (h : (s.bay n).state = .masterRead ∨ (s.bay n).state = .probing) :
    ((s.masterSettles n).bay n).state = .holding ∧ ((s.masterSettles n).bay n).timers.read = none ∧
      (s.masterSettles n).discs = s.discs := by
  unfold masterSettles
  dsimp only
  generalize ht : (if s.stillReading n = true then s.toBay n .readHalt else s) = t
  have bt : t.bay n = s.bay n ∧ t.discs = s.discs := by
    rw [← ht]
    split <;> exact ⟨rfl, rfl⟩
  generalize hu : (if (t.bay n).state = .probing ∧ (t.bay n).timers.probe.isSome then t.toBay n .abort else t) = u
  have bu : u.bay n = s.bay n ∧ u.discs = s.discs := by
    rw [← hu]
    split <;> exact bt
  rw [bay_modBay_self, bu.1]
  have held (w : State) (hw : (w.bay n).timers.read = none) (hd : w.discs = s.discs) :
      ((w.hold n).bay n).state = .holding ∧ ((w.hold n).bay n).timers.read = none ∧ (w.hold n).discs = s.discs := by
    rw [bay_hold]
    exact ⟨rfl, hw, hold_discs.trans hd⟩
  rcases h with h | h <;> rw [h] <;> exact held _ (by rw [bay_modBay_self]) bu.2

/-- The master at a bay whose drive works is rejected when its image is lost (R126). -/
theorem MasterAt.outcome (h : s.MasterAt i n b d r) (hb : b = .masterRead ∨ b = .probing) :
    ((s.masterOutcome i false).bay n).state = .holding ∧ ((s.masterOutcome i false).bay n).timers.read = none ∧
      (s.masterOutcome i false).disc d = some (r.decide' (some .imageLost)) := by
  obtain ⟨-, -, pending⟩ := masterOf_eq_some h.master h.record
  obtain ⟨y, hy, at_⟩ := discAt_eq_some h.place
  obtain rfl : r = y := Option.some.inj (h.record.symm.trans hy)
  have working : b.working = true := by rcases hb with rfl | rfl <;> rfl
  have begun : s.masterNotBegun r = false := by
    rw [masterNotBegun, at_]
    rcases hb with rfl | rfl <;> simp [h.state]
  have run : s.masterOutcome i false = (s.writeVerdict d (some .imageLost)).masterSettles n := by
    rw [masterOutcome, h.master]
    dsimp only
    rw [h.record]
    dsimp only
    rw [begun, at_]
    rfl
  have state : ((s.writeVerdict d (some .imageLost)).bay n).state = b := (drains_working n working).writeVerdict rfl h.state
  obtain ⟨held, stopped, discs⟩ := bay_masterSettles (n := n) (s := s.writeVerdict d (some .imageLost))
    (by rw [state]; exact hb)
  rw [run]
  exact ⟨held, stopped, (disc_congr discs).trans (disc_writeVerdict h.record pending)⟩

theorem freeTest_frame (i : Nat) (s : State) : ∃ c, s.freeTest i = { s with cat := c } := by
  unfold freeTest
  split
  · split
    · exact ⟨_, rfl⟩
    · exact ⟨s.cat, rfl⟩
  · exact ⟨s.cat, rfl⟩

theorem bay_freeTest {e : Event} : (((s.deliver e).freeTest i).bay n) = s.bay n := by
  obtain ⟨c, h⟩ := freeTest_frame i (s.deliver e)
  rw [h]
  rfl

theorem disc_freeTest {e : Event} : (((s.deliver e).freeTest i).disc d) = s.disc d := by
  obtain ⟨c, h⟩ := freeTest_frame i (s.deliver e)
  rw [h]
  rfl

/-- An image whose master is at a bay that reads or probes it is lost: the master is rejected there (R54, R68, R126). -/
theorem MasterAt.imageLost (h : s.MasterAt i n b d r) (hb : b = .masterRead ∨ b = .probing) (hx : s.image? i = some x)
    (live : x.state ≠ .lost) (kind : x.kind = .disc) :
    ((s.imageLost i why).bay n).state = .holding ∧ ((s.imageLost i why).bay n).timers.read = none ∧
      (s.imageLost i why).disc d = some (r.decide' (some .imageLost)) ∧ (s.imageLost i why).lostFor i why := by
  have working : b.working = true := by rcases hb with rfl | rfl <;> rfl
  have lost : (s.imageLost i why).lostFor i why := imageLost_lostFor hx live
  rw [imageLost_eq hx live, kind] at lost ⊢
  dsimp only at lost ⊢
  generalize he : forEach ((s.marked i why).naming i) (addHold .imageLost) (s.marked i why) = t
  have told : (t.loseMasterRequest i).MasterAt i n b d r := by
    have held : t.MasterAt i n b d r := by
      rw [← he]
      refine MasterAt.of_discs (s := s) h ?_ ?_
      · exact quiet_discs.each _ (s.marked i why) fun _ _ => quiet_discs.addHold
      · exact (drains_working n working).each _ (s.marked i why) (fun _ _ => (drains_working n working).addHold)
          h.state
    exact held.of_discs quiet_discs.loseMasterRequest ((drains_working n working).loseMasterRequest held.state)
  have aborted : (forEach allBays (abortStream i) (t.loseMasterRequest i)).MasterAt i n b d r :=
    told.of_discs (quiet_discs.each _ _ fun _ _ => quiet_discs.abortStream)
      ((drains_working n working).each _ _ (fun _ _ => (drains_working n working).abortStream) told.state)
  have bays : (forEach allDiscs (discTold i) (forEach allBays (abortStream i) (t.loseMasterRequest i))).MasterAt i n b d r := by
    refine forEach_keeps (P := fun u => u.MasterAt i n b d r) (fun c _ u hu => ?_) aborted
    unfold discTold
    split
    · exact hu.bayImageLost working
    · exact hu
  obtain ⟨held, stopped, written⟩ := bays.outcome hb
  subst he
  exact ⟨(congrArg Bay.state bay_freeTest).trans held, (congrArg (fun b => b.timers.read) bay_freeTest).trans stopped,
    disc_freeTest.trans written, lost⟩

end State

end Sys2Proof.Machine
end

section
/-! PROOFS. READ-BLOCK (O47): the compare engine takes a block (R137, R138, R142 to R145), and a master read (R125). -/

namespace Sys2Proof.Machine

open State

/-- A bay in READING that has taken a block of its range (R137). -/
def Bay.reads (b : Bay) : Bay := { b with timers.read := some 10000, engine.readPos := b.engine.readPos + 1 }

/-- A bay that holds a block of the master it reads (R125). -/
def Bay.takes (e : HeldBlock) (b : Bay) : Bay :=
  { b with holding := b.holding ++ [e], masterNext := b.masterNext + 1, timers.read := some 10000 }

namespace State
variable {s : State} {n : BayId} {d : DiscId} {r : Disc} {v : VerifyCtx} {e : HeldBlock} {x : FeedBlock} {i : Nat}

/-! ### READING -/

section
variable {stop : Nat} (hstop : (s.bay n).engine.rangeEnd = some stop) (inside : (s.bay n).engine.readPos < stop)
include hstop inside

theorem readingBlock_judges {xs : List FeedBlock} (empty : (s.bay n).holding = []) (hf : (s.bay n).fifo = x :: xs)
    (at_ : x.index = (s.bay n).engine.comparePos) :
    s.readingBlock n v e = (s.modBay n Bay.reads).judge n v e x := by
  unfold readingBlock modEngine readTimer
  dsimp only
  rw [if_pos (by rw [hstop, empty]; exact ⟨by simpa using inside, by decide⟩), State.modBay_modBay, empty, hf]
  dsimp only
  rw [if_pos at_]
  rfl

theorem readingBlock_holds (room : (s.bay n).holding.length < 2) (dry : (s.bay n).fifo = []) :
    s.readingBlock n v e = (s.modBay n Bay.reads).holdBlock n e := by
  unfold readingBlock modEngine readTimer
  dsimp only
  rw [if_pos (by rw [hstop]; exact ⟨by simpa using inside, room⟩), State.modBay_modBay, dry]
  cases (s.bay n).holding <;> rfl

end

theorem holdBlock_of_empty (h : (s.bay n).holding = []) :
    s.holdBlock n e = s.modBay n (fun b => { b with holding := b.holding ++ [e] }) := by
  unfold holdBlock
  dsimp only
  rw [bay_modBay_self, h, if_neg (by simp [Config.holdingBlocks])]

theorem holdBlock_of_one (h : (s.bay n).holding.length = 1) :
    s.holdBlock n e = (s.modBay n (fun b =>
      { b with holding := b.holding ++ [e], timers.read := none, engine.held := true })).toBay n .readHold := by
  unfold holdBlock modEngine readTimer
  dsimp only
  rw [bay_modBay_self, if_pos (by simp [h, Config.holdingBlocks]), State.modBay_modBay, toBay_modBay, State.modBay_modBay]
  rfl

theorem stopMismatch_of_reading (h : (s.bay n).engine.phase = .reading) :
    s.stopMismatch n v = ((s.modDisc v.disc (Disc.mismatch (s.bay n).engine.comparePos 1)).toBay n
      .readHalt).verifyReject n v.disc .verifyFailed := by
  unfold stopMismatch
  dsimp only
  rw [if_pos h]

/-! ### RE-READ -/

theorem rereadBlock_of_read (h : (s.bay n).engine.attemptRead = true) :
    s.rereadBlock n e = s.modBay n (fun b => { b with timers.read := some 10000 }) := by
  unfold rereadBlock
  dsimp only
  rw [if_pos h]
  rfl

theorem rereadBlock_of_first {xs : List FeedBlock} (h : (s.bay n).engine.attemptRead = false) (hf : (s.bay n).fifo = x :: xs) :
    s.rereadBlock n e = (s.modBay n (fun b => { b with timers.read := some 10000 })).modBay n (fun b =>
      { b with engine := { b.engine with
          attemptRead := true
          retryMatched := decide (e.index = b.engine.comparePos ∧ e.status = .ok ∧ e.data = x.data) } }) := by
  have same : judgesEqual (s.bay n).engine.comparePos e x =
      decide (e.index = (s.bay n).engine.comparePos ∧ e.status = .ok ∧ e.data = x.data) := by
    rw [Bool.eq_iff_iff, judgesEqual_iff, decide_eq_true_iff]
  unfold rereadBlock
  dsimp only
  rw [if_neg (by simp [h]), hf, List.head?_cons, Option.any_some, same]
  unfold readTimer modEngine
  rw [State.modBay_modBay, State.modBay_modBay]
  exact modBay_congr rfl

/-! ### A master read -/

section
variable (hi : s.masterImageAt n = some i) (hm : (s.bay n).masterReported = false)
include hi hm

theorem masterReadBlock_of_next {y : Image} (hy : s.image? i = some y) (index : e.index = (s.bay n).masterNext)
    (status : e.status = .ok) (inside : e.index < y.length) (room : (s.bay n).holding.length < 2) :
    s.masterReadBlock n e = s.masterBlock n i e := by
  unfold masterReadBlock
  rw [hi]
  dsimp only
  rw [hm, if_neg (by decide), if_pos ⟨index, status, by rw [hy]; simpa using inside⟩, if_pos (by exact room)]

theorem masterReadBlock_of_wrong {y : Image} (hy : s.image? i = some y)
    (h : e.index ≠ (s.bay n).masterNext ∨ e.status ≠ .ok ∨ y.length ≤ e.index) :
    s.masterReadBlock n e = s.masterReadFails n i := by
  unfold masterReadBlock
  rw [hi]
  dsimp only
  rw [hm, if_neg (by decide), if_neg]
  rw [hy]
  rintro ⟨index, status, inside⟩
  have lt : e.index < y.length := by simpa using inside
  rcases h with h | h | h
  · exact h index
  · exact h status
  · omega

end

/-- The bay whose master read has failed (R125). -/
theorem masterReadFails_of_live {y : Image} (hy : s.image? i = some y) (live : y.state ≠ .lost) (reading : y.readDone = false) :
    s.masterReadFails n i = ((s.toBay n .readHalt).modBay n (fun b =>
      { b with masterReported := true, timers.read := none })).imageLost i .unreadable := by
  unfold masterReadFails reportFailed readFailed
  dsimp only
  have image : (State.modBay n (fun b => { b with masterReported := true, timers.read := none })
      (s.toBay n .readHalt)).image? i = some y := hy
  rw [image, if_neg (by simp [live]), if_pos (by simp [reading])]

/-- A master read that fails halts the drive and loses the image, and the master is rejected (R125, R68, R126). -/
theorem MasterAt.readFails {y : Image} (h : s.MasterAt i n .masterRead d r) (hy : s.image? i = some y)
    (live : y.state ≠ .lost) (reading : y.readDone = false) (kind : y.kind = .disc) :
    .bay n .readHalt ∈ (s.masterReadFails n i).sent ∧ ((s.masterReadFails n i).bay n).state = .holding ∧
      ((s.masterReadFails n i).bay n).timers.read = none ∧
      (s.masterReadFails n i).disc d = some (r.decide' (some .imageLost)) ∧
      (s.masterReadFails n i).lostFor i .unreadable := by
  rw [masterReadFails_of_live hy live reading]
  generalize ht : (s.toBay n .readHalt).modBay n (fun b => { b with masterReported := true, timers.read := none }) = t
  have halted : .bay n .readHalt ∈ t.sent := by
    rw [← ht]
    exact List.mem_append_right _ (List.mem_singleton.2 rfl)
  have master : t.MasterAt i n .masterRead d r := by
    refine h.of_discs ?_ ?_
    · rw [← ht]
      rfl
    · rw [← ht, bay_modBay_self]
      exact h.state
  have image : t.image? i = some y := by
    rw [← ht]
    exact hy
  obtain ⟨state, stopped, written, lost⟩ := master.imageLost (why := .unreadable) (.inl rfl) image live kind
  exact ⟨upsets_sent.imageLost.subset halted, state, stopped, written, lost⟩

end State

/-! ### READ-BLOCK -/

section
variable {s : State} {n : BayId} {v : VerifyCtx} {e : HeldBlock}

theorem readBlock_of_verifying (h : (s.bay n).state = .verifying) :
    exec (.readBlock n e.index e.status e.data) s = .next ((s.begin.verifyBlock n e).settle) :=
  congrArg (fun u : State => Host.Outcome.next u.settle) (by
    have : (s.begin.bay n).state = .verifying := h
    simp only [this])

theorem readBlock_of_masterRead (h : (s.bay n).state = .masterRead) :
    exec (.readBlock n e.index e.status e.data) s = .next ((s.begin.masterReadBlock n e).settle) :=
  congrArg (fun u : State => Host.Outcome.next u.settle) (by
    have : (s.begin.bay n).state = .masterRead := h
    simp only [this])

theorem verifyBlock_of_reading (hv : s.verifyCtx n = some v) (hp : (s.bay n).engine.phase = .reading) :
    s.verifyBlock n e = s.readingBlock n v e := by
  rw [verifyBlock, hv]
  dsimp only
  rw [hp]

theorem verifyBlock_of_halting (hv : s.verifyCtx n = some v) (hp : (s.bay n).engine.phase = .halting) :
    s.verifyBlock n e = s.modBay n (fun b => { b with timers.read := some 10000 }) := by
  rw [verifyBlock, hv]
  dsimp only
  rw [hp]
  rfl

theorem verifyBlock_of_reread (hv : s.verifyCtx n = some v) (hp : (s.bay n).engine.phase = .reread) :
    s.verifyBlock n e = s.rereadBlock n e := by
  rw [verifyBlock, hv]
  dsimp only
  rw [hp]

theorem verifyBlock_of_done (hv : s.verifyCtx n = some v)
    (hp : (s.bay n).engine.phase = .tail ∨ (s.bay n).engine.phase = .idle) : s.verifyBlock n e = s := by
  rw [verifyBlock, hv]
  dsimp only
  rcases hp with hp | hp <;> rw [hp]

end

/-- Settles O47, by the state of the bay, the phase of the engine and the verify mode. -/
theorem readBlocksAreCompared : Obligations.ReadBlocksAreCompared := by
  intro s n index status data b e
  refine ⟨fun hv hm => ?discarded, fun v stop hb hv hp hstop inside => ⟨fun x xs r empty hf at_ free hr => ?judged,
    fun dry empty => ?first, fun dry one => ?second⟩, fun v hb hv => ?phases, fun i x hb hi hm hx =>
      ⟨fun next good inside => ?kept, fun d wrong hd master live reading kind => ?lost⟩⟩
  case discarded =>
    refine exec_event rfl ?_ rfl
    split
    next h => exact absurd h hv
    next h => exact absurd h hm
    next => rfl
  case judged =>
    intro pos next judged counted
    generalize ht : s.begin.modBay n Bay.reads = t
    have run : exec (.readBlock n index status data) s = .next ((t.judge n v e x).settle) := by
      refine (readBlock_of_verifying (e := e) hb).trans (congrArg (fun u : State => Host.Outcome.next u.settle) ?_)
      rw [← ht]
      exact (verifyBlock_of_reading (s := s.begin) hv hp).trans
        (readingBlock_judges (s := s.begin) hstop inside empty hf at_)
    have bay : t.bay n = b.reads := by rw [← ht]; exact bay_modBay_self ..
    have entry : t.disc v.disc = some r := by rw [← ht]; exact hr
    have passed : t.modBay n (passHead v) = judged := by
      rw [← ht, State.modBay_modBay]
      refine modBay_congr ?_
      have fifo : (s.begin.bay n).fifo = x :: xs := hf
      unfold passHead Bay.reads
      rw [fifo]
      rfl
    have bay' : judged.bay n = passHead v b.reads := by rw [← passed, bay_modBay_self, bay]
    have held : (judged.bay n).engine.held = false := by rw [bay']; exact free
    have clear : (judged.bay n).holding = [] := by rw [bay']; exact empty
    have at_next : (judged.bay n).engine.comparePos = next := by rw [bay']; rfl
    have rec' : judged.disc v.disc = some r := by rw [← passed]; exact entry
    refine ⟨fun h1 h2 h3 => ?same, fun differs => ?other⟩
    case same =>
      have equal : judgesEqual (t.bay n).engine.comparePos e x = true := by
        rw [bay]
        exact judgesEqual_iff.2 ⟨h1, h2, h3⟩
      have judge : t.judge n v e x = judged.endTest n v := by
        rw [judge_of_equal equal, passed, readGo_of_free held]
      refine ⟨fun lt => exec_event run (judge.trans (endTest_of_open (.inl (at_next ▸ lt)))) rfl, fun le pending => ?_⟩
      obtain ⟨⟨engine, fifo, -, read⟩, failed, marginal, good⟩ :=
        endTest_ends (n := n) rec' (by rw [at_next]; exact le) clear pending
      refine ⟨_, run.trans (congrArg (fun t : State => Host.Outcome.next t.settle) judge), engine, fifo, read, failed,
        marginal, fun h limits => ?_⟩
      have steps : (judged.modDisc v.disc (fun r => { r with steps.verify := true })).nextStepOf v.disc =
          (s.modDisc v.disc (fun r => { r with steps.verify := true })).nextStepOf v.disc := rfl
      rw [← steps]
      exact good h limits
    case other =>
      have unequal : judgesEqual (t.bay n).engine.comparePos e x = false := by
        rw [bay]
        exact judgesEqual_eq_false differs
      refine ⟨fun mode => ?stopped, fun mode lt => ?counted, fun mode le pending => ?failed, fun mode => ?retried⟩
      case stopped =>
        refine run.trans (congrArg (fun t : State => Host.Outcome.next t.settle) ?_)
        rw [judge_of_stop unequal mode, stopMismatch_of_reading (by rw [bay]; exact hp), bay, ← ht]
        rfl
      case retried =>
        refine exec_event run ?_ rfl
        rw [judge_of_retry unequal mode, startRetry_of_reading (by rw [bay]; exact hp), ← ht, toBay_modBay,
          State.modBay_modBay, toBay_modBay]
        refine modBay_congr ?_
        have clear : ((s.begin.toBay n .readHalt).bay n).holding = [] := empty
        unfold Bay.retries Bay.reads
        rw [clear]
        rfl
      all_goals
        have judge : t.judge n v e x =
            (judged.modDisc v.disc (Disc.mismatch pos 1)).endTest n v := by
          rw [judge_of_counts unequal mode, bay]
          have moved : (t.modDisc v.disc (Disc.mismatch pos 1)).modBay n (passHead v) =
              judged.modDisc v.disc (Disc.mismatch pos 1) := by
            rw [← passed]
            rfl
          exact (congrArg (fun u => (State.readGo n u).endTest n v) moved).trans
            (congrArg (State.endTest n v) (readGo_of_free held))
      case counted => exact exec_event run (judge.trans (endTest_of_open (.inl (at_next ▸ lt)))) rfl
      case failed =>
        have rec' : (judged.modDisc v.disc (Disc.mismatch pos 1)).disc v.disc = some (r.mismatch pos 1) :=
          (disc_modDisc_self ..).trans (congrArg (Option.map _) rec')
        have result : verifyResult v (r.mismatch pos 1) = some .verifyFailed := if_pos (Nat.succ_ne_zero _)
        have rejects := endTest_of_result (n := n) rec' (by exact at_next ▸ le) clear result
        obtain ⟨⟨engine, fifo, -, read⟩, ⟨state, verdict, cause⟩, written⟩ :=
          verifyReject_ends (n := n) (c := .verifyFailed) rec' pending
        exact ⟨_, run.trans (congrArg (fun t : State => Host.Outcome.next t.settle) (judge.trans rejects)), engine, fifo,
          read, state, verdict, cause, congrArg (Option.map Disc.mismatches) written⟩
  case first =>
    refine exec_event (readBlock_of_verifying (e := e) hb) ?_ rfl
    rw [verifyBlock_of_reading (s := s.begin) hv hp, readingBlock_holds (s := s.begin) hstop inside
      (lt_of_eq_of_lt (congrArg List.length empty) (by decide)) dry, holdBlock_of_empty (by rw [bay_modBay_self]; exact empty), State.modBay_modBay]
    refine modBay_congr ?_
    have clear : (s.begin.bay n).holding = [] := empty
    unfold Bay.reads
    rw [clear]
    rfl
  case second =>
    refine exec_event (readBlock_of_verifying (e := e) hb) ?_ rfl
    rw [verifyBlock_of_reading (s := s.begin) hv hp, readingBlock_holds (s := s.begin) hstop inside
      (lt_of_eq_of_lt one (by decide)) dry, holdBlock_of_one (by rw [bay_modBay_self]; exact one), State.modBay_modBay]
    rfl
  case phases =>
    intro timed
    refine ⟨fun hp => ?_, fun hp => ?_, fun hp read => ?_, fun x xs hp read hf => ?_⟩
    · exact exec_event (readBlock_of_verifying (e := e) hb) (verifyBlock_of_halting (s := s.begin) hv hp) rfl
    · exact exec_event (readBlock_of_verifying (e := e) hb) (verifyBlock_of_done (s := s.begin) hv hp) rfl
    · exact exec_event (readBlock_of_verifying (e := e) hb)
        ((verifyBlock_of_reread (s := s.begin) hv hp).trans (rereadBlock_of_read (s := s.begin) read)) rfl
    · exact exec_event (readBlock_of_verifying (e := e) hb)
        ((verifyBlock_of_reread (s := s.begin) hv hp).trans (rereadBlock_of_first (s := s.begin) read hf)) rfl
  case kept =>
    intro kept
    have run (room : b.holding.length < 2) :
        exec (.readBlock n index status data) s = .next ((s.begin.masterBlock n i e).settle) :=
      (readBlock_of_masterRead (e := e) hb).trans (congrArg (fun t : State => Host.Outcome.next t.settle)
        (masterReadBlock_of_next (s := s.begin) hi hm hx next good inside room))
    have bay : kept.bay n = b.takes e := bay_modBay_self n (Bay.takes e) s.begin
    refine ⟨fun empty => ?_, fun one => ?_⟩
    · refine exec_event (run (by rw [empty]; decide)) ?_ rfl
      exact if_neg (show ¬ 2 ≤ (kept.bay n).holding.length by rw [bay]; simp [Bay.takes, empty])
    · refine exec_event (run (by rw [one]; decide)) ?_ rfl
      exact if_pos (show 2 ≤ (kept.bay n).holding.length by rw [bay]; simp [Bay.takes, one])
  case lost =>
    have run : exec (.readBlock n index status data) s = .next ((s.begin.masterReadFails n i).settle) :=
      (readBlock_of_masterRead (e := e) hb).trans (congrArg (fun t : State => Host.Outcome.next t.settle)
        (masterReadBlock_of_wrong (s := s.begin) hi hm hx wrong))
    obtain ⟨r, hr, -⟩ := discAt_eq_some hd
    have begun : s.begin.MasterAt i n .masterRead d r := ⟨hd, hr, master, hb⟩
    obtain ⟨halted, state, -, written, lost⟩ := begun.readFails hx live reading kind
    exact ⟨_, run, halted, state, by rw [written]; rfl, by rw [written]; rfl, lost⟩

end Sys2Proof.Machine
end

section
/-! PROOFS. The waits that run out (O50): starved copies, silent drives and spare holds (R44, R115, R125, R140). -/

namespace Sys2Proof.Machine

open State

namespace State
variable {s : State} {n : BayId} {d : DiscId} {r : Disc} {v : VerifyCtx} {i : Nat}

/-- The reject of a copy by the bay that works on it (R119). -/
theorem bayReject_of_disc {c : RejectCause} {abort : Bool} (hd : s.discAt (.bay n) = some d) :
    s.bayReject n c abort = (s.verdict d (some c)).endEarly n abort := by
  rw [bayReject, hd]

theorem disc_verdict_endEarly {m : BayId} {c : Option RejectCause} {abort : Bool} (hr : s.disc d = some r)
    (hp : r.verdict = .pending) : ((s.verdict d c).endEarly m abort).disc d = some (r.decide' c) :=
  (disc_congr endEarly_discs).trans (disc_verdict hr hp)

/-- The verify in hand at a bay is that of the disc there. -/
theorem verifyCtx_disc (h : s.verifyCtx n = some v) : s.discAt (.bay n) = some v.disc := by
  unfold verifyCtx at h
  split at h
  next d r j m hc =>
    cases h
    exact (copyAt_eq_some hc).1
  next => contradiction

theorem verifySetFrom_none {stop pos : Nat} : verifySetFrom none stop pos = stop - pos := by
  unfold verifySetFrom
  split
  · omega
  · rfl

/-- The end of a bay's operation leaves the Job Scheduler's table. -/
theorem endEarly_jsc {abort : Bool} : (s.endEarly n abort).jsc = s.jsc := by
  obtain ⟨q, u, e⟩ := hold_frame n (s.teardown n abort)
  rw [endEarly, e]
  refine Eq.trans (b := (s.teardown n abort).jsc) rfl ?_
  unfold teardown
  dsimp only
  split
  all_goals
    obtain ⟨_, _, _, _, _, e⟩ := withdraw_frame n _
    rw [e]
    rfl

/-- Verdicts start no spare hold. -/
theorem decides_spareless (n : BayId) : Decides (fun s t => s.jsc.spareHold[n] = none → t.jsc.spareHold[n] = none) where
  refl _ h := h
  trans h k w := k (h w)
  other e h := (congrArg (fun w => w.2.1.2.2.2[n]) e).trans h
  emit _ _ h := h
  cleared _ _ h := h
  unreserve _ _ _ h := h
  retire _ _ _ h := h
  deliver _ _ h := h
  account _ _ _ _ h := h
  hold _ _ _ h := h
  live _ _ h := h
  terminal _ _ h := h
  loads _ _ h := h
  image _ _ _ h := h
  freed _ _ h := h
  masters _ _ h := h
  unreserved _ h := h
  ungranted _ _ h := h
  unwaited _ _ h := h
  scan s h := by
    obtain ⟨r, ms, bs, e⟩ := s.scan_frame
    rw [e]
    exact h
  closed _ _ _ h := h
  withdrawn _ h := h
  unspared m s h := by
    by_cases e : n = m
    · subst e
      exact Vector.getElem_set_self ..
    · refine Eq.trans ?_ h
      exact Vector.getElem_set_ne m.isLt n.isLt (fun k => e (Fin.ext k.symm))
  queue _ _ h := h
  decide _ _ _ _ h := h

end State

section
variable {s : State} {n : BayId}

theorem readSilent_of_verifying (h : (s.bay n).state = .verifying) : s.readSilent n = s.giveUpRead n := by
  unfold State.readSilent
  simp only [h]

theorem readSilent_of_masterRead {i : Nat} (h : (s.bay n).state = .masterRead) (hi : s.masterImageAt n = some i)
    (hm : (s.bay n).masterReported = false) : s.readSilent n = s.masterReadFails n i := by
  unfold State.readSilent
  simp only [h, hi, hm]
  rfl

end

/-- A spare hold that ends rejects the spare CANCELLED and leaves the bay in HOLDING (R44). -/
theorem endSpareHold_ends {s : State} {n : BayId} {d : DiscId} {r : Disc} (hs : (s.bay n).state = .spare)
    (hd : s.discAt (.bay n) = some d) (hr : s.disc d = some r) (spare : r.purpose = .spare) (pending : r.verdict = .pending) :
    ((s.endSpareHold n).bay n).state = .holding ∧ ((s.endSpareHold n).bay n).offline = (s.bay n).offline ∧
      (s.endSpareHold n).disc d = some (r.decide' (some .cancelled)) ∧ (s.endSpareHold n).jsc.spareHold[n] = none := by
  generalize ht : (s.setSpareHold n none).writeVerdict d (some .cancelled) = t
  have place : t.discAt (.bay n) = some d := by
    rw [← ht]
    exact ((judges_places.writeVerdict rfl).discAt _).trans hd
  have written : t.disc d = some (r.decide' (some .cancelled)) := by
    rw [← ht]
    exact disc_writeVerdict (s := s.setSpareHold n none) hr pending
  have bay : (t.bay n).state = .spare ∧ (t.bay n).offline = (s.bay n).offline := by
    rw [← ht]
    refine (decides_of_bay n (P := fun b => b.state = .spare ∧ b.offline = (s.bay n).offline) (fun b h => ?_) (fun _ h => h)
      (fun _ _ e h => ?_)).writeVerdict rfl (s := s.setSpareHold n none) ⟨hs, rfl⟩
    · rw [h.1]
      rintro (k | k | k) <;> cases k
    · exact ⟨(congrArg Bay.state e).trans h.1, (congrArg Bay.offline e).trans h.2⟩
  have held : t.jsc.spareHold[n] = none := by
    rw [← ht]
    exact (decides_spareless n).writeVerdict rfl (s := s.setSpareHold n none) (Vector.getElem_set_self ..)
  have ends : s.endSpareHold n = t.endEarly n true := by
    have at_ : (s.setSpareHold n none).discAt (.bay n) = some d := hd
    have entry : (s.setSpareHold n none).disc d = some r := hr
    obtain ⟨y, hy, location⟩ := discAt_eq_some place
    rw [endSpareHold, at_]
    dsimp only
    rw [entry, if_pos (by simp [spare]), cancelDisc, entry, if_pos (by simp [pending]), ht, holderOnReject, hy,
      Option.map_some, location]
    dsimp only
    rw [bayOnReject, bay.1]
  rw [ends]
  exact ⟨by rw [bay_endEarly], by rw [bay_endEarly]; exact bay.2, (disc_congr endEarly_discs).trans written,
    by rw [endEarly_jsc]; exact held⟩

/-- Settles O50, by the timer that runs out. -/
theorem waitsRunOut : Obligations.WaitsRunOut := by
  intro s n rejected
  refine ⟨fun h => exec_event rfl (if_neg (by exact fun k => by simp_all)) rfl,
    fun h => exec_event rfl (if_neg (by exact fun k => by simp_all)) rfl,
    fun h => exec_event rfl (if_neg (by exact fun k => by simp_all)) rfl,
    fun d r hd hr pending => ⟨fun running hs => ?starved, fun v running hs hv => ?verify,
      fun i x running hs hm hi master hx live reading kind => ?master, fun running spare hs => ?spare⟩⟩
  case starved =>
    have run : exec (.starveTimerExpiry n) s =
        .next (((s.begin.verdict d (some .starved)).endEarly n true).settle) :=
      congrArg (fun t : State => Host.Outcome.next t.settle) ((if_pos running).trans (bayReject_of_disc (s := s.begin) hd))
    have written := disc_verdict_endEarly (m := n) (c := some .starved) (abort := true) (s := s.begin) hr pending
    have working : ((s.begin.verdict d (some .starved)).bay n).state = .writing :=
      (drains_working n (x := .writing) rfl).verdict (s := s.begin) hs
    exact ⟨_, run, ⟨by rw [bay_endEarly], by rw [written]; rfl, by rw [written]; rfl⟩,
      abort_mem_endEarly (by rw [working]; rfl), by rw [bay_endEarly]; rfl, by rw [bay_endEarly]; rfl⟩
  case verify =>
    intro pos left
    obtain rfl : v.disc = d := Option.some.inj ((verifyCtx_disc hv).symm.trans hd)
    generalize ht : s.begin.modTimers n (fun t => { t with read := none }) = t
    have bay : t.bay n = { s.bay n with timers.read := none } := by
      rw [← ht]
      exact bay_modBay_self ..
    have entry : t.disc v.disc = some r := by rw [← ht]; exact hr
    have ctx : t.verifyCtx n = some v := by rw [← ht]; exact hv
    have run : exec (.readInactivityTimerExpiry n) s = .next ((t.giveUpRead n).settle) := by
      refine congrArg (fun t : State => Host.Outcome.next t.settle) ((if_pos running).trans ?_)
      rw [ht]
      exact readSilent_of_verifying (by rw [bay]; exact hs)
    have whole : v.sampleK = none → v.mode ≠ .stop → left = v.stop - pos := fun k m => by
      rw [show left = verifySetFrom v.sampleK v.stop pos from if_neg m, k, verifySetFrom_none]
    have first : r.firstMismatch = none → pos < 4194304 → (r.mismatch pos left).firstMismatch = some pos :=
      fun none_yet below => if_pos ⟨by rw [none_yet]; rfl, below⟩
    have ends (w : State) (hw : w.disc v.disc = some r) :
        let u := (w.modDisc v.disc (Disc.mismatch pos left)).verifyReject n v.disc .verifyFailed
        rejected u v.disc .verifyFailed ∧ (u.disc v.disc).map Disc.mismatches = some (r.mismatches + left) ∧
          (r.firstMismatch = none → pos < 4194304 → (u.disc v.disc).bind Disc.firstMismatch = some pos) ∧
          (u.bay n).engine = {} ∧ (u.bay n).fifo = [] ∧ (u.bay n).holding = [] ∧ (u.bay n).timers.read = none := by
      intro u
      obtain ⟨⟨engine, fifo, holding, read⟩, rejects, written⟩ :=
        countedReject_ends (n := n) (p := pos) (k := left) hw pending
      exact ⟨rejects, congrArg (Option.map Disc.mismatches) written, fun none_yet below => by
        rw [show u.disc v.disc = _ from written]
        exact first none_yet below, engine, fifo, holding, read⟩
    by_cases hp : (s.bay n).engine.phase = .reading
    · have gives := giveUpRead_of_reading ctx (by rw [bay]; exact hp)
      rw [bay] at gives
      obtain ⟨rejects, count, at_, engine, fifo, holding, read⟩ := ends (t.toBay n .readHalt) entry
      refine ⟨_, run.trans (congrArg (fun t : State => Host.Outcome.next t.settle) gives), rejects, count, at_, whole,
        engine, fifo, holding, read, fun _ => ?_⟩
      exact ends_sent.verifyReject.subset (List.mem_append_right _ (List.mem_singleton.2 rfl))
    · have gives := giveUpRead_of_ctx ctx (by rw [bay]; exact hp)
      rw [bay] at gives
      obtain ⟨rejects, count, at_, engine, fifo, holding, read⟩ := ends t entry
      exact ⟨_, run.trans (congrArg (fun t : State => Host.Outcome.next t.settle) gives), rejects, count, at_, whole,
        engine, fifo, holding, read, fun h => absurd h hp⟩
  case master =>
    generalize ht : s.begin.modTimers n (fun t => { t with read := none }) = t
    have bay : t.bay n = { s.bay n with timers.read := none } := by
      rw [← ht]
      exact bay_modBay_self ..
    have there : t.MasterAt i n .masterRead d r := by
      refine MasterAt.of_discs (s := s) ⟨hd, hr, master, hs⟩ ?_ (by rw [bay]; exact hs)
      rw [← ht]
      rfl
    have run : exec (.readInactivityTimerExpiry n) s = .next ((t.masterReadFails n i).settle) := by
      refine congrArg (fun t : State => Host.Outcome.next t.settle) ((if_pos running).trans ?_)
      rw [ht]
      refine readSilent_of_masterRead (by rw [bay]; exact hs) ?_ (by rw [bay]; exact hm)
      rw [← ht]
      exact hi
    obtain ⟨halted, state, stopped, written, lost⟩ := there.readFails (by rw [← ht]; exact hx) live reading kind
    exact ⟨_, run, ⟨state, by rw [written]; rfl, by rw [written]; rfl⟩, halted, stopped, lost⟩
  case spare =>
    obtain ⟨state, -, written, held⟩ := endSpareHold_ends (s := s.begin) hs hd hr spare pending
    exact ⟨_, congrArg (fun t : State => Host.Outcome.next t.settle) (if_pos running), ⟨state, by rw [written]; rfl,
      by rw [written]; rfl⟩, held⟩

end Sys2Proof.Machine
end

section
/-! PROOFS. A bay that enters FAULT (O49): what it fails, ends and rejects (R109, R110, R112, R116, R119, R121). -/

namespace Sys2Proof.Machine

open State

/-- What a bay in FAULT with its disc keeps, whatever else happens. -/
def Bay.still (b : Bay) : Bay :=
  { b with
    faults := 0, offline := none, speedPending := false, holding := [], masterHeld := false, masterReported := false
    timers := { b.timers with speed := none, read := none, probe := none } }

/-- A bay in FAULT has kept its disc, its state and its timers. -/
structure State.FaultKept (n : BayId) (s t : State) : Prop where
  disc : (t.discAt (.bay n)).isSome = true
  still : (t.bay n).still = (s.bay n).still
  idle : (s.bay n).timers.read = none ∧ (s.bay n).timers.probe = none →
    (t.bay n).timers.read = none ∧ (t.bay n).timers.probe = none
  speed : s.waits n = false → t.waits n = false ∧ (t.bay n).timers.speed = (s.bay n).timers.speed

/-- A bay in FAULT with a disc and no errand keeps what it has. -/
def State.keepsFault (n : BayId) (s t : State) : Prop :=
  (s.discAt (.bay n)).isSome = true → (s.bay n).state = .fault → (s.bay n).errand = .none → s.FaultKept n t

namespace State
variable {s t : State} {n : BayId} {d : DiscId} {r : Disc}

theorem keepsFault_of_frame (hp : s.keepsField Disc.location t) (hb : t.bay n = s.bay n)
    (hq : s.waits n = false → t.waits n = false) : s.keepsFault n t := fun there _ _ =>
  { disc := by rwa [hp.discAt]
    still := by rw [hb]
    idle := fun h => by rwa [hb]
    speed := fun h => ⟨hq h, by rw [hb]⟩ }

theorem keepsFault_of_bay {m : BayId} {f : Bay → Bay}
    (h : m = n → (s.discAt (.bay n)).isSome = true → (s.bay n).state = .fault → (s.bay n).errand = .none →
      (f (s.bay n)).still = (s.bay n).still ∧
      ((s.bay n).timers.read = none ∧ (s.bay n).timers.probe = none →
        (f (s.bay n)).timers.read = none ∧ (f (s.bay n)).timers.probe = none) ∧
      (f (s.bay n)).timers.speed = (s.bay n).timers.speed) : s.keepsFault n (s.modBay m f) := by
  by_cases e : m = n
  · subst e
    intro there fault free
    obtain ⟨still, idle, speed⟩ := h rfl there fault free
    exact
      { disc := there
        still := by rw [bay_modBay_self]; exact still
        idle := by rw [bay_modBay_self]; exact idle
        speed := fun w => ⟨w, by rw [bay_modBay_self]; exact speed⟩ }
  · exact keepsFault_of_frame (fun _ => rfl) (bay_modBay_ne (Ne.symm e) ..) id

theorem keepsFault_of_same (h : t.discs = s.discs) (hb : t.bays = s.bays) (hq : t.rgu = s.rgu) : s.keepsFault n t :=
  keepsFault_of_frame (keepsField_of_discs h) (congrArg (fun w => w[n]) hb) fun w => by
    rw [waits, hq]
    exact w

/-- What follows the rejects and losses of other discs leaves a bay in FAULT as it is. -/
theorem upsets_fault (n : BayId) : Upsets (State.keepsFault n) where
  refl s := keepsFault_of_same rfl rfl rfl
  trans {s t u} h k there fault free := by
    obtain ⟨disc, still, idle, speed⟩ := h there fault free
    have fault' : (t.bay n).state = .fault := (congrArg Bay.state still).trans fault
    have free' : (t.bay n).errand = .none := (congrArg Bay.errand still).trans free
    obtain ⟨disc', still', idle', speed'⟩ := k disc fault' free'
    exact ⟨disc', still'.trans still, fun x => idle' (idle x), fun w =>
      ⟨(speed' (speed w).1).1, (speed' (speed w).1).2.trans (speed w).2⟩⟩
  other e := keepsFault_of_same (congrArg (fun w => w.1.1) e) (congrArg (fun w => w.1.2.2.2) e)
    (congrArg (fun w => w.2.2.2.2.1) e)
  emit _ _ := keepsFault_of_same rfl rfl rfl
  cleared m s := keepsFault_of_bay fun _ _ _ _ => ⟨rfl, id, rfl⟩
  unreserve m s reserved := keepsFault_of_bay fun e _ fault _ => by
    subst e
    simp [fault] at reserved
  retire m s ready := keepsFault_of_bay fun e there _ _ => by
    subst e
    simp [ready.gone] at there
  settle m s waits _ := keepsFault_of_bay fun e _ fault _ => by
    subst e
    simp [fault, BayState.waits] at waits
  deliver _ _ := keepsFault_of_same rfl rfl rfl
  account _ _ _ _ := keepsFault_of_same rfl rfl rfl
  hold _ _ _ := keepsFault_of_same rfl rfl rfl
  live _ _ := keepsFault_of_same rfl rfl rfl
  terminal _ _ := keepsFault_of_same rfl rfl rfl
  loads _ _ := keepsFault_of_same rfl rfl rfl
  image _ _ _ := keepsFault_of_same rfl rfl rfl
  freed _ _ := keepsFault_of_same rfl rfl rfl
  masters _ _ := keepsFault_of_same rfl rfl rfl
  unreserved _ := keepsFault_of_same rfl rfl rfl
  loaded _ := keepsFault_of_same rfl rfl rfl
  ungranted _ _ := keepsFault_of_frame (fun _ => rfl) rfl id
  unwaited m s := keepsFault_of_frame (fun _ => rfl) rfl fun h => (ends_waits n).unwaited m s h
  scan s there fault free :=
    { disc := by
        rw [(keepsField_of_discs (quiet_discs.scan s) : s.keepsField Disc.location s.scan).discAt]
        exact there
      still := show (s.scan.bay n).exceptSpeed.still = (s.bay n).exceptSpeed.still by rw [scan_exceptSpeed]
      idle := fun h => by
        have same : (s.scan.bay n).exceptSpeed = (s.bay n).exceptSpeed := scan_exceptSpeed
        exact ⟨(congrArg (fun b => b.timers.read) same).trans h.1, (congrArg (fun b => b.timers.probe) same).trans h.2⟩
      speed := fun w => by
        obtain ⟨bay, -, waits⟩ := scan_of_not_waits w
        exact ⟨waits, by rw [bay]⟩ }
  closed _ _ _ := keepsFault_of_same rfl rfl rfl
  withdrawn _ := keepsFault_of_same rfl rfl rfl
  unspared _ _ := keepsFault_of_same rfl rfl rfl
  queue _ _ := keepsFault_of_same rfl rfl rfl
  tsq _ _ := keepsFault_of_same rfl rfl rfl
  decide v s _ _ := keepsFault_of_frame (keepsField_modDisc _ fun r => by cases v <;> rfl) rfl id
  spare _ _ := keepsFault_of_frame (keepsField_modDisc _ fun r => rfl) rfl id
  spared _ _ := keepsFault_of_same rfl rfl rfl
  operate m s operates _ := keepsFault_of_bay fun e _ fault _ => by
    subst e
    simp [fault, BayState.operates, BayState.working, BayState.waits] at operates
  emptied m s := keepsFault_of_bay fun _ _ _ _ => ⟨rfl, fun _ => ⟨rfl, rfl⟩, rfl⟩
  shut m s errand := by
    intro there fault free
    by_cases e : m = n
    · subst e
      simp [free] at errand
    · exact keepsFault_of_frame (s := s) (t := s.moveTray m true) (fun _ => rfl) (bay_modBay_ne (Ne.symm e) ..) id there
        fault free
  opens m s placeable := by
    intro there fault free
    by_cases e : m = n
    · subst e
      simp [State.placeable, fault] at placeable
    · have same : (s.openToPlace m).bay n = s.bay n :=
        (bay_modBay_ne (Ne.symm e) ..).trans (bay_modBay_ne (Ne.symm e) ..)
      exact keepsFault_of_frame (s := s) (t := s.openToPlace m) (fun _ => rfl) same id there fault free
  halt _ _ _ := keepsFault_of_same rfl rfl rfl
  aim d x s := keepsFault_of_frame (keepsField_modDisc _ fun r => rfl) rfl id
  lose _ _ _ _ := keepsFault_of_same rfl rfl rfl
  ready _ _ := keepsFault_of_same rfl rfl rfl
  done _ _ := keepsFault_of_same rfl rfl rfl

/-- A rise of its fault count leaves a bay in FAULT as it is. -/
theorem verdicts_fault (n : BayId) : Verdicts (State.keepsFault n) where
  toDrains := (upsets_fault n).toDrains
  drain _ _ _ := keepsFault_of_same rfl rfl rfl
  blame m s hf := keepsFault_of_bay fun _ _ _ _ => by
    obtain ⟨k, o, e⟩ := hf (s.bay n)
    rw [e]
    exact ⟨rfl, id, rfl⟩

/-! ### A failed errand -/

theorem dropReservation_frame (s : State) : ∃ q p u, s.dropReservation = { s with tsq := q, psc := p, due := u } := by
  unfold dropReservation
  split
  · unfold dropMoveRes
    split
    · exact ⟨_, s.psc, _, rfl⟩
    · exact ⟨_, s.psc, _, rfl⟩
    · exact ⟨_, s.psc, _, rfl⟩
    · split
      · unfold unreserveStation
        split
        · exact ⟨_, _, _, rfl⟩
        · exact ⟨_, s.psc, _, rfl⟩
      · exact ⟨_, s.psc, _, rfl⟩
    · exact ⟨_, s.psc, _, rfl⟩
    · exact ⟨_, s.psc, _, rfl⟩
  · exact ⟨s.tsq, s.psc, s.due, rfl⟩

theorem pickFailed_frame (n : BayId) (s : State) : ∃ q p u, s.pickFailed n = { s with tsq := q, psc := p, due := u } := by
  unfold pickFailed
  split
  · split
    · obtain ⟨q, p, u, e⟩ := dropReservation_frame s
      rw [e]
      dsimp only
      split
      · exact ⟨_, p, _, rfl⟩
      · exact ⟨_, p, _, rfl⟩
    · exact ⟨s.tsq, s.psc, s.due, rfl⟩
  · exact ⟨s.tsq, s.psc, s.due, rfl⟩

theorem placeFailed_frame (n : BayId) (s : State) : ∃ q p u, s.placeFailed n = { s with tsq := q, psc := p, due := u } := by
  unfold placeFailed
  split
  · split
    · exact ⟨_, s.psc, s.due, rfl⟩
    · exact ⟨s.tsq, s.psc, s.due, rfl⟩
  · exact ⟨s.tsq, s.psc, s.due, rfl⟩

end State

/-- A bay whose errand has failed (R121). -/
def Bay.failed (b : Bay) : Bay := { b with tray := if b.errand = .none then b.tray else .unknown, errand := .none }

namespace State
variable {s t : State} {n : BayId} {d : DiscId} {r : Disc} {code : FaultCode} {abort : Bool}

theorem errandFails_frame (n : BayId) (s : State) :
    ∃ q p u, s.errandFails n = { s.modBay n Bay.failed with tsq := q, psc := p, due := u } := by
  unfold errandFails
  dsimp only
  split
  · exact pickFailed_frame n (s.modBay n Bay.failed)
  · exact placeFailed_frame n (s.modBay n Bay.failed)
  · exact ⟨s.tsq, s.psc, s.due, rfl⟩

theorem bay_errandFails : (s.errandFails n).bay n = (s.bay n).failed := by
  obtain ⟨q, p, u, e⟩ := errandFails_frame n s
  rw [e]
  exact (show _ = (s.modBay n Bay.failed).bay n from rfl).trans (bay_modBay_self ..)

theorem errandFails_discs : (s.errandFails n).discs = s.discs := by
  obtain ⟨q, p, u, e⟩ := errandFails_frame n s
  rw [e]
  rfl

theorem errandFails_waits : (s.errandFails n).waits n = s.waits n := by
  obtain ⟨q, p, u, e⟩ := errandFails_frame n s
  rw [e]
  rfl

/-! ### Into FAULT -/

/-- The bay has entered FAULT, and its record is still to be treated (R121, steps 1 to 3). -/
def faultEntered (n : BayId) (code : FaultCode) (abort : Bool) (s : State) : State :=
  let t := (s.modBay n (fun b => { b with lastFault := some code })).errandFails n
  ((if abort || (s.bay n).state.working then t.toBay n .abort else t).teardown n false).bayTo n .fault

/-- The record at a bay that has entered FAULT is treated (R121, step 4). -/
def faultTreated (n : BayId) (code : FaultCode) (s : State) : State :=
  match s.discAt (.bay n) with
  | some d => s.faultDisc d (decide (code = FaultCode.noMedia))
  | none => s

theorem bayFault_eq :
    s.bayFault n code abort =
      ((if (s.bay n).errand = .pick then (s.faultEntered n code abort).faultTreated n code
        else ((s.faultEntered n code abort).faultTreated n code).faultClear n).offlineCheck n).dueSweep.dueBoth := rfl

theorem faultEntered_bay : (s.faultEntered n code abort).bay n =
    { ({ s.bay n with lastFault := some code } : Bay).failed.quiet with state := .fault } := by
  unfold faultEntered
  dsimp only
  rw [bayTo, bay_modBay_self, bay_teardown]
  refine congrArg (fun b : Bay => { b.quiet with state := .fault }) ?_
  split
  all_goals
    exact bay_errandFails.trans (congrArg Bay.failed (bay_modBay_self ..))

theorem faultEntered_discs : (s.faultEntered n code abort).discs = s.discs := by
  unfold faultEntered
  dsimp only
  refine (teardown_discs (n := n) (abort := false)).trans ?_
  split
  all_goals exact errandFails_discs (s := s.modBay n fun b => { b with lastFault := some code })

theorem faultEntered_waits (h : s.waits n = false) : (s.faultEntered n code abort).waits n = false := by
  unfold faultEntered
  dsimp only
  refine (ends_waits n).teardown (abort := false) (by simp) ?_
  split
  all_goals exact (errandFails_waits (s := s.modBay n fun b => { b with lastFault := some code })).trans h

theorem abort_mem_faultEntered (h : abort = true ∨ (s.bay n).state.working = true) :
    .bay n .abort ∈ (s.faultEntered n code abort).sent := by
  unfold faultEntered
  dsimp only
  refine (teardown_sent (abort := false)).subset ?_
  rw [Bool.false_and, if_neg (by decide), if_pos (by rcases h with h | h <;> simp [h])]
  exact List.mem_append_right _ (List.mem_singleton.2 rfl)

theorem faultClear_upsets {R : State → State → Prop} (h : Upsets R) : R s (s.faultClear n) := h.ite h.clearFromBay

theorem faultDisc_of_verdict (hr : s.disc d = some r) (hp : r.purpose = .copy ∨ r.purpose = .spare) :
    s.faultDisc d false = s.verdict d (some .bayFault) := by
  rw [faultDisc, if_neg (by decide), hr]
  rcases hp with hp | hp <;> simp only [hp]

/-- The treatment of the record of a bay that has entered FAULT with another code than NO-MEDIA. -/
theorem faultDisc_upsets {R : State → State → Prop} (h : Upsets R) (hv : Verdicts R) :
    R s (s.faultDisc d false) := by
  unfold faultDisc
  rw [if_neg (by decide)]
  split
  · split
    · exact hv.verdict
    · exact hv.verdict
    · split
      · exact h.reportFailed
      · exact h.refl s
    · exact h.refl s
  · exact h.refl s

end State

namespace State
variable {s t : State} {n : BayId} {d : DiscId} {r : Disc} {code : FaultCode} {abort : Bool}

/-- What a pending offline may change of a bay (R127). -/
theorem offlineCheck_bay : (s.offlineCheck n).bay n = s.bay n ∨ (s.bay n).offline ≠ none ∧
    (s.offlineCheck n).bay n = (s.bay n).goesOffline := by
  unfold offlineCheck
  split
  next c hc =>
    split
    · exact .inr ⟨by simp [hc], bay_modBay_self n Bay.goesOffline s⟩
    · exact .inl rfl
  next => exact .inl rfl

end State

/-- A bay that was as `b` has entered FAULT with a code (R121); `stays` says that no pending offline takes effect. -/
structure Bay.Faulted (b : Bay) (code : FaultCode) (stays : Prop) (u : Bay) : Prop where
  code : u.lastFault = some code
  errand : u.errand = .none
  tray : b.errand ≠ .none ∨ b.tray = .unknown → u.tray = .unknown
  stopped : u.timers.probe = none ∧ u.timers.close = none ∧ u.timers.read = none ∧ u.timers.starve = none
  motion : b.timers.tray = none → u.timers.tray = none
  stays : stays → u.state = .fault ∧ u.timers.tray = b.timers.tray

namespace State
variable {s t : State} {n : BayId} {d : DiscId} {r : Disc} {code : FaultCode} {abort : Bool}

/-- The bay as it enters FAULT. -/
theorem faulted_of_entered {b : Bay} {stays : Prop} :
    b.Faulted code stays { ({ b with lastFault := some code } : Bay).failed.quiet with state := .fault } where
  code := rfl
  errand := rfl
  tray h := by
    rcases h with h | h
    · exact if_neg h
    · exact (ite_eq_right_iff.2 fun _ => h)
  stopped := ⟨rfl, rfl, rfl, rfl⟩
  motion h := h
  stays _ := ⟨rfl, rfl⟩

theorem bayFault_upsets {R : State → State → Prop} (h : Upsets R) (hv : Verdicts R) (hc : code ≠ .noMedia) :
    R (s.faultEntered n code abort) (s.bayFault n code abort) := by
  rw [bayFault_eq]
  have treated : R (s.faultEntered n code abort) ((s.faultEntered n code abort).faultTreated n code) := by
    unfold faultTreated
    rw [decide_eq_false hc]
    split
    · exact faultDisc_upsets h hv
    · exact h.refl _
  refine h.trans (h.trans (h.trans ?_ h.offlineCheck) h.dueSweep) h.dueBoth
  split
  · exact treated
  · exact h.trans treated (faultClear_upsets h)

theorem faultTreated_of_none (h : s.discAt (.bay n) = none) : s.faultTreated n code = s := by
  rw [faultTreated, h]

theorem bay_faultClear : (s.faultClear n).bay n = s.bay n := by
  unfold faultClear
  split
  · obtain ⟨q, u, e⟩ := clearFromBay_frame n s
    rw [e]
    rfl
  · rfl

/-- A bay that enters FAULT without a disc (R121, R127). -/
theorem bayFault_bay_of_none (h : s.discAt (.bay n) = none) :
    (s.bay n).Faulted code ((s.bay n).offline = none) ((s.bayFault n code abort).bay n) ∧
      ((s.bayFault n code abort).bay n).timers.speed = none := by
  have gone : (s.faultEntered n code abort).discAt (.bay n) = none :=
    ((keepsField_of_discs faultEntered_discs : s.keepsField Disc.location _).discAt _).trans h
  rw [bayFault_eq, faultTreated_of_none gone]
  generalize hw : (if (s.bay n).errand = .pick then s.faultEntered n code abort
    else (s.faultEntered n code abort).faultClear n) = w
  have bay : w.bay n = { ({ s.bay n with lastFault := some code } : Bay).failed.quiet with state := .fault } := by
    rw [← hw]
    split
    · exact faultEntered_bay
    · exact bay_faultClear.trans faultEntered_bay
  have entered := faulted_of_entered (b := s.bay n) (code := code) (stays := (s.bay n).offline = none)
  have same : ((w.offlineCheck n).dueSweep.dueBoth).bay n = (w.offlineCheck n).bay n := rfl
  rw [same]
  rcases offlineCheck_bay (s := w) (n := n) with e | ⟨pending, e⟩
  · rw [e, bay]
    exact ⟨entered, rfl⟩
  · rw [bay] at e pending
    rw [e]
    refine ⟨⟨entered.code, rfl, fun h => ?_, ⟨rfl, rfl, rfl, rfl⟩, fun _ => rfl, fun h => absurd h pending⟩, rfl⟩
    exact ite_eq_left_iff.2 fun _ => entered.tray h

/-- A bay that enters FAULT with a disc (R121). -/
theorem bayFault_bay_of_disc (h : s.discAt (.bay n) = some d) (hc : code ≠ .noMedia) :
    (s.bay n).Faulted code True ((s.bayFault n code abort).bay n) ∧
      (s.waits n = false → ((s.bayFault n code abort).bay n).timers.speed = none) := by
  have there : (s.faultEntered n code abort).discAt (.bay n) = some d :=
    ((keepsField_of_discs faultEntered_discs : s.keepsField Disc.location _).discAt _).trans h
  have bay : (s.faultEntered n code abort).bay n = _ := faultEntered_bay
  obtain ⟨-, still, idle, speed⟩ := bayFault_upsets (upsets_fault n) (verdicts_fault n) hc (s := s) (n := n) (code := code) (abort := abort)
    (by rw [there]; rfl) (by rw [bay]) (by rw [bay]; rfl)
  have entered := faulted_of_entered (b := s.bay n) (code := code) (stays := True)
  rw [bay] at still idle speed
  obtain ⟨read, probe⟩ := idle ⟨rfl, rfl⟩
  refine ⟨⟨?_, ?_, fun x => ?_, ⟨probe, ?_, read, ?_⟩, fun x => ?_, fun _ => ⟨?_, ?_⟩⟩, fun w => ?_⟩
  · exact congrArg Bay.lastFault still
  · exact congrArg Bay.errand still
  · exact (congrArg Bay.tray still).trans (entered.tray x)
  · exact congrArg (fun b => b.timers.close) still
  · exact congrArg (fun b => b.timers.starve) still
  · exact (congrArg (fun b => b.timers.tray) still).trans x
  · exact congrArg Bay.state still
  · exact congrArg (fun b => b.timers.tray) still
  · exact (speed (faultEntered_waits w)).2

/-- A pending copy or spare at a bay that enters FAULT is rejected BAY-FAULT (R121). -/
theorem bayFault_disc (h : s.discAt (.bay n) = some d) (hc : code ≠ .noMedia) (hr : s.disc d = some r)
    (purpose : r.purpose = .copy ∨ r.purpose = .spare) (pending : r.verdict = .pending) :
    (s.bayFault n code abort).disc d = some (r.decide' (some .bayFault)) := by
  have there : (s.faultEntered n code abort).discAt (.bay n) = some d :=
    ((keepsField_of_discs faultEntered_discs : s.keepsField Disc.location _).discAt _).trans h
  have entry : (s.faultEntered n code abort).disc d = some r := (disc_congr faultEntered_discs).trans hr
  have treated : ((s.faultEntered n code abort).faultTreated n code).disc d = some (r.decide' (some .bayFault)) := by
    rw [faultTreated, there]
    dsimp only
    rw [decide_eq_false hc, faultDisc_of_verdict entry purpose]
    exact disc_verdict entry pending
  rw [bayFault_eq]
  refine Eq.trans (disc_congr ?_) treated
  refine quiet_discs.trans (t := (if (s.bay n).errand = .pick then (s.faultEntered n code abort).faultTreated n code
    else ((s.faultEntered n code abort).faultTreated n code).faultClear n)) ?_
    (quiet_discs.trans (quiet_discs.trans quiet_discs.offlineCheck quiet_discs.dueSweep) quiet_discs.dueBoth)
  split
  · rfl
  · exact quiet_discs.ite quiet_discs.clearFromBay

theorem abort_mem_bayFault (h : abort = true ∨ (s.bay n).state.working = true) (hc : code ≠ .noMedia) :
    .bay n .abort ∈ (s.bayFault n code abort).sent :=
  (bayFault_upsets upsets_sent ends_sent.toVerdicts hc).subset (abort_mem_faultEntered h)

/-- A bay in FAULT takes the new code (R121, R109). -/
theorem bayFaultAgain_bay :
    ((s.bayFaultAgain n code).bay n).lastFault = some code ∧
      ((s.bay n).errand ≠ .none → ((s.bayFaultAgain n code).bay n).errand = .none ∧
        ((s.bayFaultAgain n code).bay n).tray = .unknown) ∧
      ((s.bay n).offline = none ∨ (s.discAt (.bay n)).isSome = true →
        ((s.bayFaultAgain n code).bay n).state = (s.bay n).state ∧
        ((s.bayFaultAgain n code).bay n).timers = (s.bay n).timers) ∧
      (s.bayFaultAgain n code).discs = s.discs := by
  generalize hw : (s.modBay n (fun b => { b with lastFault := some code })).errandFails n = w
  have bay : w.bay n = ({ s.bay n with lastFault := some code } : Bay).failed := by
    rw [← hw]
    exact bay_errandFails.trans (congrArg Bay.failed (bay_modBay_self ..))
  have discs : w.discs = s.discs := by
    rw [← hw]
    exact errandFails_discs
  have again : s.bayFaultAgain n code = ((w.offlineCheck n).dueSweep).dueBoth := by rw [← hw]; rfl
  have same : (((w.offlineCheck n).dueSweep).dueBoth).bay n = (w.offlineCheck n).bay n := rfl
  have kept : (((w.offlineCheck n).dueSweep).dueBoth).discs = s.discs :=
    (quiet_discs.trans (quiet_discs.trans quiet_discs.offlineCheck quiet_discs.dueSweep) quiet_discs.dueBoth).trans discs
  rw [again, same]
  refine ⟨?_, fun e => ?_, fun stays => ?_, kept⟩
  · rcases offlineCheck_bay (s := w) (n := n) with h | ⟨-, h⟩ <;> rw [h, bay] <;> rfl
  · have tray : (w.bay n).tray = .unknown := by rw [bay]; exact if_neg e
    rcases offlineCheck_bay (s := w) (n := n) with h | ⟨-, h⟩
    · rw [h]
      exact ⟨by rw [bay]; rfl, tray⟩
    · rw [h]
      exact ⟨rfl, ite_eq_left_iff.2 fun _ => tray⟩
  · have unchanged : (w.offlineCheck n).bay n = w.bay n := by
      rcases stays with none_ | there
      · exact (offlineCheck_bay (s := w) (n := n)).resolve_right fun h => h.1 (by rw [bay]; exact none_)
      · have place : (w.discAt (.bay n)).isSome = true := by
          rwa [(keepsField_of_discs discs : s.keepsField Disc.location w).discAt]
        have ready : w.offlineReady n = false := by
          rw [offlineReady]
          simp [Option.isSome_iff_ne_none.1 place]
        unfold offlineCheck
        split
        · rw [ready]
          rfl
        · rfl
    rw [unchanged, bay]
    exact ⟨rfl, rfl⟩

end State

/-- Settles O49, by whether the bay is in FAULT already. -/
theorem baysFault : Obligations.BaysFault := by
  intro s n code stays faulted ended
  -- A bay that is as `b` in the state `t` enters FAULT.
  have enters (t : State) (c : FaultCode) (abort : Bool) (hc : c ≠ .noMedia) (hd : t.discs = s.discs)
      (hw : s.waits n = false → t.waits n = false) (errand : (t.bay n).errand = (s.bay n).errand)
      (offline : (t.bay n).offline = (s.bay n).offline) :
      faulted (t.bayFault n c abort) c ∧ ended (t.bayFault n c abort) ∧
        ((t.bay n).tray = .unknown → ((t.bayFault n c abort).bay n).tray = .unknown) ∧
        ((t.bay n).timers.tray = none → ((t.bayFault n c abort).bay n).timers.tray = none) ∧
        (stays → ((t.bayFault n c abort).bay n).timers.tray = (t.bay n).timers.tray) := by
    have places : t.discAt (.bay n) = s.discAt (.bay n) :=
      (keepsField_of_discs hd : s.keepsField Disc.location t).discAt _
    have outcome : ∃ p : Prop, (stays → p) ∧ (t.bay n).Faulted c p ((t.bayFault n c abort).bay n) ∧
        (s.waits n = false → ((t.bayFault n c abort).bay n).timers.speed = none) := by
      cases h : t.discAt (.bay n) with
      | none =>
        obtain ⟨faulty, speed⟩ := bayFault_bay_of_none (code := c) (abort := abort) h
        refine ⟨_, fun x => ?_, faulty, fun _ => speed⟩
        rcases x with x | x
        · exact offline.trans x
        · simp [← places, h] at x
      | some d =>
        obtain ⟨faulty, speed⟩ := bayFault_bay_of_disc (code := c) (abort := abort) h hc
        exact ⟨_, fun _ => trivial, faulty, fun w => speed (hw w)⟩
    obtain ⟨p, hp, ⟨code', errand', tray', ⟨probe, close, read, starve⟩, motion, still⟩, speed⟩ := outcome
    refine ⟨⟨code', fun x => (still (hp x)).1, fun x => ⟨errand', tray' (.inl (errand ▸ x))⟩⟩,
      ⟨probe, close, read, starve, speed, fun d r hd' hr purpose pending => ?_⟩, fun x => tray' (.inr x), motion,
      fun x => (still (hp x)).2⟩
    rw [bayFault_disc (places.trans hd') hc ((disc_congr hd).trans hr) purpose pending]
    exact ⟨rfl, rfl⟩
  refine ⟨fun h => ?absent, fun h => ?offline, fun h => ?again, fun absent offline fault => ?fault,
    fun fault => ⟨fun running => ?tray, fun running => ?probe, fun running => ?speed, fun running => ?close⟩⟩
  case absent =>
    refine exec_event rfl ?_ rfl
    have : (s.begin.bay n).state = .absent := h
    simp only [this]
  case offline =>
    refine exec_event rfl ?_ rfl
    have : (s.begin.bay n).state = .offline := h
    simp only [this]
  case again =>
    have run : exec (.fault n code) s = .next ((s.begin.bayFaultAgain n (.bridge code)).settle) := by
      refine congrArg (fun t : State => Host.Outcome.next t.settle) ?_
      have : (s.begin.bay n).state = .fault := h
      simp only [this]
      exact if_pos this
    obtain ⟨last, errand, kept, discs⟩ := bayFaultAgain_bay (s := s.begin) (n := n) (code := .bridge code)
    exact ⟨_, run, ⟨last, fun x => (kept x).1.trans h, errand⟩, discs, fun x => (kept x).2⟩
  case fault =>
    have run : exec (.fault n code) s = .next ((s.begin.bayFault n (.bridge code) false).settle) := by
      refine congrArg (fun t : State => Host.Outcome.next t.settle) (Eq.trans
        (b := s.begin.faultNow n (.bridge code) false) ?_ (if_neg fault))
      split
      next h => exact absurd h absent
      next h => exact absurd h offline
      next => rfl
    obtain ⟨faulty, over', -, -, tray⟩ := enters s.begin (.bridge code) false (by simp) rfl id rfl rfl
    refine ⟨_, run, faulty, over', tray, fun h => abort_mem_bayFault (.inr ?_) (by simp)⟩
    rcases h with h | h | h | h | h <;> exact (congrArg BayState.working h).trans rfl
  case tray =>
    generalize ht : s.begin.modBay n (fun b => { b with tray := .unknown, timers.tray := none }) = t
    have bay : t.bay n = { s.bay n with tray := .unknown, timers.tray := none } := by
      rw [← ht]
      exact bay_modBay_self ..
    have run : exec (.trayMotionTimerExpiry n) s = .next ((t.bayFault n .trayTimeout false).settle) := by
      refine congrArg (fun t : State => Host.Outcome.next t.settle) ((if_pos running).trans ?_)
      rw [ht]
      exact if_neg (by rw [bay]; exact fault)
    obtain ⟨faulty, over', tray, motion, -⟩ := enters t .trayTimeout false (by simp) (by rw [← ht]; rfl)
      (fun w => by rw [← ht]; exact w) (by rw [bay]) (by rw [bay])
    exact ⟨_, run, faulty, over', motion (by rw [bay]), tray (by rw [bay])⟩
  case probe =>
    generalize ht : s.begin.modTimers n (fun t => { t with probe := none }) = t
    have bay : t.bay n = { s.bay n with timers.probe := none } := by
      rw [← ht]
      exact bay_modBay_self ..
    have run : exec (.probeTimerExpiry n) s = .next ((t.bayFault n .probeTimeout true).settle) := by
      refine congrArg (fun t : State => Host.Outcome.next t.settle) ((if_pos running).trans ?_)
      rw [ht]
      exact if_neg (by rw [bay]; exact fault)
    obtain ⟨faulty, over', -⟩ := enters t .probeTimeout true (by simp) (by rw [← ht]; rfl)
      (fun w => by rw [← ht]; exact w) (by rw [bay]) (by rw [bay])
    exact ⟨_, run, faulty, over', abort_mem_bayFault (.inl rfl) (by simp)⟩
  case speed =>
    have run : exec (.speedReportTimerExpiry n) s = .next ((s.begin.bayFault n .speedTimeout true).settle) :=
      congrArg (fun t : State => Host.Outcome.next t.settle) ((if_pos running).trans (if_neg fault))
    obtain ⟨faulty, over', -⟩ := enters s.begin .speedTimeout true (by simp) rfl id rfl rfl
    exact ⟨_, run, faulty, over', abort_mem_bayFault (.inl rfl) (by simp)⟩
  case close =>
    have run : exec (.burnCloseTimerExpiry n) s = .next ((s.begin.bayFault n .closeTimeout true).settle) :=
      congrArg (fun t : State => Host.Outcome.next t.settle) ((if_pos running).trans (if_neg fault))
    obtain ⟨faulty, over', -⟩ := enters s.begin .closeTimeout true (by simp) rfl id rfl rfl
    exact ⟨_, run, faulty, over', abort_mem_bayFault (.inl rfl) (by simp)⟩

end Sys2Proof.Machine
end

section
/-! PROOFS. The probe (O41): what a media report leads to, and the disc that is not there (R17, R67, R110, R111, R123,
R124). -/

namespace Sys2Proof.Machine

open State

/-! ### A record that is lost -/

/-- The accounts of a job that a verdict changes (R14, R33). -/
def Job.accounts (j : Job) := (j.rejected, j.budgetRejects, j.log)

namespace State
variable {s t : State} {n : BayId} {d : DiscId} {r : Disc} {j : Job} {k i : Nat}

theorem deleteDisc_mild {R : State → State → Prop} (h : Mild R) (freed : ∀ t : State, R t (t.freeSlot d)) :
    R s (s.deleteDisc d) := by
  unfold deleteDisc
  split
  next r _ =>
    have gone : R s (((s.freeSlot d).dropEntries d).stopSpareHold r) :=
      h.trans (t := (s.freeSlot d).dropEntries d) (h.trans (freed s) (h.queue _ _)) h.stopSpareHold
    dsimp only
    split
    · exact h.trans (h.trans (h.trans gone h.dropCopyRes) h.terminalTest) h.duePass
    · exact h.trans (h.trans gone h.terminalTest) h.duePass
    · exact gone
  next => exact h.refl s

theorem loseDisc_decides {R : State → State → Prop} (h : Decides R) (freed : ∀ t : State, R t (t.freeSlot d)) :
    R s (s.loseDisc d) := h.trans (h.writeVerdict rfl) (deleteDisc_mild h.toMild freed)

/-- A free slot of the disc table stays free. -/
theorem upsets_slotFree (d : DiscId) : Upsets (fun s t => s.disc d = none → t.disc d = none) := by
  have keeps (s t : State) (e : t.discs = s.discs) (h : s.disc d = none) : t.disc d = none := (disc_congr e).trans h
  have mods (s : State) (c : DiscId) (f : Disc → Disc) (h : s.disc d = none) : (s.modDisc c f).disc d = none := by
    by_cases e : d = c
    · subst e
      rw [disc_modDisc_self, h]
      rfl
    · rw [disc_modDisc_ne e, h]
  have quiet : Quiet (fun s t => s.disc d = none → t.disc d = none) := .of_discs keeps fun h k w => k (h w)
  exact
    { toMild := quiet.toMild
      loaded := fun _ h => h
      tsq := fun _ _ h => h
      account := fun _ _ _ _ h => h
      decide := fun _ s _ _ => mods s _ _
      settle := fun _ _ _ _ h => h
      spare := fun {c r s} _ _ => mods s c _
      spared := fun _ _ h => h
      operate := fun _ _ _ _ h => h
      emptied := fun _ _ h => h
      shut := fun _ _ _ h => h
      opens := fun _ _ _ h => h
      halt := fun _ _ _ h => h
      aim := fun c x s => mods s c _
      lose := fun {_ _} _ {_} _ _ h => h
      ready := fun {i x s} _ _ h => h
      done := fun _ _ h => h }

theorem deleteDisc_disc : (s.deleteDisc d).disc d = none := by
  unfold deleteDisc
  split
  next r _ =>
    have free : (s.freeSlot d).disc d = none := Vector.getElem_set_self ..
    have gone : (((s.freeSlot d).dropEntries d).stopSpareHold r).disc d = none :=
      (disc_congr (quiet_discs.stopSpareHold (s := (s.freeSlot d).dropEntries d))).trans free
    dsimp only
    split
    · exact (disc_congr (quiet_discs.trans (quiet_discs.trans quiet_discs.dropCopyRes quiet_discs.terminalTest)
        quiet_discs.duePass)).trans gone
    · exact (disc_congr (quiet_discs.trans quiet_discs.terminalTest quiet_discs.duePass)).trans gone
    · exact gone
  next h => exact h

/-! ### The accounts of a job -/

theorem accounts_modJob {m : Nat} {f : Job → Job} (hf : ∀ x, (f x).number = x.number) (ha : ∀ x, (f x).accounts = x.accounts) :
    ((s.modJob m f).job? k).map Job.accounts = (s.job? k).map Job.accounts := by
  rw [job?_modJob hf]
  split
  · rw [Option.map_map]
    exact congrArg (fun g => (s.job? k).map g) (funext ha)
  · rfl

/-- What follows a verdict keeps the accounts of every job. -/
theorem quiet_accounts (k : Nat) : Quiet (fun s t => (t.job? k).map Job.accounts = (s.job? k).map Job.accounts) := by
  have keeps (s t : State) (e : t.jsc.jobs = s.jsc.jobs) :
      (t.job? k).map Job.accounts = (s.job? k).map Job.accounts := by rw [job?, job?, e]
  exact
    { refl := fun _ => rfl
      trans := fun h k => k.trans h
      other := fun e => keeps _ _ (congrArg (fun w => w.2.1.1) e)
      emit := fun _ _ => rfl
      cleared := fun _ _ => rfl
      unreserve := fun _ _ _ => rfl
      retire := fun _ _ _ => rfl
      deliver := fun _ _ => rfl
      hold := fun _ _ _ => by refine accounts_modJob ?_ ?_ <;> exact fun _ => rfl
      live := fun _ _ => by refine accounts_modJob ?_ ?_ <;> exact fun _ => rfl
      terminal := fun _ _ => by refine accounts_modJob ?_ ?_ <;> exact fun _ => rfl
      loads := fun _ _ => by refine accounts_modJob ?_ ?_ <;> exact fun _ => rfl
      image := fun _ _ _ => rfl
      freed := fun _ _ => rfl
      masters := fun _ _ => rfl
      unreserved := fun _ => rfl
      ungranted := fun _ _ => rfl
      unwaited := fun _ _ => rfl
      scan := fun s => keeps _ _ (by
        obtain ⟨r, ms, bs, e⟩ := s.scan_frame
        rw [e])
      closed := fun _ _ _ => rfl
      withdrawn := fun _ => rfl
      unspared := fun _ _ => rfl
      queue := fun _ _ => rfl
      bay := fun _ _ _ => rfl
      rest := fun _ _ _ => rfl }

theorem Job.account_number (r : Disc) (v : Option RejectCause) (j : Job) : (Job.account r v j).number = j.number := by
  cases v <;> rfl

/-- A verdict counts in the accounts of its record's job, once (R14). -/
theorem writeVerdict_accounts {c : RejectCause} (hr : s.disc d = some r) (hp : r.verdict = .pending)
    (hk : r.job = some k) (hj : s.job? k = some j) :
    ((s.writeVerdict d (some c)).job? k).map Job.accounts = some (Job.account r (some c) j).accounts := by
  rw [writeVerdict_of_pending hr hp]
  have before : ((s.modDisc d (Disc.decide' (some c))).stopSpareHold r).job? k = some j := by
    refine Eq.trans ?_ hj
    unfold stopSpareHold
    split <;> rfl
  generalize (s.modDisc d (Disc.decide' (some c))).stopSpareHold r = t at before
  refine ((quiet_accounts k).handResult_of_job (fun _ _ _ _ _ => (quiet_accounts k).raiseFaults) hk).trans ?_
  rw [job?_modJob_self (Job.account_number r (some c)) before]
  rfl

end State

/-! ### A bay that has faulted over a lost disc -/

/-- The bay has faulted with a code; `o` says that no offline is pending. -/
structure State.Noted (s : State) (n : BayId) (code : FaultCode) (o : Prop) : Prop where
  code : (s.bay n).lastFault = some code
  errand : (s.bay n).errand = .none
  state : (s.bay n).state = .fault ∨ (s.bay n).state = .offline
  stays : o → (s.bay n).offline = none ∧ (s.bay n).state = .fault

namespace State
variable {s t : State} {n : BayId} {d : DiscId} {r : Disc} {code : FaultCode} {o : Prop}

theorem Noted.of_bay (h : s.Noted n code o) (e : t.bay n = s.bay n) : t.Noted n code o := by
  obtain ⟨a, b, c, f⟩ := h
  exact ⟨by rw [e]; exact a, by rw [e]; exact b, by rw [e]; exact c, by rw [e]; exact f⟩

theorem Noted.modBay {m : BayId} {f : Bay → Bay} (h : s.Noted n code o)
    (hf : m = n → (f (s.bay n)).lastFault = (s.bay n).lastFault ∧ (f (s.bay n)).errand = .none ∧
      ((f (s.bay n)).state = (s.bay n).state ∧ (f (s.bay n)).offline = (s.bay n).offline ∨
        ¬ o ∧ (f (s.bay n)).state = .offline)) : (s.modBay m f).Noted n code o := by
  by_cases e : m = n
  · subst e
    obtain ⟨code', errand, kept⟩ := hf rfl
    refine ⟨by rw [bay_modBay_self, code', h.code], by rw [bay_modBay_self, errand], ?_, ?_⟩
    · rw [bay_modBay_self]
      rcases kept with ⟨state, -⟩ | ⟨-, state⟩
      · rw [state]
        exact h.state
      · exact .inr state
    · rw [bay_modBay_self]
      rcases kept with ⟨state, offline⟩ | ⟨no, -⟩
      · rw [state, offline]
        exact h.stays
      · exact fun yes => absurd yes no
  · exact h.of_bay (bay_modBay_ne (Ne.symm e) ..)

theorem Noted.not_operates (h : s.Noted n code o) : (s.bay n).state.operates = false := by
  rcases h.state with e | e <;> rw [e] <;> rfl

/-- A faulted bay with no errand keeps its code, and stays in FAULT while no offline is pending. -/
theorem upsets_noted (n : BayId) (code : FaultCode) (o : Prop) :
    Upsets (fun s t => s.Noted n code o → t.Noted n code o) where
  refl _ h := h
  trans h k w := k (h w)
  other e h := h.of_bay (congrArg (fun w => w.1.2.2.2[n]) e)
  emit _ _ h := h.of_bay rfl
  cleared m s h := h.modBay fun _ => ⟨rfl, h.errand, .inl ⟨rfl, rfl⟩⟩
  unreserve m s reserved h := h.modBay fun e => by
    subst e
    have still := h.state
    simp [reserved] at still
  retire m s ready h := h.modBay fun e => by
    subst e
    exact ⟨rfl, rfl, .inr ⟨fun yes => ready.pending (h.stays yes).1, rfl⟩⟩
  deliver _ _ h := h.of_bay rfl
  account _ _ _ _ h := h.of_bay rfl
  hold _ _ _ h := h.of_bay rfl
  live _ _ h := h.of_bay rfl
  terminal _ _ h := h.of_bay rfl
  loads _ _ h := h.of_bay rfl
  image _ _ _ h := h.of_bay rfl
  freed _ _ h := h.of_bay rfl
  masters _ _ h := h.of_bay rfl
  unreserved _ h := h.of_bay rfl
  loaded _ h := h.of_bay rfl
  ungranted _ _ h := h.of_bay rfl
  unwaited _ _ h := h.of_bay rfl
  scan s h := by
    have same : (s.scan.bay n).exceptSpeed = (s.bay n).exceptSpeed := scan_exceptSpeed
    have state : (s.scan.bay n).state = (s.bay n).state :=
      show (s.scan.bay n).exceptSpeed.state = (s.bay n).exceptSpeed.state by rw [same]
    have offline : (s.scan.bay n).offline = (s.bay n).offline :=
      show (s.scan.bay n).exceptSpeed.offline = (s.bay n).exceptSpeed.offline by rw [same]
    exact ⟨(congrArg Bay.lastFault same).trans h.code, (congrArg Bay.errand same).trans h.errand,
      by rw [state]; exact h.state, by rw [state, offline]; exact h.stays⟩
  closed _ _ _ h := h.of_bay rfl
  withdrawn _ h := h.of_bay rfl
  unspared _ _ h := h.of_bay rfl
  queue _ _ h := h.of_bay rfl
  tsq _ _ h := h.of_bay rfl
  decide _ _ _ _ h := h.of_bay rfl
  settle m s waits _ h := h.modBay fun e => by
    subst e
    have idle := h.not_operates
    simp [BayState.operates, waits] at idle
  spare _ _ h := h.of_bay rfl
  spared _ _ h := h.of_bay rfl
  operate m s operates _ h := h.modBay fun e => by
    subst e
    simp [h.not_operates] at operates
  emptied m s h := h.modBay fun _ => ⟨rfl, h.errand, .inl ⟨rfl, rfl⟩⟩
  shut m s errand h := (h.of_bay rfl : (s.toBay m .trayClose).Noted n code o).modBay fun e => by
    subst e
    simp [h.errand] at errand
  opens m s placeable h := by
    by_cases e : m = n
    · subst e
      have still := h.state
      rcases still with e | e <;> simp [State.placeable, e] at placeable
    · have same : (s.openToPlace m).bay n = s.bay n :=
        (bay_modBay_ne (Ne.symm e) ..).trans (bay_modBay_ne (Ne.symm e) ..)
      exact h.of_bay same
  halt _ _ _ h := h.of_bay rfl
  aim _ _ _ h := h.of_bay rfl
  lose _ _ _ _ h := h.of_bay rfl
  ready _ _ h := h.of_bay rfl
  done _ _ h := h.of_bay rfl

/-! ### No media -/

theorem teardown_tables {abort : Bool} : (s.teardown n abort).jsc = s.jsc ∧ (s.teardown n abort).cat = s.cat := by
  unfold teardown
  dsimp only
  split
  all_goals
    obtain ⟨_, _, _, _, _, e⟩ := withdraw_frame n _
    rw [e]
    exact ⟨rfl, rfl⟩

/-- A bay that enters FAULT leaves the jobs and the catalogue. -/
theorem faultEntered_tables {abort : Bool} :
    (s.faultEntered n code abort).jsc = s.jsc ∧ (s.faultEntered n code abort).cat = s.cat := by
  unfold faultEntered
  dsimp only
  obtain ⟨_, _, _, e⟩ := errandFails_frame n (s.modBay n (fun b => { b with lastFault := some code }))
  rw [e]
  refine ⟨teardown_tables.1.trans ?_, teardown_tables.2.trans ?_⟩
  all_goals split <;> rfl

/-- What the FAULT of a probe that found no media does after the bay has entered it (R110, R17). -/
theorem noMedia_decides {R : State → State → Prop} {abort : Bool} (h : Decides R) (freed : ∀ t : State, R t (t.freeSlot d))
    (hd : s.discAt (.bay n) = some d) : R (s.faultEntered n .noMedia abort) (s.bayFault n .noMedia abort) := by
  have there : (s.faultEntered n .noMedia abort).discAt (.bay n) = some d :=
    ((keepsField_of_discs faultEntered_discs : s.keepsField Disc.location _).discAt _).trans hd
  have treated : R (s.faultEntered n .noMedia abort) ((s.faultEntered n .noMedia abort).faultTreated n .noMedia) := by
    unfold faultTreated
    rw [there]
    exact loseDisc_decides h freed
  rw [bayFault_eq]
  refine h.trans (h.trans (h.trans ?_ h.offlineCheck) h.dueSweep) h.dueBoth
  split
  · exact treated
  · exact h.trans treated (h.ite h.clearFromBay)

theorem bayFault_noMedia_disc {abort : Bool} (hd : s.discAt (.bay n) = some d) :
    (s.bayFault n .noMedia abort).disc d = none := by
  have there : (s.faultEntered n .noMedia abort).discAt (.bay n) = some d :=
    ((keepsField_of_discs faultEntered_discs : s.keepsField Disc.location _).discAt _).trans hd
  have treated : ((s.faultEntered n .noMedia abort).faultTreated n .noMedia).disc d = none := by
    unfold faultTreated
    rw [there]
    exact deleteDisc_disc
  have h := upsets_slotFree d
  rw [bayFault_eq]
  refine h.trans (h.trans (h.trans ?_ h.offlineCheck) h.dueSweep) h.dueBoth treated
  split
  · exact h.refl _
  · exact h.ite h.clearFromBay

theorem noted_of_entered {abort : Bool} :
    (s.faultEntered n code abort).Noted n code ((s.bay n).offline = none) := by
  have bay : (s.faultEntered n code abort).bay n = _ := faultEntered_bay
  exact ⟨by rw [bay]; rfl, by rw [bay]; rfl, by rw [bay]; exact .inl rfl, by rw [bay]; exact fun h => ⟨h, rfl⟩⟩

/-- What follows the FAULT of a probe that found no media: the read of a master has failed (R124). -/
theorem probedNothing_upsets {R : State → State → Prop} (h : Upsets R) :
    R (s.bayFault n .noMedia false) (s.probedNothing n r) := by
  unfold probedNothing
  dsimp only
  split
  · exact h.readFailed
  · exact h.refl _

/-- The loss of the record of a copy is counted in its job, once (R17, R14). -/
theorem noMedia_accounts {abort : Bool} {j : Job} {k : Nat} (hd : s.discAt (.bay n) = some d) (hr : s.disc d = some r)
    (hp : r.verdict = .pending) (hk : r.job = some k) (hj : s.job? k = some j) :
    ((s.bayFault n .noMedia abort).job? k).map Job.accounts = some (Job.account r (some .lost) j).accounts := by
  generalize hu : s.faultEntered n .noMedia abort = u
  have discs : u.discs = s.discs := by rw [← hu]; exact faultEntered_discs
  have there : u.discAt (.bay n) = some d := ((keepsField_of_discs discs : s.keepsField Disc.location _).discAt _).trans hd
  have jobs : u.job? k = some j := by
    refine Eq.trans ?_ hj
    rw [← hu, job?, job?, faultEntered_tables.1]
  have treated : u.faultTreated n .noMedia = (u.writeVerdict d (some .lost)).deleteDisc d := by
    rw [faultTreated, there]
    rfl
  have quiet := quiet_accounts k
  have lost := writeVerdict_accounts (c := .lost) ((disc_congr discs).trans hr) hp hk jobs
  refine Eq.trans (b := ((u.writeVerdict d (some .lost)).job? k).map Job.accounts) ?_ lost
  rw [bayFault_eq, hu, treated]
  refine quiet.trans (quiet.trans (quiet.trans ?_ quiet.offlineCheck) quiet.dueSweep) quiet.dueBoth
  split
  · exact deleteDisc_mild quiet.toMild fun _ => rfl
  · exact quiet.trans (deleteDisc_mild quiet.toMild fun _ => rfl) (quiet.ite quiet.clearFromBay)

/-- The image of a master whose bay found no media is lost (R124). -/
theorem probedNothing_lostFor {i : Nat} {x : Image} (hd : s.discAt (.bay n) = some d) (hp : r.purpose = .master)
    (hi : r.image = some i) (hx : s.image? i = some x) (live : x.state ≠ .lost) (reading : x.readDone = false) :
    (s.probedNothing n r).lostFor i .aborted := by
  have read : (s.bayFault n .noMedia false).everyImage i (fun y => y.state ≠ .lost ∧ y.readDone = false) := by
    refine noMedia_decides (decides_images i fun _ _ _ _ h => h) (fun _ h => h) hd fun y hy => ?_
    rw [image?, faultEntered_tables.2] at hy
    cases hy.symm.trans hx
    exact ⟨live, reading⟩
  unfold probedNothing
  dsimp only
  rw [hp, hi]
  dsimp only
  unfold readFailed
  cases hy : (s.bayFault n .noMedia false).image? i with
  | none =>
    intro y hy'
    rw [Option.any_none, if_neg (by decide), hy] at hy'
    contradiction
  | some y =>
    obtain ⟨live', reading'⟩ := read y hy
    rw [Option.any_some, reading', if_pos (by rfl)]
    exact imageLost_lostFor hy live'

theorem probedNothing_of_other (h : r.purpose ≠ .master) : s.probedNothing n r = s.bayFault n .noMedia false := by
  unfold probedNothing
  dsimp only
  split
  next hp _ => exact absurd hp h
  next => rfl

/-! ### A report -/

theorem probedCopy_of_reject {m : MediaReport} {j : Job} {c : RejectCause} (hj : s.jobOf r = some j)
    (h : probeReject m j (((s.writeMedia d m).handClassTest r j m).copyLength r) = some c) :
    s.probedCopy n d r m = (((s.writeMedia d m).handClassTest r j m).verdict d (some c)).hold n := by
  unfold probedCopy
  rw [hj]
  dsimp only
  rw [h]

theorem probedCopy_of_good {m : MediaReport} {j : Job} (hj : s.jobOf r = some j)
    (h : probeReject m j (((s.writeMedia d m).handClassTest r j m).copyLength r) = none) :
    s.probedCopy n d r m = ((s.writeMedia d m).handClassTest r j m).towardGrant n .write := by
  unfold probedCopy
  rw [hj]
  dsimp only
  rw [h]

end State

/-! ### PROBE-REPORT -/

section
variable {s : State} {n : BayId} {d : DiscId} {r : Disc} {m : MediaReport}

theorem probeReport_of_probing {report : Option MediaReport} (hs : (s.bay n).state = .probing)
    (he : (s.bay n).errand ≠ .sense) :
    exec (.probeReport n report) s = .next ((s.begin.probed n report).settle) :=
  congrArg (fun t : State => Host.Outcome.next t.settle) ((if_neg fun h => he h.1).trans (if_pos hs))

/-- The probe timer of a bay stops. -/
def State.unprobed (s : State) (n : BayId) : State := s.modTimers n (fun t => { t with probe := none })

variable (hd : s.discAt (.bay n) = some d) (hr : s.disc d = some r)
include hd hr

theorem probed_of_none : s.probed n none = (s.unprobed n).probedNothing n r := by
  unfold State.probed
  dsimp only
  rw [show (s.modTimers n (fun t => { t with probe := none })).discAt (.bay n) = some d from hd]
  dsimp only
  rw [show (s.modTimers n (fun t => { t with probe := none })).disc d = some r from hr]
  rfl

theorem probed_of_copy (hp : r.purpose = .copy) : s.probed n (some m) = (s.unprobed n).probedCopy n d r m := by
  unfold State.probed
  dsimp only
  rw [show (s.modTimers n (fun t => { t with probe := none })).discAt (.bay n) = some d from hd]
  dsimp only
  rw [show (s.modTimers n (fun t => { t with probe := none })).disc d = some r from hr]
  dsimp only
  rw [hp]
  rfl

theorem probed_of_spare (hp : r.purpose = .spare) : s.probed n (some m) = (s.unprobed n).probedSpare n d m := by
  unfold State.probed
  dsimp only
  rw [show (s.modTimers n (fun t => { t with probe := none })).discAt (.bay n) = some d from hd]
  dsimp only
  rw [show (s.modTimers n (fun t => { t with probe := none })).disc d = some r from hr]
  dsimp only
  rw [hp]
  rfl

theorem probed_of_master {i : Nat} (hp : r.purpose = .master) (hi : r.image = some i) :
    s.probed n (some m) = (s.unprobed n).probedMaster n d i m := by
  unfold State.probed
  dsimp only
  rw [show (s.modTimers n (fun t => { t with probe := none })).discAt (.bay n) = some d from hd]
  dsimp only
  rw [show (s.modTimers n (fun t => { t with probe := none })).disc d = some r from hr]
  dsimp only
  rw [hp, hi]
  rfl

end

/-- Settles O41, by the report and the purpose of the disc. -/
theorem probesJudgeTheMedia : Obligations.ProbesJudgeTheMedia := by
  intro s n report
  refine ⟨fun hs he => ?discarded, fun d r hs he hd hr => ?_⟩
  case discarded =>
    refine exec_event rfl ?_ rfl
    exact (if_neg fun h => he h.1).trans (if_neg hs)
  intro quiet
  have at_ : quiet.discAt (.bay n) = some d := hd
  have entry : quiet.disc d = some r := hr
  have bay : quiet.bay n = { s.bay n with timers.probe := none } := bay_modBay_self n _ s.begin
  have answered {report : Option MediaReport} {w : State} (h : s.begin.probed n report = w) :
      exec (.probeReport n report) s = .next w.settle :=
    (probeReport_of_probing hs he).trans (congrArg (fun t : State => Host.Outcome.next t.settle) h)
  refine ⟨fun empty purpose => ?faults, fun empty => ?gone, fun m hm => ?media⟩
  case faults =>
    subst empty
    refine answered ((probed_of_none (s := s.begin) hd hr).trans (probedNothing_of_other ?_))
    rcases purpose with h | h <;> simp [h]
  case gone =>
    subst empty
    have noted : (quiet.probedNothing n r).Noted n .noMedia ((s.bay n).offline = none) := by
      have offline : (quiet.bay n).offline = (s.bay n).offline := by rw [bay]
      rw [← offline]
      exact probedNothing_upsets (upsets_noted n _ _)
        (noMedia_decides (upsets_noted n _ _).toDecides (fun t h => h.of_bay rfl) at_ noted_of_entered)
    have sent : .bay n .abort ∈ (quiet.probedNothing n r).sent := by
      refine (probedNothing_upsets upsets_sent).subset
        ((noMedia_decides ends_sent.toDecides (fun t => List.prefix_refl _) at_).subset (abort_mem_faultEntered (.inr ?_)))
      rw [bay]
      exact congrArg BayState.working hs
    refine ⟨_, answered (probed_of_none (s := s.begin) hd hr), ?_, noted.code, sent, fun h => (noted.stays h).2,
      fun k j purpose pending hk hj => ?_, fun i x purpose hi hx live reading => ?_⟩
    · exact probedNothing_upsets (upsets_slotFree d) (bayFault_noMedia_disc at_)
    · have same : (s.begin.unprobed n).probedNothing n r = quiet.bayFault n .noMedia false :=
        probedNothing_of_other (by simp [purpose])
      have accounts := noMedia_accounts (abort := false) (s := quiet) at_ entry pending hk hj
      rw [same]
      obtain ⟨v, hv, e⟩ := Option.map_eq_some_iff.1 accounts
      obtain ⟨rejected, budget, log⟩ : v.rejected = _ ∧ v.budgetRejects = _ ∧ v.log = _ := by
        simpa only [Job.accounts, Prod.mk.injEq] using e
      exact ⟨v, hv, rejected, budget, fun short => log.trans (if_pos short), fun full => log.trans (if_neg (by
        exact Nat.not_lt.2 full))⟩
    · exact probedNothing_lostFor (s := quiet) at_ purpose hi hx live reading
  case media =>
    subst hm
    intro told
    refine ⟨fun j purpose hj => ?copy, fun purpose => ?spare, fun i x purpose hi hx live => ?master⟩
    case copy =>
      intro u reject
      have run {w : State} (h : quiet.probedCopy n d r m = w) :
          exec (.probeReport n (some m)) s = .next w.settle :=
        answered ((probed_of_copy (s := s.begin) hd hr purpose).trans h)
      have job : quiet.jobOf r = some j := hj
      refine ⟨fun h => ?_, fun blank h => ?_, fun blank cls h => ?_, fun blank cls h => ?_⟩
      · exact run (probedCopy_of_reject job (if_pos h))
      · exact run (probedCopy_of_reject job ((if_neg (by simp [blank])).trans (if_pos h)))
      · exact run (probedCopy_of_reject job ((if_neg (by simp [blank])).trans ((if_neg (by simp [cls])).trans (if_pos h))))
      · exact run (probedCopy_of_good job ((if_neg (by simp [blank])).trans ((if_neg (by simp [cls])).trans
          (if_neg (by exact Nat.not_lt.2 h)))))
    case spare =>
      have run {w : State} (h : quiet.probedSpare n d m = w) :
          exec (.probeReport n (some m)) s = .next w.settle :=
        answered ((probed_of_spare (s := s.begin) hd hr purpose).trans h)
      refine ⟨fun blank offline => run ?_, fun blank pending => ?_⟩
      · refine (if_pos blank).trans ?_
        have none_ : ((told.bayTo n .spare).bay n).offline = none := by
          rw [State.bayTo, bay_modBay_self]
          exact (congrArg Bay.offline bay).trans offline
        have stays : (told.bayTo n .spare).spareOffline n = told.bayTo n .spare := by
          rw [State.spareOffline, none_]
          exact if_neg (by simp)
        exact congrArg State.dueBoth stays
      · have media : told.disc d = some { r with media := some m } :=
          (disc_modDisc_self ..).trans (congrArg (Option.map _) hr)
        have written : ((told.writeVerdict d (some .notBlank)).hold n).disc d =
            some (({ r with media := some m } : Disc).decide' (some .notBlank)) :=
          (disc_congr hold_discs).trans (disc_writeVerdict media pending)
        exact ⟨(told.writeVerdict d (some .notBlank)).hold n, run (if_neg (by simp [blank])), by rw [bay_hold], by rw [written]; rfl, by rw [written]; rfl⟩
    case master =>
      have run {w : State} (h : quiet.probedMaster n d i m = w) :
          exec (.probeReport n (some m)) s = .next w.settle :=
        answered ((probed_of_master (s := s.begin) hd hr purpose hi).trans h)
      have image : told.image? i = some x := hx
      have judged {w : State} (h : (if x.state = .lost then told.masterOutcome i false
          else if m.blank = true ∨ m.capacity = 0 then told.imageLost i .blankMaster
          else if x.length < m.capacity then told.imageLost i .tooLarge
          else (told.modImage i (Image.shrink m.capacity)).startMasterRead n m.capacity) = w) :
          quiet.probedMaster n d i m = w := by
        refine Eq.trans ?_ h
        unfold State.probedMaster
        dsimp only
        have image' : (quiet.writeMedia d m).image? i = some x := hx
        rw [image']
        rfl
      refine ⟨fun blank some_ fits => exec_event (run (judged ?_)) rfl rfl, fun why reason kind master => ?_⟩
      · refine (if_neg live).trans ((if_neg (by simp [blank, some_])).trans ((if_neg (by omega)).trans ?_))
        rfl
      · have lost : quiet.probedMaster n d i m = told.imageLost i why := by
          rcases reason with ⟨h, rfl⟩ | ⟨⟨blank, h⟩, rfl⟩
          · exact judged ((if_neg live).trans (if_pos h))
          · exact judged ((if_neg live).trans ((if_neg (by simp [blank]; omega)).trans (if_pos h)))
        have there : told.MasterAt i n .probing d { r with media := some m } :=
          { place := (discAt_modDisc (by exact fun _ => rfl)).trans at_
            record := (disc_modDisc_self ..).trans (congrArg (Option.map _) hr)
            master := (keepsMasters.masterOf (keepsField_modDisc quiet (by exact fun _ => rfl))).trans master
            state := (congrArg Bay.state bay).trans hs }
        obtain ⟨state, -, written, gone⟩ := there.imageLost (why := why) (.inr rfl) image live kind
        exact ⟨_, run lost, state, by rw [written]; rfl, by rw [written]; rfl, gone⟩

end Sys2Proof.Machine
end

section
/-! PROOFS. A print that runs to its end (O58): the merge, the serial and the verdict of the disc (R178 to R181). -/

namespace Sys2Proof.Machine

open State

namespace State
variable {s t : State} {d : DiscId} {r : Disc}

/-! ### The station's operations -/

theorem clearFromPrinter_frame (s : State) : ∃ q u, s.clearFromPrinter = { s with tsq.queue := q, due := u } := by
  unfold clearFromPrinter
  split
  · exact ⟨s.tsq.queue, s.due, rfl⟩
  · split
    · split
      · unfold queueClear
        split
        · exact ⟨s.tsq.queue, s.due, rfl⟩
        · exact ⟨_, _, rfl⟩
      · exact ⟨s.tsq.queue, s.due, rfl⟩
    · exact ⟨s.tsq.queue, s.due, rfl⟩

theorem proceedSense_frame (s : State) :
    ∃ ms x y, s.proceedSense = { s with sent := s.sent ++ ms, psc.sense := x, psc.timer := y } := by
  unfold proceedSense
  split
  · exact ⟨_, _, _, rfl⟩
  · exact ⟨[], s.psc.sense, s.psc.timer, by rw [List.append_nil]⟩

/-- A serial is written to the record (R180). -/
theorem assignSerial_disc (d : DiscId) (s : State) :
    ∃ x : Option Serial, (s.assignSerial d).discs = (s.modDisc d (fun r => { r with serial := x.or r.serial })).discs := by
  unfold assignSerial
  split
  next p j _ _ => exact ⟨some p.candidate, rfl⟩
  next =>
    refine ⟨none, ?_⟩
    have same : (fun r : Disc => { r with serial := (none : Option Serial).or r.serial }) = id := funext fun r => by
      simp
    rw [same]
    unfold modDisc
    simp

theorem assignSerial_tsq : (s.assignSerial d).tsq = s.tsq := by
  unfold assignSerial
  split <;> rfl

theorem takeInk_discs {p : Nat} : (s.takeInk p).discs = s.discs := by
  unfold takeInk
  dsimp only
  split <;> rfl

theorem takeInk_tsq {p : Nat} : (s.takeInk p).tsq = s.tsq := by
  unfold takeInk
  dsimp only
  split <;> rfl

/-- Verdicts leave the transport as it is. -/
theorem writes_tsq : Writes (fun s t => t.tsq = s.tsq) where
  refl _ := rfl
  trans h k := k.trans h
  other e := congrArg (fun w => w.2.2.2.2.2.2.1) e
  emit _ _ := rfl
  cleared _ _ := rfl
  unreserve _ _ _ := rfl
  retire _ _ _ := rfl
  deliver _ _ := rfl
  hold _ _ _ := rfl
  live _ _ := rfl
  terminal _ _ := rfl
  loads _ _ := rfl
  image _ _ _ := rfl
  freed _ _ := rfl
  masters _ _ := rfl
  unreserved _ := rfl
  ungranted _ _ := rfl
  unwaited _ _ := rfl
  scan s := by
    obtain ⟨r, ms, bs, e⟩ := s.scan_frame
    rw [e]
  closed _ _ _ := rfl
  withdrawn _ := rfl
  unspared _ _ := rfl
  account _ _ _ _ := rfl
  decide _ _ _ _ := rfl

/-- The CLEAR of a disc on the printer tray (R176). -/
theorem clearFromPrinter_of_dest {dest : Dest} (phase : s.sweeping = false) (hd : s.discAt .printer = some d)
    (hr : s.disc d = some r) (required : s.requiredDest r = some dest) (new : s.hasEntry d = false) :
    s.clearFromPrinter = ({ s with tsq.queue := s.tsq.queue ++
      [{ cls := .clear, source := .printer, dest := dest, disc := some d, time := s.tsq.clock }] } : State).dueSelect := by
  unfold clearFromPrinter
  rw [phase, if_neg (by decide), hd]
  dsimp only
  rw [hr, Option.bind_some, required]
  dsimp only
  unfold queueClear
  rw [new]
  rfl

/-- A job's disc has the merge step done (R179). -/
theorem mergeStep_of_plan {p : SerialPlan} (hp : s.planOf d = some p) (more : p.atEnd = false) :
    s.mergeStep d = { (s.toPrinter (.merge (mergeText p.text p.candidate))).toPrinter .print with
      psc.state := .printing, psc.step := none, psc.timer := some 60000 } := by
  unfold mergeStep
  rw [hp]
  exact if_neg (by simp [more])

end State

/-- Settles O58, by what the print leaves to do. -/
theorem aPrintRunsToItsEnd : Obligations.APrintRunsToItsEnd := by
  intro s
  refine ⟨fun h => ?idle, fun d r j p loaded wait hd hr hj plan more => ?artwork, fun ink h => ?elsewhere,
    fun ink d printing hd => ?done⟩
  case idle => exact exec_event rfl (if_neg fun k => h.elim (· k.1) (· k.2)) rfl
  case elsewhere => exact exec_event rfl (if_neg h) rfl
  case artwork =>
    refine exec_event rfl ((if_pos ⟨loaded, wait⟩).trans ?_) rfl
    have job : (s.disc d).bind s.jobOf = some j := by rw [hr, Option.bind_some, hj]
    have held : s.begin.artworkHeld =
        ({ s.begin with psc.timer := none, psc.cacheTag := j.labelImage } : State).mergeStep d := by
      rw [artworkHeld, show s.begin.discAt .printer = some d from hd]
      dsimp only
      rw [show (s.begin.disc d).bind s.begin.jobOf = some j from job]
      rfl
    refine held.trans ((mergeStep_of_plan (p := p) ?_ more).trans rfl)
    exact (congrArg (fun o : Option Job => o.bind Job.serial) job).trans plan
  case done =>
    intro u
    have run : exec (.printDone ink) s =
        .next ((((u.printVerdict d).stationTo .printed).clearFromPrinter.proceedSense).settle) := by
      refine congrArg (fun t : State => Host.Outcome.next t.settle) ((if_pos printing).trans ?_)
      refine congrArg State.proceedSense ?_
      unfold State.printed
      dsimp only
      rw [show ({ s.begin with psc.timer := none } : State).discAt .printer = some d from hd]
      rfl
    refine ⟨fun hard none_left => ?_, fun hard left => ?_, fun r hard hr => ?_⟩
    · have verdict : u.printVerdict d = u.verdict d none := by
        unfold State.printVerdict
        rw [hard, none_left]
        rfl
      rw [run, verdict]
    · have verdict : u.printVerdict d = u := by
        unfold State.printVerdict
        rw [hard, if_neg (by decide), if_neg (by simpa using left)]
      rw [run, verdict]
    · intro v
      have verdict : u.printVerdict d = u.writeVerdict d (some .cancelled) := if_pos hard
      obtain ⟨x, serial⟩ := assignSerial_disc d ({ s.begin with psc.timer := none } : State)
      have entry : u.disc d = some { r with serial := x.or r.serial, steps.print := true } := by
        refine (disc_modDisc_self ..).trans ?_
        rw [disc_congr (takeInk_discs.trans serial), disc_modDisc_self]
        exact congrArg (Option.map _) (congrArg (Option.map _) hr)
      have places : s.keepsField Disc.location u := fun c => by
        refine ((keepsField_modDisc _ (by exact fun _ => rfl) : keepsField Disc.location _ u) c).trans ?_
        refine ((keepsField_of_discs (takeInk_discs.trans serial) : keepsField Disc.location
          (modDisc d _ ({ s.begin with psc.timer := none } : State)) _) c).trans ?_
        exact (keepsField_modDisc (f := Disc.location) ({ s.begin with psc.timer := none } : State)
          (by exact fun _ => rfl)) c
      have tsq : u.tsq = s.tsq := takeInk_tsq.trans assignSerial_tsq
      generalize hw : u.writeVerdict d (some .cancelled) = w at verdict
      obtain ⟨q, due, cleared⟩ := clearFromPrinter_frame (w.stationTo .printed)
      obtain ⟨ms, sense, timer, proceeded⟩ := proceedSense_frame (w.stationTo .printed).clearFromPrinter
      have vw : v = (w.stationTo .printed).clearFromPrinter.proceedSense := by rw [← hw]
      have discs : v.discs = w.discs := by
        rw [vw, proceeded, cleared]
        rfl
      refine ⟨by rw [run, verdict, vw], by rw [vw, proceeded, cleared]; rfl, ?_, fun final => ?_, fun pending => ?_⟩
      · have kept := (judges_field (f := fun r => r.steps.print) (fun v _ => by cases v <;> rfl)).writeVerdict (s := u)
          (d := d) (c := .cancelled) rfl d
        rw [hw, entry] at kept
        rw [disc_congr discs, kept]
        rfl
      · have kept : w.disc d = some { r with serial := x.or r.serial, steps.print := true } := by
          rw [← hw, writeVerdict_of_final entry final, entry]
        rw [disc_congr discs, kept]
        rfl
      · have written : w.disc d =
            some (({ r with serial := x.or r.serial, steps.print := true } : Disc).decide' (some .cancelled)) := by
          rw [← hw]
          exact disc_writeVerdict entry pending
        refine ⟨by rw [disc_congr discs, written]; rfl, by rw [disc_congr discs, written]; rfl,
          fun running copy new => ?_⟩
        have tsq' : w.tsq = s.tsq := by
          rw [← hw]
          exact (writes_tsq.writeVerdict rfl).trans tsq
        have there : w.discAt .printer = some d := by
          rw [← hw, (judges_places.writeVerdict rfl).discAt, places.discAt]
          exact hd
        have phase : (w.stationTo .printed).sweeping = false := by
          rw [sweeping, show (w.stationTo .printed).tsq = s.tsq from tsq', running]
          rfl
        have required : (w.stationTo .printed).requiredDest
            (({ r with serial := x.or r.serial, steps.print := true } : Disc).decide' (some .cancelled)) = some .rej := by
          unfold requiredDest
          simp only [Disc.decide', copy]
        have fresh : (w.stationTo .printed).hasEntry d = false := by
          rw [hasEntry, show (w.stationTo .printed).tsq = s.tsq from tsq']
          exact new
        rw [vw, proceeded, clearFromPrinter_of_dest phase there written required fresh]
        have queue : (w.stationTo .printed).tsq = s.tsq := tsq'
        rw [queue]
        rfl

end Sys2Proof.Machine
end

section
/-! PROOFS. The printer stops (O59): INK-OUT, JAM and the print timer (R178, R180, R182, R183). -/

namespace Sys2Proof.Machine

open State

/-- A relation that watches the station, the Feeder and the ports alone. -/
theorem Verdicts.of_station {R : State → State → Prop}
    (h : ∀ s t : State, t.psc = s.psc → t.fdr = s.fdr → t.ports = s.ports → R s t)
    (trans : ∀ {s t u : State}, R s t → R t u → R s u) (deliver : ∀ (e : Event) (s : State), R s (s.deliver e))
    (unreserved : ∀ s : State,
      R s { s with psc.reservedFor := none, psc.state := if s.psc.state = .reserved then .vacant else s.psc.state })
    (loaded : ∀ (x : Psc) (s : State), s.psc.LoadedAs x → R s { s with psc := x })
    (closed : ∀ (n : BayId) (k : Vector Nat 12) (s : State),
      R s { s with fdr.streams := s.fdr.streams.set n none, fdr.draining := k })
    (withdrawn : ∀ s : State, R s { s with fdr.artwork := none }) : Verdicts R where
  refl s := h s s rfl rfl rfl
  trans := trans
  other e := h _ _ (congrArg (fun w => w.2.2.1) e) (congrArg (fun w => w.2.2.2.1) e) (congrArg (fun w => w.2.1.2.2.1) e)
  emit _ _ := h _ _ rfl rfl rfl
  cleared _ _ := h _ _ rfl rfl rfl
  unreserve _ _ _ := h _ _ rfl rfl rfl
  retire _ _ _ := h _ _ rfl rfl rfl
  deliver := deliver
  hold _ _ _ := h _ _ rfl rfl rfl
  live _ _ := h _ _ rfl rfl rfl
  terminal _ _ := h _ _ rfl rfl rfl
  loads _ _ := h _ _ rfl rfl rfl
  image _ _ _ := h _ _ rfl rfl rfl
  freed _ _ := h _ _ rfl rfl rfl
  masters _ _ := h _ _ rfl rfl rfl
  unreserved := unreserved
  loaded {x s} hs := loaded x s hs
  ungranted _ _ := h _ _ rfl rfl rfl
  unwaited _ _ := h _ _ rfl rfl rfl
  scan s := by
    obtain ⟨r, ms, bs, e⟩ := s.scan_frame
    exact h _ _ (by rw [e]) (by rw [e]) (by rw [e])
  closed := closed
  withdrawn := withdrawn
  unspared _ _ := h _ _ rfl rfl rfl
  queue _ _ := h _ _ rfl rfl rfl
  account _ _ _ _ := h _ _ rfl rfl rfl
  decide _ _ _ _ := h _ _ rfl rfl rfl
  settle _ _ _ _ := h _ _ rfl rfl rfl
  drain _ _ _ := h _ _ rfl rfl rfl
  spare _ _ := h _ _ rfl rfl rfl
  spared _ _ := h _ _ rfl rfl rfl
  blame _ _ _ := h _ _ rfl rfl rfl

/-- What a jam leaves of the station. -/
def Psc.jammedAs (x : Psc) := (x.state, x.step, x.timer, x.cacheTag)

/-- A jammed station stays as it is through verdicts and drains. -/
theorem verdicts_jammed : Verdicts (fun s t => s.psc.state = .jammed → t.psc.jammedAs = s.psc.jammedAs) :=
  .of_station (fun _ _ h _ _ _ => by rw [h])
    (fun h k j => (k ((congrArg (fun x => x.1) (h j)).trans j)).trans (h j))
    (fun _ _ _ => rfl) (fun s j => by simp [Psc.jammedAs, j]) (fun x s l j => absurd l.before (by rw [j]; decide)) (fun _ _ _ _ => rfl)
    (fun _ _ => rfl)

/-- An artwork record that has been withdrawn stays so. -/
theorem verdicts_withdrawn : Verdicts (fun s t => s.fdr.artwork = none → t.fdr.artwork = none) :=
  .of_station (fun _ _ _ h _ k => by rwa [h]) (fun h k j => k (h j)) (fun _ _ j => j) (fun _ j => j) (fun _ _ _ j => j)
    (fun _ _ _ j => j) (fun _ _ => rfl)

/-- Notices stay in the queue of a port. -/
theorem verdicts_notices (p : PortId) : Verdicts (fun s t => (s.port p).notices <+: (t.port p).notices) :=
  .of_station (fun s t _ _ h => by rw [State.port, State.port, h]) (fun h k => h.trans k)
    (fun e s => by
      rw [port_deliver, Port.deliver_eq, Port.foldl_join]
      exact List.prefix_append _ _)
    (fun _ => List.prefix_refl _) (fun _ _ _ => List.prefix_refl _) (fun _ _ _ => List.prefix_refl _)
    (fun _ => List.prefix_refl _)

namespace State
variable {s t : State} {d : DiscId} {r : Disc} {c : JamCause}

/-- The PRINTER-JAM event of a jam (R183). -/
def jamEvent (s : State) (c : JamCause) : Event :=
  { kind := .printerJam, detail := .jam c, subject := match s.printerJob with | some j => .job j | none => .none }

/-- The station has entered JAMMED, and its disc is still to be treated (R183). -/
def jamEntered (s : State) (c : JamCause) : State :=
  ({ s with psc.state := .jammed, psc.step := none, psc.timer := none, psc.cacheTag := none } : State).deliver (s.jamEvent c)

theorem jam_eq : s.jam c = ((s.jamEntered c).jamDisc s.psc.state s.psc.step).duePass := rfl

theorem assignSerial_station : (s.assignSerial d).psc = s.psc ∧ (s.assignSerial d).fdr = s.fdr ∧
    (s.assignSerial d).ports = s.ports := by
  unfold assignSerial
  split <;> exact ⟨rfl, rfl, rfl⟩

theorem withdrawArtwork_none : s.withdrawArtwork.fdr.artwork = none := by
  unfold withdrawArtwork
  split
  · rfl
  next h => exact h

/-- What the treatment of the disc at a jam does to the station, the Feeder and the ports (R183). -/
theorem jamDisc_verdicts {R : State → State → Prop} (h : Verdicts R) {was : StationState} {step : Option PrintStep}
    (serial : ∀ d (t : State), R t (t.assignSerial d)) : R s (s.jamDisc was step) := by
  unfold jamDisc
  split
  · split
    · exact h.trans (serial _ _) h.verdict
    · exact h.trans h.withdrawArtwork h.verdict
    · exact h.trans h.withdrawArtwork h.verdict
    · exact h.refl s
  · exact h.refl s

theorem jamDisc_of_printing {step : Option PrintStep} (hd : s.discAt .printer = some d) :
    s.jamDisc .printing step = (s.assignSerial d).verdict d (some .printFailed) := by
  rw [jamDisc, hd]

theorem jamDisc_of_artwork {step : Option PrintStep} (hd : s.discAt .printer = some d)
    (h : step = some .transfer ∨ step = some .artworkWait) :
    s.jamDisc .loaded step = s.withdrawArtwork.verdict d (some .printFailed) := by
  rw [jamDisc, hd]
  rcases h with rfl | rfl <;> rfl

theorem jamDisc_of_other {was : StationState} {step : Option PrintStep} (hw : was ≠ .printing)
    (h : was ≠ .loaded ∨ step ≠ some .transfer ∧ step ≠ some .artworkWait) : s.jamDisc was step = s := by
  unfold jamDisc
  split
  · split
    · exact absurd rfl hw
    · rcases h with h | ⟨h, -⟩ <;> exact absurd rfl h
    · rcases h with h | ⟨-, h⟩ <;> exact absurd rfl h
    · rfl
  · rfl

/-- The station after a jam (R183). -/
theorem jam_station : (s.jam c).psc.state = .jammed ∧ (s.jam c).psc.step = none ∧ (s.jam c).psc.timer = none ∧
    (s.jam c).psc.cacheTag = none := by
  have entered : (s.jamEntered c).psc.jammedAs = (.jammed, none, none, none) := rfl
  have kept : ((s.jamEntered c).jamDisc s.psc.state s.psc.step).psc.jammedAs = (s.jamEntered c).psc.jammedAs :=
    jamDisc_verdicts verdicts_jammed (fun d t _ => by rw [assignSerial_station.1]) rfl
  have all : (s.jam c).psc.jammedAs = (.jammed, none, none, none) := by
    rw [jam_eq]
    exact kept.trans entered
  simpa only [Psc.jammedAs, Prod.mk.injEq] using all

/-- The disc of a print in hand at a jam has used its serial, and is rejected (R180, R183). -/
theorem jam_disc_of_printing (printing : s.psc.state = .printing) (hd : s.discAt .printer = some d)
    (hr : s.disc d = some r) (pending : r.verdict = .pending) :
    ∃ x : Option Serial, (s.jam c).disc d = some (({ r with serial := x } : Disc).decide' (some .printFailed)) ∧
      ∀ j p, s.jobOf r = some j → j.serial = some p → x = some p.candidate := by
  have there : (s.jamEntered c).discAt .printer = some d := hd
  have plan (j : Job) (p : SerialPlan) (hj : s.jobOf r = some j) (hp : j.serial = some p) :
      (s.jamEntered c).planOf d = some p := by
    have job : ((s.disc d).bind s.jobOf) = some j := by rw [hr, Option.bind_some, hj]
    exact (congrArg (fun o : Option Job => o.bind Job.serial) job).trans hp
  have assigned : ∃ x : Option Serial, ((s.jamEntered c).assignSerial d).disc d = some { r with serial := x } ∧
      ∀ j p, s.jobOf r = some j → j.serial = some p → x = some p.candidate := by
    unfold assignSerial
    split
    next p k hp hk =>
      refine ⟨some p.candidate, (disc_modDisc_self ..).trans (congrArg (Option.map _) hr), fun j q hj hq => ?_⟩
      rw [plan j q hj hq] at hp
      cases hp
      rfl
    next none_ =>
      refine ⟨r.serial, hr, fun j q hj hq => ?_⟩
      have number : ∃ k, r.job = some k := by
        cases hk : r.job with
        | none => simp [jobOf, hk] at hj
        | some k => exact ⟨k, rfl⟩
      obtain ⟨k, hk⟩ := number
      exact absurd (plan j q hj hq) fun h => none_ q k h ((congrArg (fun o : Option Disc => o.bind Disc.job) hr).trans hk)
  obtain ⟨x, entry, value⟩ := assigned
  refine ⟨x, ?_, value⟩
  rw [jam_eq, printing, jamDisc_of_printing there]
  exact disc_verdict entry pending

/-- The disc of an artwork transfer at a jam is rejected, and the transfer is withdrawn (R183). -/
theorem jam_disc_of_artwork (loaded : s.psc.state = .loaded)
    (step : s.psc.step = some .transfer ∨ s.psc.step = some .artworkWait) (hd : s.discAt .printer = some d)
    (hr : s.disc d = some r) (pending : r.verdict = .pending) :
    (s.jam c).fdr.artwork = none ∧ (s.jam c).disc d = some (r.decide' (some .printFailed)) := by
  have there : (s.jamEntered c).discAt .printer = some d := hd
  have entry : (s.jamEntered c).withdrawArtwork.disc d = some r := (disc_congr quiet_discs.withdrawArtwork).trans hr
  rw [jam_eq, loaded, jamDisc_of_artwork there step]
  exact ⟨verdicts_withdrawn.verdict withdrawArtwork_none, disc_verdict entry pending⟩

theorem jam_of_other (h : s.psc.state ≠ .printing)
    (h' : s.psc.state ≠ .loaded ∨ s.psc.step ≠ some .transfer ∧ s.psc.step ≠ some .artworkWait) :
    s.jam c = (s.jamEntered c).duePass := by rw [jam_eq, jamDisc_of_other h h']

theorem jamEvent_matches {b : Booking} (kind : b.kind = .printerJam) (scope : b.scope = none ∨ b.scope = s.printerJob) :
    b.matchesEvent (s.jamEvent c) = true := by
  cases hj : s.printerJob with
  | none =>
    have none_ : b.scope = none := by
      rcases scope with h | h
      · exact h
      · exact h.trans hj
    simp [Booking.matchesEvent, none_, kind, jamEvent]
  | some k =>
    rw [hj] at scope
    exact (Booking.matchesEvent_job (k := k) (by rw [jamEvent, hj])).2 ⟨kind, scope⟩

/-- A jam is reported to the ports that book it (R183, R197). -/
theorem jam_notice {p : PortId} {b : Booking} (booked : (s.port p).booked = [b]) (kind : b.kind = .printerJam)
    (scope : b.scope = none ∨ b.scope = s.printerJob) (room : (s.port p).notices.length < 16) :
    (s.jamEvent c).notice b ∈ ((s.jam c).port p).notices := by
  have told : (s.jamEvent c).notice b ∈ ((s.jamEntered c).port p).notices := by
    have joined : (s.jamEntered c).port p = (s.port p).join ((s.jamEvent c).notice b) := by
      rw [jamEntered, port_deliver]
      exact Port.deliver_of_single booked (jamEvent_matches kind scope)
    rw [joined, Port.join, if_pos (by exact room)]
    exact List.mem_append_right _ (List.mem_singleton.2 rfl)
  have kept := jamDisc_verdicts (s := s.jamEntered c) (was := s.psc.state) (step := s.psc.step) (verdicts_notices p)
    (fun d t => by rw [State.port, State.port, assignSerial_station.2.2])
  exact kept.subset told

theorem drainArrival_of_live {j : Job} (hr : s.disc d = some r) (hj : s.jobOf r = some j) (live : j.state ≠ .draining) :
    s.drainArrival d = s := by
  rw [drainArrival, hr]
  dsimp only
  rw [hj]
  exact if_neg live

theorem proceedSense_of_other (h : s.tsq.phase ≠ .sweeping .printer) : s.proceedSense = s := if_neg fun k => h k.1

end State

/-- Settles O59, by the event and the state of the station. -/
theorem thePrinterStops : Obligations.ThePrinterStops := by
  intro s
  refine ⟨fun h => exec_event rfl (if_neg h) rfl, fun d r j job printing hd hr hk hj live phase => ?ink,
    fun h => exec_event rfl (if_pos h) rfl, fun h => exec_event rfl (if_neg (by exact fun k => by simp_all)) rfl,
    fun c why cause => ⟨s.begin.jam why, ?run, ?_⟩⟩
  case ink =>
    refine exec_event rfl ((if_pos printing).trans ?_) rfl
    have job' : s.begin.printerJob = some job := by
      rw [printerJob, recAt, show s.begin.discAt .printer = some d from hd, Option.bind_some,
        show s.begin.disc d = some r from hr]
      exact hk
    have out : s.begin.outOfInk = ({ s.begin with
        psc.state := .inkOut, psc.step := none, psc.timer := none, psc.ink := some 0, psc.inkLow := true : State
          }.deliver { kind := .inkOut, subject := .job job, detail := .none }) := by
      unfold State.outOfInk
      dsimp only
      rw [job', show (({ s.begin with
        psc.state := .inkOut, psc.step := none, psc.timer := none, psc.ink := some 0, psc.inkLow := true } : State).deliver
          { kind := .inkOut, subject := .job job, detail := .none }).discAt .printer = some d from hd]
      exact drainArrival_of_live (j := j) hr ((congrArg (fun o : Option Nat => o.bind s.job?) hk).trans hj) live
    rw [out]
    exact proceedSense_of_other phase
  case run =>
    rcases cause with ⟨rfl, rfl, h⟩ | ⟨rfl, rfl, running, h⟩
    · refine congrArg (fun t : State => Host.Outcome.next t.settle) ((if_neg h).trans ?_)
      rfl
    · refine congrArg (fun t : State => Host.Outcome.next t.settle) ((if_pos running).trans ?_)
      rcases h with printing | ⟨loaded, -, idle⟩
      · exact if_pos printing
      · have elsewhere : s.psc.state ≠ .printing := by simp [loaded]
        refine (if_neg elsewhere).trans (Eq.trans ?_ (if_neg elsewhere).symm)
        have none_ : s.begin.psc.sense = none := idle
        simp only [none_]
  obtain ⟨state, step, timer, tag⟩ := jam_station (s := s.begin) (c := why)
  refine ⟨state, step, timer, tag, fun p b booked kind scope room => jam_notice (s := s.begin) booked kind scope room,
    fun d r hd hr pending => ⟨fun printing => ?_, fun loaded steps => ?_⟩, fun h h' => ?_⟩
  · obtain ⟨x, written, serial⟩ := jam_disc_of_printing (s := s.begin) (c := why) printing hd hr pending
    refine ⟨by rw [written]; rfl, by rw [written]; rfl, fun j p hj hp => ?_⟩
    rw [written, serial j p hj hp]
    rfl
  · obtain ⟨none_, written⟩ := jam_disc_of_artwork (s := s.begin) (c := why) loaded steps hd hr pending
    exact ⟨none_, by rw [written]; rfl, by rw [written]; rfl⟩
  · rw [jam_of_other (s := s.begin) h h']
    exact ⟨rfl, rfl⟩

end Sys2Proof.Machine
end

section
/-! PROOFS. The printer is serviced (O60): the sense of its tray, its answer and its silence, in service and in a sweep (R186,
R188). -/

namespace Sys2Proof.Machine

open State

/-- The state a station halts in (R182, R183). -/
def Psc.halt (x : Psc) : Option StationState := if x.state = .inkOut ∨ x.state = .jammed then some x.state else none

/-- A station that halts stays in its state and one that does not halt stays out of them; the sense pending is kept, and no
timer and no artwork tag appear. -/
structure Psc.Halted (x y : Psc) : Prop where
  halt : y.halt = x.halt
  sense : y.sense = x.sense
  timer : x.timer = none → y.timer = none
  tag : x.cacheTag = none → y.cacheTag = none

theorem Psc.Halted.refl (x : Psc) : x.Halted x := ⟨rfl, rfl, id, id⟩

theorem Psc.Halted.trans {x y z : Psc} (h : x.Halted y) (k : y.Halted z) : x.Halted z :=
  ⟨k.halt.trans h.halt, k.sense.trans h.sense, k.timer ∘ h.timer, k.tag ∘ h.tag⟩

theorem Psc.LoadedAs.halted {x y : Psc} (h : x.LoadedAs y) : x.Halted y where
  halt := by simp [Psc.halt, h.before, h.after]
  sense := h.sense
  timer e := h.timer.elim id fun k => k.trans e
  tag e := h.tag.trans e

theorem Psc.halt_of_halts {x : Psc} (h : x.state = .inkOut ∨ x.state = .jammed) : x.halt = some x.state := if_pos h

theorem Psc.state_of_halt {x : Psc} {k : StationState} (h : x.halt = some k) : x.state = k := by
  unfold Psc.halt at h
  split at h
  · exact Option.some.inj h
  · cases h

theorem Psc.runs_of_halt {x : Psc} (h : x.halt = none) : x.state ≠ .inkOut ∧ x.state ≠ .jammed := by
  unfold Psc.halt at h
  split at h
  · cases h
  next k => exact not_or.1 k

theorem verdicts_halted : Verdicts (fun s t => s.psc.Halted t.psc) :=
  .of_station (fun _ _ h _ _ => by rw [h]; exact .refl _) .trans (fun _ s => .refl s.psc)
    (fun s => by
      refine ⟨?_, rfl, id, id⟩
      by_cases h : s.psc.state = .reserved <;> simp [Psc.halt, h])
    (fun _ _ h => h.halted) (fun _ _ s => .refl s.psc) (fun s => .refl s.psc)

namespace State
variable {s t : State} {d : DiscId} {r : Disc} {p : PortId}

/-! ### A place is reconciled -/

/-- Reconciling a place, for a relation that holds of slots filled and freed (R7). -/
theorem reconcile_decides {R : State → State → Prop} (h : Decides R) {l : Location} {present : Bool} (elsewhere : l ≠ .arm)
    (slots : ∀ (d : DiscId) (x : Option Disc) (t : State), R t { t with discs := t.discs.set d x }) :
    R s (s.reconcile l present) := by
  have keep (d : DiscId) : R s (s.keepDisc l d) := by
    have cleared : R s (if (s.disc d).any (fun r => r.verdict == .pending && r.purpose != .master) then
        s.writeVerdict d (some .cleared) else s) := h.ite (h.writeVerdict rfl)
    unfold keepDisc
    dsimp only
    split
    · rw [if_neg elsewhere]
      exact h.trans cleared h.queueClear
    · exact cleared
  have found : R s (s.createDisc (foundDisc l)).2 := by
    unfold createDisc
    split
    · exact h.refl s
    · exact slots _ _ s
  unfold reconcile
  split
  · exact keep _
  · exact loseDisc_decides h fun t => slots _ none t
  · split
    next hc => exact h.trans (by simpa only [hc] using found) h.queueClear
    next hc => simpa only [hc] using found
  · exact h.refl s

theorem reconcile_halted {present : Bool} : s.psc.Halted (s.reconcile .printer present).psc :=
  reconcile_decides verdicts_halted.toDecides (by decide) fun _ _ t => .refl t.psc

/-! ### How the station settles (R188) -/

theorem settleStation_of_halts (h : s.psc.state = .inkOut ∨ s.psc.state = .jammed) : s.settleStation = s := by
  rw [settleStation]
  rcases h with h | h <;> rw [h]

theorem settleStation_of_runs (inkOut : s.psc.state ≠ .inkOut) (jammed : s.psc.state ≠ .jammed) :
    s.settleStation = if (s.discAt .printer).isSome then { s with psc.state := .loaded, psc.step := some .leaving }
      else s.stationTo .vacant := by
  unfold settleStation
  split
  next h => exact absurd h inkOut
  next h => exact absurd h jammed
  · rfl

theorem settleStation_kept : s.settleStation.discs = s.discs ∧ s.settleStation.psc.sense = s.psc.sense ∧
    s.settleStation.psc.timer = s.psc.timer ∧ s.settleStation.psc.cacheTag = s.psc.cacheTag := by
  by_cases h : s.psc.state = .inkOut ∨ s.psc.state = .jammed
  · rw [settleStation_of_halts h]
    exact ⟨rfl, rfl, rfl, rfl⟩
  · rw [settleStation_of_runs (not_or.1 h).1 (not_or.1 h).2]
    split <;> exact ⟨rfl, rfl, rfl, rfl⟩

/-- The station's answer to the sweep of a station that halts (R188). -/
theorem printerAnswered_halts {present : Bool} (h : s.psc.state = .inkOut ∨ s.psc.state = .jammed) :
    (s.printerAnswered present).psc.state = s.psc.state := by
  have kept : (s.reconcile .printer present).psc.state = s.psc.state :=
    Psc.state_of_halt (reconcile_halted.halt.trans (Psc.halt_of_halts h))
  exact (congrArg (fun t : State => t.psc.state) (settleStation_of_halts (by rwa [kept]))).trans kept

/-- The station's answer to the sweep of a station that does not halt (R188). -/
theorem printerAnswered_runs {present : Bool} (inkOut : s.psc.state ≠ .inkOut) (jammed : s.psc.state ≠ .jammed) :
    (((s.reconcile .printer present).discAt .printer).isSome →
      (s.printerAnswered present).psc.state = .loaded ∧ (s.printerAnswered present).psc.step = some .leaving) ∧
    ((s.reconcile .printer present).discAt .printer = none →
      (s.printerAnswered present).psc.state = .vacant ∧ (s.printerAnswered present).psc.step = none) := by
  obtain ⟨inkOut', jammed'⟩ := Psc.runs_of_halt
    ((reconcile_halted (s := s) (present := present)).halt.trans (if_neg (not_or.2 ⟨inkOut, jammed⟩)))
  have settled : (s.printerAnswered present).psc = (s.reconcile .printer present).settleStation.psc := rfl
  rw [settled, settleStation_of_runs inkOut' jammed']
  refine ⟨fun h => ?_, fun h => ?_⟩
  · rw [if_pos h]
    exact ⟨rfl, rfl⟩
  · rw [if_neg (by simp [h])]
    exact ⟨rfl, rfl⟩

/-- With no sense pending and no timer running, the station's answer to the sweep leaves it so. -/
theorem printerAnswered_idle {present : Bool} (sense : s.psc.sense = none) (timer : s.psc.timer = none) :
    (s.printerAnswered present).psc.sense = none ∧ (s.printerAnswered present).psc.timer = none :=
  ⟨settleStation_kept.2.1.trans (reconcile_halted.sense.trans sense),
    settleStation_kept.2.2.1.trans (reconcile_halted.timer timer)⟩

theorem printerAnswered_discs {present : Bool} :
    (s.printerAnswered present).discs = (s.reconcile .printer present).discs := settleStation_kept.1

theorem jam_halted {c : JamCause} : (s.jamEntered c).psc.Halted (s.jam c).psc := by
  rw [jam_eq]
  exact jamDisc_verdicts verdicts_halted fun d t => by rw [assignSerial_station.1]; exact .refl _

/-! ### The answer to a service -/

theorem proceedSense_of_running (h : s.tsq.phase = .running) : s.proceedSense = s :=
  proceedSense_of_other (by rw [h]; nofun)

theorem sweeping_of_running (h : s.tsq.phase = .running) : s.sweeping = false := by
  rw [sweeping, h]
  rfl

/-- The disc on the printer tray has its CLEAR queued (R176). -/
theorem clearFromPrinter_eq {dest : Dest} (phase : s.tsq.phase = .running) (hd : s.discAt .printer = some d)
    (hr : s.disc d = some r) (required : s.requiredDest r = some dest) :
    s.clearFromPrinter = s.queueClear .printer d dest := by
  unfold clearFromPrinter
  rw [sweeping_of_running phase, if_neg (by decide), hd]
  dsimp only
  rw [hr, Option.bind_some, required]

theorem serviceReply_of_waiting {x : SenseResult} (h : (s.port p).waiting = true) :
    s.serviceReply (some p) x = s.answer p 22 (s.port p).frameTag (.good (u8 s.psc.state.code ++ u8 x.code)) := if_pos h

/-- A disc on the tray that the station is done with (R186). -/
theorem servicePresent_of_done (hr : s.disc d = some r) (done : r.verdict ≠ .pending) :
    s.servicePresent d = (({ s with psc.reservedFor := none } : State).rejectedLeaves d).stationLeaves.dueBoth := by
  have kept : (({ s with psc.reservedFor := none } : State).rejectedLeaves d).disc d = some r := by
    unfold rejectedLeaves
    split <;> exact hr
  refine congrArg State.dueBoth ?_
  unfold stationActs
  dsimp only
  rw [kept]
  exact if_neg fun k => done k.1

theorem requiredDest_of_reject (copy : r.purpose = .copy) (reject : r.verdict = .reject) :
    s.requiredDest r = some .rej := by rw [requiredDest, copy, reject]

theorem requiredDest_of_good (copy : r.purpose = .copy) (good : r.verdict = .good) : s.requiredDest r = some .out := by
  rw [requiredDest, copy, good]

theorem requiredDest_of_print {j : Job} (copy : r.purpose = .copy) (pending : r.verdict = .pending)
    (hj : s.jobOf r = some j) (print : nextStep j r = some .print) : s.requiredDest r = some .printer := by
  rw [requiredDest, copy, pending, hj]
  dsimp only
  rw [print]

theorem rejectedLeaves_of_reject (hr : s.disc d = some r) (h : s.requiredDest r = some .rej) :
    s.rejectedLeaves d = s.rerouteQueued d := if_pos (by rw [hr, Option.bind_some, h])

theorem rejectedLeaves_of_other {x : Dest} (hr : s.disc d = some r) (h : s.requiredDest r = some x) (other : x ≠ .rej) :
    s.rejectedLeaves d = s := if_neg (by simpa only [hr, Option.bind_some, h, Option.some.injEq] using other)

theorem requestArtwork_frame (x : Image) (s : State) : ∃ m : Smc, s.requestArtwork x =
    { s with fdr.artwork := some { image := x.number, length := x.length }, smc := m } := by
  unfold requestArtwork withdrawArtwork
  dsimp only
  split
  · exact ⟨_, rfl⟩
  · exact ⟨_, rfl⟩

/-- The CLEARs of a disc name REJ after they have been rerouted (R118, R161). -/
theorem mem_rerouted {q : List Entry} {e : Entry}
    (h : e ∈ q.map (fun e : Entry => if e.disc = some d ∧ e.cls = .clear then { e with dest := .rej } else e)) :
    (∃ e' ∈ q, e'.disc = e.disc ∧ e'.cls = e.cls) ∧ (e.disc = some d → e.cls = .clear → e.dest = .rej) := by
  obtain ⟨e', he', rfl⟩ := List.mem_map.1 h
  split
  · exact ⟨⟨e', he', rfl, rfl⟩, fun _ _ => rfl⟩
  next other => exact ⟨⟨e', he', rfl, rfl⟩, fun hd hc => absurd ⟨hd, hc⟩ other⟩

/-- What a service leaves of the state when a disc is found on the tray (R186). -/
structure Served (s v : State) : Prop where
  discs : v.discs = s.discs
  ports : v.ports = s.ports
  phase : v.tsq.phase = s.tsq.phase
  loaded : v.psc.state = .loaded
  sense : v.psc.sense = none
  timer : v.psc.timer = none
  port : v.psc.servicePort = none
  free : v.psc.reservedFor = none

/-- The station is LEAVING with its disc after a service, and the queue is this one (R186, R176). -/
def leavesWith (q : List Entry) (s : State) : State :=
  { s with
    psc.reservedFor := none, psc.state := .loaded, psc.step := some .leaving, tsq.queue := q, due.pass := true
    due.select := true }

theorem served_leavesWith (q : List Entry) : s.Served (s.senseOver.leavesWith q) := ⟨rfl, rfl, rfl, rfl, rfl, rfl, rfl, rfl⟩

/-- A GOOD disc is queued for OUT (R186, R176). -/
theorem servicePresent_of_good (phase : s.tsq.phase = .running) (hd : s.discAt .printer = some d) (hr : s.disc d = some r)
    (copy : r.purpose = .copy) (good : r.verdict = .good) (new : s.hasEntry d = false) :
    s.servicePresent d = s.leavesWith (s.tsq.queue ++
      [{ cls := .clear, source := .printer, dest := .out, disc := some d, time := s.tsq.clock }]) := by
  rw [servicePresent_of_done hr (by simp [good]), rejectedLeaves_of_other (s := { s with psc.reservedFor := none }) hr
    (requiredDest_of_good copy good) (by decide)]
  have cleared := clearFromPrinter_of_dest
    (s := { s with psc.reservedFor := none, psc.state := .loaded, psc.step := some .leaving }) (sweeping_of_running phase)
    hd hr (requiredDest_of_good copy good) new
  exact (congrArg State.dueBoth cleared).trans rfl

/-- A REJECT disc has a CLEAR, and each that it has goes to REJ (R186, R161). -/
theorem servicePresent_of_reject (phase : s.tsq.phase = .running) (hd : s.discAt .printer = some d)
    (hr : s.disc d = some r) (copy : r.purpose = .copy) (reject : r.verdict = .reject)
    (arm : ∀ m, s.tsq.arm.move = some m → m.entry.disc ≠ some d)
    (clears : ∀ e ∈ s.tsq.queue, e.disc = some d → e.cls = .clear) :
    ∃ q, s.servicePresent d = s.leavesWith q ∧ (∃ e ∈ q, e.disc = some d ∧ e.cls = .clear) ∧
      ∀ e ∈ q, e.disc = some d → e.dest = .rej := by
  generalize ht : (({ s with psc.reservedFor := none } : State).rerouteQueued d) = t
  have queue : t.tsq.queue = s.tsq.queue.map (fun e : Entry =>
      if e.disc = some d ∧ e.cls = .clear then { e with dest := .rej } else e) := by rw [← ht]; rfl
  have clear (e : Entry) (he : e ∈ t.tsq.queue) (hed : e.disc = some d) : e.cls = .clear ∧ e.dest = .rej := by
    obtain ⟨⟨e', he', hdisc, hcls⟩, dest⟩ := mem_rerouted (queue ▸ he)
    have : e.cls = .clear := hcls ▸ clears e' he' (hdisc.trans hed)
    exact ⟨this, dest hed this⟩
  have present : s.servicePresent d =
      (({ t with psc.state := .loaded, psc.step := some .leaving } : State).queueClear .printer d .rej).dueBoth := by
    rw [servicePresent_of_done hr (by simp [reject]), rejectedLeaves_of_reject (s := { s with psc.reservedFor := none }) hr
      (requiredDest_of_reject copy reject), ht, stationLeaves]
    refine congrArg State.dueBoth (clearFromPrinter_eq ?_ ?_ (r := r) ?_ (requiredDest_of_reject copy reject))
    · rw [← ht]; exact phase
    · rw [← ht]; exact hd
    · rw [← ht]; exact hr
  unfold queueClear at present
  split at present
  next held =>
    refine ⟨t.tsq.queue, present.trans (by rw [← ht]; rfl), ?_, fun e he hed => (clear e he hed).2⟩
    have still : t.tsq.arm.move.any (fun m => m.entry.disc == some d) = false := by
      rw [← ht, Option.any_eq_false]
      exact fun m hm => by simpa using arm m hm
    have queued : t.tsq.queue.any (fun e => e.disc == some d) = true := by
      simpa only [hasEntry, still, Bool.or_false] using held
    obtain ⟨e, he, hed⟩ := List.any_eq_true.1 queued
    exact ⟨e, he, eq_of_beq hed, (clear e he (eq_of_beq hed)).1⟩
  next new =>
    refine ⟨t.tsq.queue ++ [{ cls := .clear, source := .printer, dest := .rej, disc := some d, time := s.tsq.clock }],
      present.trans (by rw [← ht]; rfl), ?_, fun e he hed => ?_⟩
    · exact ⟨_, List.mem_append_right _ (List.mem_singleton.2 rfl), rfl, rfl⟩
    · rcases List.mem_append.1 he with he | he
      · exact (clear e he hed).2
      · rw [List.mem_singleton.1 he]

/-- A disc that awaits its print has its artwork asked for (R176, R178). -/
theorem stationActs_of_pending {j : Job} {i : Nat} {x : Image} (hr : s.disc d = some r) (pending : r.verdict = .pending)
    (hj : s.jobOf r = some j) (print : nextStep j r = some .print) (label : j.labelImage = some i)
    (hx : s.image? i = some x) (kept : x.state ≠ .lost) (tag : s.psc.cacheTag ≠ some x.number) :
    s.stationActs d = (({ s with psc.cacheTag := none, psc.state := .loaded, psc.step := some .transfer : State
      }.toPrinter (.artwork x.number x.length)).requestArtwork x) := by
  have job : (s.disc d).bind s.jobOf = some j := by rw [hr, Option.bind_some, hj]
  have image : (((s.disc d).bind s.jobOf).bind Job.labelImage).bind s.image? = some x := by
    rw [job, Option.bind_some, label, Option.bind_some, hx]
  unfold stationActs
  rw [hr]
  dsimp only
  rw [if_pos ⟨pending, (congrArg (fun o : Option Job => o.bind fun j => nextStep j r) hj).trans print⟩]
  unfold artworkStep
  rw [show ((((({ s with psc.state := .loaded } : State).disc d).bind (State.jobOf { s with psc.state := .loaded })).bind
    Job.labelImage).bind (State.image? { s with psc.state := .loaded })) = some x from image]
  exact (if_neg kept).trans (if_neg tag)

/-- A disc that awaits its print has its artwork asked for after a service (R186, R178). -/
theorem servicePresent_of_pending {j : Job} {i : Nat} {x : Image} (hr : s.disc d = some r) (copy : r.purpose = .copy)
    (pending : r.verdict = .pending) (hj : s.jobOf r = some j) (print : nextStep j r = some .print)
    (label : j.labelImage = some i) (hx : s.image? i = some x) (kept : x.state ≠ .lost)
    (tag : s.psc.cacheTag ≠ some x.number) :
    s.servicePresent d = (({ s with
        psc.reservedFor := none, psc.cacheTag := none, psc.state := .loaded, psc.step := some .transfer : State
      }.toPrinter (.artwork x.number x.length)).requestArtwork x).dueBoth := by
  refine congrArg State.dueBoth ?_
  dsimp only
  rw [rejectedLeaves_of_other (s := { s with psc.reservedFor := none }) hr
    (requiredDest_of_print (j := j) copy pending hj print) (by decide)]
  exact stationActs_of_pending (s := { s with psc.reservedFor := none }) hr pending hj print label hx kept tag

/-- The report of a service that agrees on a disc is answered (R186). -/
theorem serviced_of_present {v : State} (port : s.psc.servicePort = some p) (waiting : (s.port p).waiting = true)
    (phase : s.tsq.phase = .running) (hd : s.discAt .printer = some d) (hv : s.senseOver.servicePresent d = v)
    (h : s.Served v) :
    s.serviced true = v.answer p 22 (s.port p).frameTag (.good (u8 3 ++ u8 1)) := by
  have at_ : v.port p = s.port p := congrArg (fun x => x[p]) h.ports
  have reply : v.serviceReply (some p) .agreed = v.answer p 22 (s.port p).frameTag (.good (u8 3 ++ u8 1)) := by
    rw [serviceReply_of_waiting (by rwa [at_]), at_, h.loaded]
    rfl
  have there : s.senseOver.discAt .printer = some d := hd
  unfold serviced
  dsimp only
  rw [there, port]
  dsimp only
  rw [hv, reply]
  exact proceedSense_of_running (h.phase.trans phase)

/-- The silence of a service of a jammed station (R186). -/
theorem serviceSilent_of_jammed (jammed : s.psc.state = .jammed) (port : s.psc.servicePort = some p)
    (waiting : (s.port p).waiting = true) (phase : s.tsq.phase = .running) :
    s.serviceSilent = s.senseOver.answer p 22 (s.port p).frameTag (.good (u8 7 ++ u8 3)) := by
  have elsewhere : s.senseOver.psc.state ≠ .inkOut := by
    rw [show s.senseOver.psc.state = s.psc.state from rfl, jammed]
    decide
  have reply : s.senseOver.serviceReply (some p) .noAnswer =
      s.senseOver.answer p 22 (s.port p).frameTag (.good (u8 7 ++ u8 3)) := by
    refine (serviceReply_of_waiting (s := s.senseOver) waiting).trans ?_
    rw [show s.senseOver.psc.state = .jammed from jammed]
    rfl
  unfold serviceSilent
  dsimp only
  rw [if_neg elsewhere, port, reply]
  exact proceedSense_of_running phase

theorem port_deliver_request (e : Event) : ((s.deliver e).port p).waiting = (s.port p).waiting ∧
    ((s.deliver e).port p).frameTag = (s.port p).frameTag := by
  rw [port_deliver, Port.deliver_eq, Port.foldl_join]
  exact ⟨rfl, rfl⟩

/-- The silence of a service of a station out of ink jams it (R186). -/
theorem serviceSilent_of_inkOut (inkOut : s.psc.state = .inkOut) (port : s.psc.servicePort = some p)
    (waiting : (s.port p).waiting = true) (phase : s.tsq.phase = .running) :
    s.serviceSilent = (s.senseOver.jamEntered .timeout).duePass.answer p 22 (s.port p).frameTag
      (.good (u8 7 ++ u8 3)) := by
  have jam : s.senseOver.jam .timeout = (s.senseOver.jamEntered .timeout).duePass :=
    jam_of_other (by rw [show s.senseOver.psc.state = .inkOut from inkOut]; decide)
      (.inl (by rw [show s.senseOver.psc.state = .inkOut from inkOut]; decide))
  obtain ⟨waiting', tag⟩ : (((s.senseOver.jamEntered .timeout).duePass).port p).waiting = (s.port p).waiting ∧
      (((s.senseOver.jamEntered .timeout).duePass).port p).frameTag = (s.port p).frameTag := port_deliver_request _
  unfold serviceSilent
  dsimp only
  rw [if_pos (show s.senseOver.psc.state = .inkOut from inkOut), port, jam,
    serviceReply_of_waiting (waiting'.trans waiting), tag]
  exact proceedSense_of_running (s := State.answer ..) phase

end State

/-- Settles O60, by the sense that is pending. -/
theorem thePrinterIsServiced : Obligations.ThePrinterIsServiced := by
  refine ⟨fun s p tag holds => ⟨fun notInk notJam => ?other, fun halts => ⟨fun pending => ?busy, fun idle => ?sent⟩⟩,
    fun s present => ⟨fun none_ => ?stray, fun p service port waiting phase => ⟨fun differs => ?mismatch,
      fun gone absent free => ?empty, fun jammed running => ?silent, fun inkOut running => ?jams,
      fun d r halts here hd hr copy => ?found⟩, fun sweep elsewhere => ?sweep⟩⟩
  case other =>
    exact exec_event (congrArg Host.Outcome.next (request_of_holds holds)) (if_pos ⟨notInk, notJam⟩) rfl
  case busy =>
    exact exec_event (congrArg Host.Outcome.next (request_of_holds holds))
      ((if_neg fun k => halts.elim k.1 k.2).trans (if_pos pending)) rfl
  case sent =>
    refine exec_event (congrArg Host.Outcome.next (request_of_holds holds))
      ((if_neg fun k => halts.elim k.1 k.2).trans ((if_neg ?_).trans rfl)) rfl
    rw [show s.begin.psc.sense = none from idle]
    nofun
  case stray =>
    refine exec_event rfl ?_ rfl
    rw [show s.begin.psc.sense = none from none_]
  case mismatch =>
    have reply : s.begin.serviced present =
        s.begin.senseOver.answer p 22 (s.port p).frameTag (.good (u8 s.psc.state.code ++ u8 2)) := by
      unfold serviced
      dsimp only
      rw [show s.begin.psc.servicePort = some p from port]
      split
      next hd => exact absurd (by rw [show s.discAt .printer = some _ from hd]; rfl) differs
      next hd => exact absurd (by rw [show s.discAt .printer = none from hd]; rfl) differs
      · rw [serviceReply_of_waiting (s := s.begin.senseOver) waiting]
        exact proceedSense_of_running phase
    refine exec_event rfl (Eq.trans ?_ reply) rfl
    rw [show s.begin.psc.sense = some .service from service]
  case empty =>
    subst absent
    refine congrArg (fun t : State => Host.Outcome.next t.settle) ?_
    rw [show s.begin.psc.sense = some .service from service]
    dsimp only
    unfold serviced
    dsimp only
    rw [show s.begin.psc.servicePort = some p from port, show s.begin.senseOver.discAt .printer = none from gone]
    dsimp only
    rw [show s.begin.senseOver.serviceAbsent = (s.begin.senseOver.stationTo .vacant).dueBoth by
        rw [serviceAbsent, show s.begin.senseOver.psc.reservedFor = none from free]; rfl,
      serviceReply_of_waiting (s := (s.begin.senseOver.stationTo .vacant).dueBoth) waiting]
    exact proceedSense_of_running phase
  case silent =>
    refine exec_event rfl ((if_pos running).trans ?_) rfl
    unfold printSilent
    rw [if_neg (by rw [show s.begin.psc.state = .jammed from jammed]; decide),
      show s.begin.psc.sense = some .service from service]
    exact serviceSilent_of_jammed (s := s.begin) jammed port waiting phase
  case jams =>
    refine congrArg (fun t : State => Host.Outcome.next t.settle) ((if_pos running).trans ?_)
    unfold printSilent
    rw [if_neg (by rw [show s.begin.psc.state = .inkOut from inkOut]; decide),
      show s.begin.psc.sense = some .service from service]
    exact serviceSilent_of_inkOut (s := s.begin) inkOut port waiting phase
  case found => 
    intro agreed
    subst here
    have agree (v : State) (hv : s.begin.senseOver.servicePresent d = v) (h : s.begin.Served v) :
        agreed (v.answer p 22 (s.port p).frameTag (.good (u8 3 ++ u8 1))) := by
      refine ⟨congrArg (fun t : State => Host.Outcome.next t.settle) ?_, h.discs, h.loaded, h.sense, h.timer, h.port,
        h.free, ?_⟩
      · rw [show s.begin.psc.sense = some .service from service]
        exact serviced_of_present (s := s.begin) port waiting phase hd hv h
      · exact congrArg Port.reply (port_modPort_self ..)
    refine ⟨fun reject arm queue => ?_, fun good new => ?_, fun j i x pending hj print label hx kept tag => ?_⟩
    · obtain ⟨q, present, member, dest⟩ :=
        servicePresent_of_reject (s := s.begin.senseOver) phase hd hr copy reject arm queue
      exact ⟨_, agree _ present (served_leavesWith q), rfl, member, dest⟩
    · exact ⟨_, agree _ (servicePresent_of_good (s := s.begin.senseOver) phase hd hr copy good new) (served_leavesWith _),
        rfl, rfl⟩
    · have present :=
        servicePresent_of_pending (s := s.begin.senseOver) hr copy pending hj print label hx kept tag
      obtain ⟨m, asked⟩ := requestArtwork_frame x ({ s.begin.senseOver with
          psc.reservedFor := none, psc.cacheTag := none, psc.state := .loaded, psc.step := some .transfer : State
        }.toPrinter (.artwork x.number x.length))
      rw [asked] at present
      exact ⟨_, agree _ present ⟨rfl, rfl, rfl, rfl, rfl, rfl, rfl, rfl⟩, rfl, List.mem_singleton.2 rfl, rfl⟩
  case sweep =>
    intro idle
    have answered : exec (.trayReport present) s = .next ((idle.printerAnswered present).settle) := by
      refine congrArg (fun t : State => Host.Outcome.next t.settle) ?_
      rw [show s.begin.psc.sense = some .sweep from sweep]
      exact if_neg elsewhere
    obtain ⟨sense, timer⟩ := printerAnswered_idle (s := idle) (present := present) rfl rfl
    refine ⟨answered, rfl, printerAnswered_discs, sense, timer, printerAnswered_halts (s := idle),
      printerAnswered_runs (s := idle), fun running => ?_⟩
    intro jammed settled
    obtain ⟨state, -, timer', tag⟩ := jam_station (s := idle) (c := .timeout)
    have sense' : jammed.psc.sense = none := jam_halted.sense
    obtain ⟨sense'', timer''⟩ := printerAnswered_idle (present := (jammed.discAt .printer).isSome) sense' timer'
    refine ⟨congrArg (fun t : State => Host.Outcome.next t.settle) ((if_pos running).trans ?_),
      (printerAnswered_halts (.inr state)).trans state,
      settleStation_kept.2.2.2.trans (reconcile_halted.tag tag), sense'', timer'', rfl, printerAnswered_discs⟩
    unfold printSilent
    rw [if_neg (show s.begin.psc.state ≠ .printing from elsewhere), show s.begin.psc.sense = some .sweep from sweep]
    rfl

end Sys2Proof.Machine
end

section
/-! PROOFS. TRAY-DONE (O40): a tray that opens for the arm, one that closes over a disc or over none, and one the sweep waits
for (R107, R108, R131). -/

namespace Sys2Proof.Machine

open State

namespace State
variable {s : State} {n : BayId} {m : Move} {d : DiscId} {r : Disc}

/-! ### The end of a motion -/

theorem sensesNext_of_sweep (phase : s.tsq.phase = .sweeping (.bay n)) (absent : (s.bay n).state ≠ .absent)
    (offline : (s.bay n).state ≠ .offline) (fault : (s.bay n).state ≠ .fault) : s.sensesNext n = true := by
  have here : s.sweepAtBay n = true := by simp [sweepAtBay, phase]
  have silent : s.senseNow n = none := by
    unfold senseNow
    split
    next h => exact absurd h absent
    next h => exact absurd h offline
    next h => exact absurd h fault
    · rfl
  rw [sensesNext, here, silent]
  rfl

theorem sensesNext_of_other (h : s.tsq.phase ≠ .sweeping (.bay n) ∨ (s.bay n).state = .fault) : s.sensesNext n = false := by
  rw [sensesNext, Bool.and_eq_false_iff]
  rcases h with phase | fault
  · exact .inl (by simpa [sweepAtBay] using phase)
  · exact .inr (by rw [senseNow, fault]; rfl)

/-- A bay whose tray has come to rest (R107, R108). -/
def rested (n : BayId) (x : Tray) (s : State) : State := s.modBay n (fun b => { b with tray := x, timers.tray := none })

theorem bay_rested {x : Tray} : (s.rested n x).bay n = { s.bay n with tray := x, timers.tray := none } :=
  bay_modBay_self n _ s

/-- The tray rests where its motion went. -/
theorem trayFinished_eq {x : Tray} (h : (if (s.bay n).traysIn then Tray.closed else .opened) = x) :
    s.trayFinished n =
      if (s.rested n x).sensesNext n then (s.rested n x).startSense n
      else if (s.bay n).traysIn then (s.rested n x).errandOver n (s.bay n).errand
      else if (s.bay n).errand = .place ∨ (s.bay n).errand = .pick then (s.rested n x).trayIsReady n
      else s.rested n x := by
  have rest : s.modBay n (fun b => { b with tray := if b.traysIn then .closed else .opened, timers.tray := none }) =
      s.rested n x := modBay_congr (by rw [h])
  unfold trayFinished
  dsimp only
  rw [rest]

theorem sensesNext_rested {x : Tray} (h : s.tsq.phase ≠ .sweeping (.bay n) ∨ (s.bay n).state = .fault) :
    (s.rested n x).sensesNext n = false :=
  sensesNext_of_other (h.imp id fun fault => (congrArg Bay.state bay_rested).trans fault)

/-- A motion that opens a tray for the arm ends (R107, R108). -/
theorem trayFinished_of_opens (h : s.tsq.phase ≠ .sweeping (.bay n) ∨ (s.bay n).state = .fault)
    (out : (s.bay n).traysIn = false) (errand : (s.bay n).errand = .place ∨ (s.bay n).errand = .pick) :
    s.trayFinished n = (s.rested n .opened).trayIsReady n := by
  rw [trayFinished_eq (x := .opened) (by simp [out]), sensesNext_rested h, out]
  exact if_pos errand

/-- A motion that closes a tray ends (R107, R108). -/
theorem trayFinished_of_closes (h : s.tsq.phase ≠ .sweeping (.bay n) ∨ (s.bay n).state = .fault)
    (in_ : (s.bay n).traysIn = true) :
    s.trayFinished n = (s.rested n .closed).errandOver n (s.bay n).errand := by
  rw [trayFinished_eq (x := .closed) (by simp [in_]), sensesNext_rested h, in_]
  rfl

/-- A motion that ends in a bay at which the sweep waits (R131). -/
theorem trayFinished_of_sweep {x : Tray} (rests : (if (s.bay n).traysIn then Tray.closed else .opened) = x)
    (phase : s.tsq.phase = .sweeping (.bay n)) (absent : (s.bay n).state ≠ .absent)
    (offline : (s.bay n).state ≠ .offline) (fault : (s.bay n).state ≠ .fault) :
    s.trayFinished n = (s.rested n x).startSense n := by
  have state : ((s.rested n x).bay n).state = (s.bay n).state := by rw [bay_rested]
  rw [trayFinished_eq rests, sensesNext_of_sweep (s := s.rested n x) phase (by rwa [state]) (by rwa [state])
    (by rwa [state])]
  rfl

theorem startSense_of_opened (h : (s.bay n).tray = .opened) :
    s.startSense n = (s.toBay n .trayClose).modBay n (fun b =>
      { b with tray := .moving, traysIn := true, errand := .sense, timers.tray := some 4000 }) := by
  unfold startSense
  rw [h]
  exact modBay_modBay ..

theorem startSense_of_closed (h : (s.bay n).tray = .closed) :
    s.startSense n = (s.toBay n .probe).modBay n (fun b => { b with errand := .sense, timers.probe := some 20000 }) := by
  unfold startSense
  rw [h]
  rfl

/-! ### The arm at an open tray -/

/-- The current move is at this bay, to take a disc or to place one. -/
theorem trayIsReady_of_here (hm : s.tsq.arm.move = some m)
    (here : m.entry.source = .bay n ∧ m.gripped = false ∨ m.entry.dest = .bay n ∧ m.gripped = true) :
    s.trayIsReady n = ({ s with tsq.arm.trayReady := true } : State).tryGrip.tryRelease := by
  rw [trayIsReady, hm]
  refine if_pos ?_
  rcases here with ⟨source, free⟩ | ⟨dest, held⟩
  · simp [source, free]
  · simp [dest, held]

theorem tryGrip_of_elsewhere (hm : s.tsq.arm.move = some m) (h : s.tsq.arm.state ≠ .toSource ∨ s.tsq.arm.motion ≠ none) :
    s.tryGrip = s := by
  rw [tryGrip, hm]
  exact if_neg fun k => h.elim (· k.1) (· k.2.1)

theorem tryRelease_of_elsewhere (h : s.tsq.arm.state ≠ .toDest ∨ s.tsq.arm.motion ≠ none) : s.tryRelease = s := by
  unfold tryRelease
  split
  · exact if_neg fun k => h.elim (· k.1) (· k.2.1)
  · rfl

/-- The arm stands at a bay whose tray is ready, to take its disc (R154). -/
theorem tryGrip_of_bay (hm : s.tsq.arm.move = some m)
    (still : s.tsq.arm.state = .toSource ∧ s.tsq.arm.motion = none ∧ s.tsq.arm.position = .bay n)
    (source : m.entry.source = .bay n) (back : m.returning = false) (gone : s.masterGone m.entry = false)
    (ready : s.tsq.arm.trayReady = true) : s.tryGrip = (s.armTo .picking).sendMotion .grip := by
  obtain ⟨going, rest, at_⟩ := still
  rw [tryGrip, hm]
  dsimp only
  rw [if_pos ⟨going, rest, by rw [at_, source]; rfl⟩, if_neg (by simp [back]), if_neg (by simp [gone]), source]
  exact if_pos ready

/-! ### A closed tray -/

/-- A closed bay whose errand is over (R107, R108). -/
def shut (n : BayId) (s : State) : State :=
  s.modBay n (fun b => { b with tray := .closed, timers.tray := none, errand := .none })

theorem bay_shut : (s.shut n).bay n = { s.bay n with tray := .closed, timers.tray := none, errand := .none } :=
  bay_modBay_self n _ s

theorem rested_errand : (s.rested n .closed).modBay n (fun b => { b with errand := .none }) = s.shut n :=
  modBay_modBay ..

theorem errandOver_of_fault {e : Errand} (h : (s.bay n).state = .fault) :
    (s.rested n .closed).errandOver n e = ((s.shut n).offlineCheck n).dueBoth := by
  unfold errandOver
  rw [rested_errand]
  exact if_pos ((congrArg Bay.state bay_shut).trans h)

theorem errandOver_of_place (h : (s.bay n).state ≠ .fault) :
    (s.rested n .closed).errandOver n .place = (s.shut n).closedPlace n := by
  unfold errandOver
  rw [rested_errand]
  exact if_neg fun k => h ((congrArg Bay.state bay_shut).symm.trans k)

theorem errandOver_of_pick (h : (s.bay n).state ≠ .fault) :
    (s.rested n .closed).errandOver n .pick = (s.shut n).closedPick n := by
  unfold errandOver
  rw [rested_errand]
  exact if_neg fun k => h ((congrArg Bay.state bay_shut).symm.trans k)

theorem closedPlace_of_pending (hd : s.discAt (.bay n) = some d) (hr : s.disc d = some r) (pending : r.verdict = .pending)
    (kept : r.purpose ≠ .master ∨ ∃ i x, r.image = some i ∧ s.image? i = some x ∧ x.state ≠ .lost) :
    s.closedPlace n = s.startProbe n := by
  rw [closedPlace, hd]
  dsimp only
  rw [hr]
  dsimp only
  by_cases master : r.purpose = .master
  · obtain ⟨i, x, hi, hx, live⟩ := kept.resolve_left fun k => k master
    rw [if_pos master]
    exact if_neg (by simpa [hi, hx] using live)
  · rw [if_neg master]
    exact if_pos pending

theorem offlineCheck_of_none (h : (s.bay n).offline = none ∨ (s.bayRes n).isSome) : s.offlineCheck n = s := by
  unfold offlineCheck
  split
  next c hc =>
    have reserved : (s.bayRes n).isSome := h.resolve_left (by rw [hc]; nofun)
    exact if_neg (by simp [offlineReady, Option.isSome_iff_ne_none.1 reserved])
  · rfl

theorem offlineCheck_of_ready {c : OfflineCause} (pending : (s.bay n).offline = some c) (ready : s.offlineReady n = true) :
    s.offlineCheck n = ((s.modBay n Bay.goesOffline).deliver
      { kind := .bayOffline, subject := .bay n, detail := .offline c }).dueSweep := by
  rw [offlineCheck, pending]
  exact if_pos ready

end State

/-- Settles O40, by the tray's direction, the phase and what the arm waits for. -/
theorem trayMotionsEnd : Obligations.TrayMotionsEnd := by
  intro s n
  refine ⟨fun idle => ?discarded, fun absent offline => ?live⟩
  case discarded => exact exec_event rfl (if_neg fun k => idle.elim k.1 k.2) rfl
  have run {t : State} (h : s.begin.trayDone n = t) : exec (.trayDone n) s = .next t.settle :=
    congrArg (fun t : State => Host.Outcome.next t.settle) ((if_pos ⟨absent, offline⟩).trans h)
  have run' {t : State} (h : s.begin.trayDone n = t) (due : t.due = {}) : exec (.trayDone n) s = .next t :=
    exec_event (run h) rfl due
  refine ⟨fun still none_ => ?nothing, fun still timer => ?stale, fun moving phase fault => ⟨fun out => ?sweepOut,
    fun in_ => ?sweepIn⟩, fun moving elsewhere => ?errand⟩
  case nothing => exact run' ((if_neg still).trans (if_neg (by rw [show (s.begin.bay n).timers.tray = none from none_]; decide))) rfl
  case stale => exact run' ((if_neg still).trans (if_pos timer)) rfl
  case sweepOut =>
    refine run' ((if_pos moving).trans ((trayFinished_of_sweep (s := s.begin) (x := .opened) (if_neg ?_) phase absent
      offline fault).trans ?_)) rfl
    · rw [show (s.begin.bay n).traysIn = false from out]
      decide
    · have tray : ((s.begin.rested n .opened).bay n).tray = .opened := congrArg Bay.tray bay_rested
      rw [startSense_of_opened tray]
      rw [rested, toBay_modBay, modBay_modBay]
  case sweepIn =>
    refine run' ((if_pos moving).trans ((trayFinished_of_sweep (s := s.begin) (x := .closed) (if_pos in_) phase absent
      offline fault).trans ?_)) rfl
    have tray : ((s.begin.rested n .closed).bay n).tray = .closed := congrArg Bay.tray bay_rested
    rw [startSense_of_closed tray]
    rw [rested, toBay_modBay, modBay_modBay]
  case errand =>
    intro opened closed
    have bay : closed.bay n = { s.bay n with tray := .closed, timers.tray := none, errand := .none } :=
      bay_shut (s := s.begin)
    have over_ (in_ : (s.bay n).traysIn = true) :
        s.begin.trayDone n = (s.begin.rested n .closed).errandOver n (s.bay n).errand :=
      (if_pos moving).trans (trayFinished_of_closes (s := s.begin) elsewhere in_)
    refine ⟨fun m out errand hm here => ?opens, fun in_ fault => ⟨fun d r place hd hr pending kept => ?probes,
      fun errand gone => ?idle, fun d pick hd => ?keeps⟩, fun in_ fault none_ => ?faulted⟩
    case opens =>
      have ready : s.begin.trayDone n = ({ opened with tsq.arm.trayReady := true } : State).tryGrip.tryRelease :=
        (if_pos moving).trans ((trayFinished_of_opens (s := s.begin) elsewhere out errand).trans
          (trayIsReady_of_here (s := opened) hm here))
      refine ⟨fun busy => ?_, fun free going rest at_ back stays => ?_, fun held going rest at_ place keeps => ?_⟩
      · have motion : s.tsq.arm.motion ≠ none := Option.isSome_iff_ne_none.1 busy
        refine run' (ready.trans ?_) rfl
        rw [tryGrip_of_elsewhere (s := { opened with tsq.arm.trayReady := true }) hm (.inr motion)]
        exact tryRelease_of_elsewhere (.inr motion)
      · refine run' (ready.trans ?_) rfl
        have source : m.entry.source = .bay n := (here.resolve_right fun k => by simp [free] at k).1
        rw [tryGrip_of_bay (s := { opened with tsq.arm.trayReady := true }) hm ⟨going, rest, at_⟩ source back stays rfl,
          sendMotion_of_move (s := State.armTo .picking { opened with tsq.arm.trayReady := true }) (m := .grip) hm
            (by decide)]
        exact tryRelease_of_elsewhere (.inl nofun)
      · refine run' (ready.trans ?_) rfl
        have dest : m.entry.dest = .bay n := (here.resolve_left fun k => by simp [held] at k).1
        rw [tryGrip_of_elsewhere (s := { opened with tsq.arm.trayReady := true }) hm
            (.inl fun k => absurd (going.symm.trans k) (by decide)),
          tryRelease_of_stands (s := { opened with tsq.arm.trayReady := true }) hm
            ⟨going, rest, by rw [dest]; exact at_, place⟩ keeps (fun _ _ => rfl)]
        exact sendMotion_of_move (m := .release) hm (by decide)
    case probes =>
      have ends := over_ in_
      rw [place, errandOver_of_place (s := s.begin) fault] at ends
      exact run' (ends.trans (closedPlace_of_pending (s := closed) hd hr pending kept)) rfl
    case idle =>
      have left : s.begin.trayDone n = closed.idleBay n := by
        refine (over_ in_).trans ?_
        rcases errand with h | h
        · rw [h, errandOver_of_place (s := s.begin) fault, closedPlace, show (s.begin.shut n).discAt (.bay n) = none from gone]
          rfl
        · rw [h, errandOver_of_pick (s := s.begin) fault, closedPick, show (s.begin.shut n).discAt (.bay n) = none from gone]
          rfl
      refine ⟨fun stays => ?_, fun c pending free => ?_⟩
      · refine run (left.trans ?_)
        rw [idleBay, offlineCheck_of_none]
        · rfl
        · refine stays.imp (fun k => ?_) id
          rw [bayTo, bay_modBay_self, bay]
          exact k
      · refine run (left.trans ?_)
        have res : closed.bayRes n = none := free
        have ready : (closed.bayTo n .empty).offlineReady n = true := by
          unfold offlineReady
          rw [show (closed.bayTo n .empty).discAt (.bay n) = none from gone,
            show (closed.bayTo n .empty).bayRes n = none from free, bayTo, bay_modBay_self]
          rfl
        rw [idleBay, res]
        refine (congrArg State.dueBoth (offlineCheck_of_ready (c := c) ?_ ready)).trans ?_
        · refine (congrArg Bay.offline (bay_modBay_self ..)).trans ?_
          rw [bay]
          exact pending
        · have gone_ : (closed.bayTo n .empty).modBay n Bay.goesOffline =
              closed.modBay n (fun b => { b with state := .offline, offline := none, timers := {} }) := by
            rw [bayTo, modBay_modBay]
            exact modBay_congr (by rw [bay]; rfl)
          exact congrArg (fun t : State => (t.deliver _).dueSweep.dueBoth) gone_
    case keeps =>
      have ends := over_ in_
      rw [pick, errandOver_of_pick (s := s.begin) fault, closedPick,
        if_pos (by rw [show (s.begin.shut n).discAt (.bay n) = some d from hd]; rfl)] at ends
      exact ⟨_, run ends, hold_discs, bay_hold.trans (by rw [bay_shut]; rfl)⟩
    case faulted =>
      have ends := over_ in_
      rw [errandOver_of_fault (s := s.begin) fault, offlineCheck_of_none (s := s.begin.shut n) (.inl ((congrArg Bay.offline bay).trans none_))]
        at ends
      exact run ends

end Sys2Proof.Machine
end

section
/-! PROOFS. A feed period (O36): what it raises, what it charges and how much it issues (R92, R93, R96, R97). -/

namespace Sys2Proof.Machine

open State

/-! ### What a period may do to a stream -/

/-- A stream that has paid for the blocks issued to it; a re-read is free of charge (R93, R97). -/
structure Stream.Paid (x y : Stream) : Prop where
  reread : y.reread = x.reread
  more : x.inFlight ≤ y.inFlight
  charged : x.reread = none → y.credit + 1000 * (y.inFlight - x.inFlight) = x.credit
  free : x.reread ≠ none → y.credit = x.credit

theorem Stream.Paid.refl (x : Stream) : x.Paid x := ⟨rfl, le_refl _, fun _ => by omega, fun _ => rfl⟩

theorem Stream.Paid.trans {x y z : Stream} (h : x.Paid y) (k : y.Paid z) : x.Paid z where
  reread := k.reread.trans h.reread
  more := h.more.trans k.more
  charged e := by
    have first := h.charged e
    have second := k.charged (h.reread.trans e)
    have more := h.more
    have more' := k.more
    omega
  free e := (k.free fun n => e (h.reread.symm.trans n)).trans (h.free e)

/-- The parts of a state that a feed period keeps once its clock has moved. -/
def State.unfed (s : State) := (s.tsq, s.mem, s.sst, s.due)

/-- What issuing this many blocks to the streams and to the artwork transfer does to a state. -/
structure State.Fed (k : Nat) (s t : State) : Prop where
  kept : t.unfed = s.unfed
  blocks : t.feedBlocks = s.feedBlocks + k
  closed (n : BayId) : s.stream n = none → t.stream n = none
  paid (n : BayId) (x : Stream) : s.stream n = some x → ∃ y, t.stream n = some y ∧ x.Paid y

namespace State
variable {s t u : State} {n : BayId} {x y : Stream} {r : FeedRead}

theorem Fed.refl (s : State) : s.Fed 0 s := ⟨rfl, rfl, fun _ h => h, fun _ x h => ⟨x, h, .refl x⟩⟩

theorem Fed.trans {j k : Nat} (h : s.Fed j t) (g : t.Fed k u) : s.Fed (j + k) u where
  kept := g.kept.trans h.kept
  blocks := by rw [g.blocks, h.blocks, Nat.add_assoc]
  closed n e := g.closed n (h.closed n e)
  paid n x e := by
    obtain ⟨y, hy, first⟩ := h.paid n x e
    obtain ⟨z, hz, second⟩ := g.paid n y hy
    exact ⟨z, hz, first.trans second⟩

/-- A read joins the queue of the memory controller (R69). -/
theorem fed_issueFeed (r : FeedRead) (s : State) : s.Fed r.count (s.issueFeed r) where
  kept := rfl
  blocks := by
    change ((s.smc.feedQueue ++ [r]).map FeedRead.count).sum + _ = _
    rw [List.map_append, List.sum_append]
    simp only [List.map_cons, List.map_nil, List.sum_cons, List.sum_nil, Nat.add_zero, feedBlocks]
    exact Nat.add_right_comm ..
  closed _ h := h
  paid _ x h := ⟨x, h, .refl x⟩

/-- A stream changes as a payment allows. -/
theorem fed_setStream (h : s.stream n = some x) (p : x.Paid y) : s.Fed 0 (s.setStream n (some y)) where
  kept := rfl
  blocks := rfl
  closed m e := by
    by_cases same : m = n
    · rw [same, h] at e
      cases e
    · exact (stream_setStream_ne same ..).trans e
  paid m z e := by
    by_cases same : m = n
    · subst same
      cases h.symm.trans e
      exact ⟨y, stream_setStream_self .., p⟩
    · exact ⟨z, (stream_setStream_ne same ..).trans e, .refl z⟩

/-- The artwork transfer goes on. -/
theorem fed_artwork (x : Option Transfer) (s : State) : s.Fed 0 { s with fdr.artwork := x } :=
  ⟨rfl, rfl, fun _ h => h, fun _ x h => ⟨x, h, .refl x⟩⟩

theorem Fed.issue {k : Nat} (h : s.Fed 0 t) (count : r.count = k) : s.Fed k (t.issueFeed r) := by
  have all := h.trans (fed_issueFeed r t)
  rwa [Nat.zero_add, count] at all

/-! ### The re-reads of a period (R93) -/

/-- A step of a period that issues some blocks and counts them, at most this many. -/
def Issues (most : Nat) (p q : Nat × State) : Prop := ∃ k, k ≤ most ∧ q.1 = p.1 + k ∧ p.2.Fed k q.2

variable {p q : Nat × State} {j k : Nat}

theorem Issues.none : Issues k p p := ⟨0, Nat.zero_le k, rfl, .refl _⟩

theorem Issues.trans {o : Nat × State} (h : Issues j o p) (g : Issues k p q) : Issues (j + k) o q := by
  obtain ⟨a, ha, count, fed⟩ := h
  obtain ⟨b, hb, count', fed'⟩ := g
  exact ⟨a + b, Nat.add_le_add ha hb, by rw [count', count, Nat.add_assoc], fed.trans fed'⟩

theorem Issues.ite {c : Prop} [Decidable c] {q' : Nat × State} (h : Issues k p q) (h' : Issues k p q') :
    Issues k p (if c then q else q') := by
  split
  · exact h
  · exact h'

theorem issues_rereadStream (n : BayId) (p : Nat × State) : Issues 1 p (rereadStream n p) := by
  unfold rereadStream
  split
  next x hx =>
    split
    next i hi =>
      refine .ite .none ?_
      have moved : p.2.modStream n (fun x =>
          { x with inFlight := x.inFlight + 1, next := nextInVerifySet x.sampleK x.stop i }) =
          p.2.setStream n (some { x with inFlight := x.inFlight + 1, next := nextInVerifySet x.sampleK x.stop i }) := by
        rw [modStream, hx]
        rfl
      have pays : x.Paid { x with inFlight := x.inFlight + 1, next := nextInVerifySet x.sampleK x.stop i } :=
        ⟨rfl, Nat.le_succ _, fun e => absurd (hi.symm.trans e) nofun, fun _ => rfl⟩
      refine ⟨1, le_refl _, rfl, ?_⟩
      dsimp only
      rw [moved]
      exact (fed_setStream hx pays).issue rfl
    · exact .none
  · exact .none

theorem issues_rereadArtwork (p : Nat × State) : Issues 1 p (rereadArtwork p) := by
  unfold rereadArtwork
  split
  · split
    · exact .ite ⟨1, le_refl _, rfl, (fed_artwork _ _).issue rfl⟩ .none
    · exact .none
  · exact .none

theorem issues_rereadStreams (ns : List BayId) (p : Nat × State) :
    Issues ns.length p (ns.foldl (fun p n => rereadStream n p) p) := by
  induction ns generalizing p with
  | nil => exact .none
  | cons n ns ih =>
    have both := (issues_rereadStream n p).trans (ih (rereadStream n p))
    rwa [Nat.add_comm] at both

/-- At most thirteen re-reads are issued: one for each bay and one for the artwork transfer (R93). -/
theorem issues_rereads (s : State) : Issues 13 (0, s) (issueRereads s) :=
  (issues_rereadStreams allBays (0, s)).trans (issues_rereadArtwork _)

/-! ### The bursts of a period (R96, R97) -/

/-- The chosen stream is an open one that is eligible (R96). -/
theorem eligible_of_chosen (h : s.chosen = some (n, x)) : s.stream n = some x ∧ s.eligible n x = true := by
  unfold chosen at h
  refine List.foldlRecOn (motive := fun best : Option (BayId × Stream) =>
    ∀ m y, best = some (m, y) → s.stream m = some y ∧ s.eligible m y = true) allBays _ (fun _ _ e => by cases e)
    (fun best ih m _ => ?_) n x h
  intro k y e
  split at e
  next z hz =>
    split at e
    next eligible =>
      split at e
      next =>
        split at e
        · cases e
          exact ⟨hz, eligible⟩
        · exact ih k y e
      next =>
        cases e
        exact ⟨hz, eligible⟩
    · exact ih k y e
  · exact ih k y e

theorem issues_serveBurst (h : p.2.chosen = some (n, x)) :
    p.2.Fed (p.2.fullBurst x) (p.2.serveBurst n x) := by
  obtain ⟨open_, eligible⟩ := eligible_of_chosen h
  obtain ⟨⟨⟨noReread, -⟩, -⟩, credit⟩ : ((x.reread = none ∧ 1 ≤ p.2.fullBurst x) ∧ p.2.fullBurst x ≤ p.2.fifoFree n) ∧
      1000 * p.2.fullBurst x ≤ x.credit := by simpa [State.eligible] using eligible
  refine (fed_setStream open_ ?_).issue rfl
  refine ⟨rfl, Nat.le_add_right _ _, fun _ => ?_, fun e => absurd noReread e⟩
  dsimp only
  rw [Nat.add_sub_cancel_left]
  omega

/-- The bursts of a period keep to its limit (R93). -/
theorem issues_serveBursts (limit k : Nat) (p : Nat × State) :
    ∃ c, (serveBursts limit k p).1 = p.1 + c ∧ p.2.Fed c (serveBursts limit k p).2 ∧
      (p.1 ≤ limit → p.1 + c ≤ limit) := by
  induction k generalizing p with
  | zero => exact ⟨0, rfl, .refl _, id⟩
  | succ k ih =>
    unfold serveBursts
    split
    next m x hx =>
      dsimp only
      split
      · exact ⟨0, rfl, .refl _, id⟩
      next fits =>
        obtain ⟨c, count, fed, below⟩ := ih (p.1 + p.2.fullBurst x, p.2.serveBurst m x)
        refine ⟨p.2.fullBurst x + c, by rw [count, Nat.add_assoc], (issues_serveBurst hx).trans fed, fun _ => ?_⟩
        rw [← Nat.add_assoc]
        exact below (Nat.le_of_not_lt fits)
    · exact ⟨0, rfl, .refl _, id⟩

/-- The artwork transfer takes at most what is left of the limit (R103). -/
theorem fed_serveArtwork (left : Nat) (s : State) : ∃ k, k ≤ left ∧ s.Fed k (s.serveArtwork left) := by
  unfold serveArtwork
  split
  · split
    · exact ⟨_, (Nat.min_le_right _ _).trans (Nat.min_le_right _ _), (fed_artwork _ _).issue rfl⟩
    · exact ⟨0, Nat.zero_le _, .refl _⟩
  · exact ⟨0, Nat.zero_le _, .refl _⟩

/-! ### The memory controller takes a request (R69) -/

/-- The blocks of the feed reads of a memory controller. -/
theorem feedBlocks_take {m : Smc} {x : SmcSource} (free : s.smc.serving = none) (h : s.smc.take x = some m) :
    ({ s with smc := m } : State).feedBlocks = s.feedBlocks := by
  have idle : s.feedBlocks = (s.smc.feedQueue.map FeedRead.count).sum := by
    unfold feedBlocks
    rw [free]
    rfl
  rw [idle]
  unfold Smc.take at h
  split at h
  · split at h
    next r rest hq =>
      cases h
      rw [hq, List.map_cons, List.sum_cons]
      exact Nat.add_comm _ _
    · cases h
  · split at h
    · cases h
      rfl
    · cases h
  · split at h
    · cases h
      rfl
    · cases h

theorem fed_smcServe (s : State) : s.Fed 0 s.smcServe where
  kept := rfl
  blocks := by
    unfold smcServe Smc.serve
    split
    · rfl
    next free =>
      have none_ : s.smc.serving = none := by simpa using free
      dsimp only
      cases h : (s.smc.take s.smc.turn.after).orElse (fun _ =>
          (s.smc.take s.smc.turn.after.after).orElse (fun _ => s.smc.take s.smc.turn)) with
      | none => rfl
      | some m =>
        have taken : ∃ x, s.smc.take x = some m := by
          have either {a : Option Smc} {f : Unit → Option Smc} (k : a.orElse f = some m) :
              a = some m ∨ f () = some m := by
            cases a with
            | none => exact .inr k
            | some => exact .inl k
          rcases either h with h | h
          · exact ⟨_, h⟩
          · exact (either h).elim (fun h => ⟨_, h⟩) (fun h => ⟨_, h⟩)
        obtain ⟨x, hx⟩ := taken
        exact feedBlocks_take none_ hx
  closed _ h := h
  paid _ x h := ⟨x, h, .refl x⟩

end State

/-! ### The credits of a period (R92) -/

theorem stream_forEach_modStream {f : Stream → Stream} {n : BayId} {ns : List BayId} (once : ns.Nodup) (s : State) :
    (forEach ns (fun m => State.modStream m f) s).stream n =
      if n ∈ ns then (s.stream n).map f else s.stream n := by
  induction ns generalizing s with
  | nil => exact (if_neg List.not_mem_nil).symm
  | cons m ns ih =>
    obtain ⟨new, once⟩ := List.nodup_cons.1 once
    rw [forEach_cons, ih once]
    by_cases same : n = m
    · subst same
      rw [if_neg new, if_pos List.mem_cons_self]
      exact stream_setStream_self ..
    · have kept : (s.modStream m f).stream n = s.stream n := stream_setStream_ne same ..
      rw [kept]
      simp [same]

/-- Every open stream's credit rises by its rate (R92). -/
theorem stream_raiseCredits (n : BayId) (s : State) :
    s.raiseCredits.stream n = (s.stream n).map (fun x => { x with credit := min (x.credit + x.rate) 16000 }) := by
  unfold raiseCredits
  rw [stream_forEach_modStream (by decide), if_pos (by revert n; decide)]
  rfl

theorem feedBlocks_congr {s t : State} (h : t.smc = s.smc) : t.feedBlocks = s.feedBlocks := by
  rw [feedBlocks, feedBlocks, h]

theorem unfed_raiseCredits (s : State) : s.raiseCredits.unfed = s.unfed ∧ s.raiseCredits.feedBlocks = s.feedBlocks := by
  refine ⟨?_, feedBlocks_congr ?_⟩
  · exact forEach_frame State.unfed (f := fun n => State.modStream n _) (fun _ _ => rfl) allBays s
  · exact forEach_frame State.smc (f := fun n => State.modStream n _) (fun _ _ => rfl) allBays s

/-- Settles O36, by what each part of a period issues and charges. -/
theorem aPeriodPaysForWhatItIssues : Obligations.APeriodPaysForWhatItIssues := by
  intro s
  generalize hr : ({ s.begin with tsq.clock := s.tsq.clock + 1 } : State).raiseCredits = u
  obtain ⟨kept, blocks⟩ := unfed_raiseCredits { s.begin with tsq.clock := s.tsq.clock + 1 }
  have raised (n : BayId) : u.stream n =
      (s.stream n).map (fun x => { x with credit := min (x.credit + x.rate) 16000 }) := hr ▸ stream_raiseCredits n _
  rw [hr] at kept blocks
  obtain ⟨a, ha, rereads, fed⟩ := issues_rereads u
  generalize hl : s.sst.working.budget / 1000 = limit
  obtain ⟨b, bursts, fed', below⟩ := issues_serveBursts limit limit (issueRereads u)
  obtain ⟨c, hc, fed''⟩ := fed_serveArtwork (limit - (serveBursts limit limit (issueRereads u)).1)
    (serveBursts limit limit (issueRereads u)).2
  have all := ((fed.trans fed').trans fed'').trans (fed_smcServe _)
  generalize ht : (((serveBursts limit limit (issueRereads u)).2.serveArtwork
    (limit - (serveBursts limit limit (issueRereads u)).1)).smcServe) = t at all
  have run : s.begin.feedPeriod = t := by
    rw [← ht, ← hl, ← hr]
    rfl
  have same : t.unfed = ({ s.begin with tsq.clock := s.tsq.clock + 1 } : State).unfed := all.kept.trans kept
  simp only [unfed, Prod.mk.injEq] at same
  obtain ⟨tsq, mem, -, due⟩ := same
  refine ⟨t, exec_event rfl run due, by rw [tsq], mem, fun n x hx idle => ?_, fun n x i hx pending => ?_,
    fun n hn => all.closed n (by rw [raised, hn]; rfl), fun large => ?_⟩
  · obtain ⟨y, hy, paid⟩ := all.paid n _ ((raised n).trans (congrArg (Option.map _) hx))
    exact ⟨y, hy, paid.more, paid.charged idle⟩
  · obtain ⟨y, hy, paid⟩ := all.paid n _ ((raised n).trans (congrArg (Option.map _) hx))
    exact ⟨y, hy, paid.free (by simp [pending]), paid.reread.trans pending⟩
  · have total : t.feedBlocks = u.feedBlocks + (a + b + c + 0) := all.blocks
    have start : u.feedBlocks = s.feedBlocks := blocks
    have room : 13 ≤ limit := by omega
    have first : (issueRereads u).1 = a := by simpa using rereads
    have most := below (by omega)
    omega

end Sys2Proof.Machine
end

section
/-! PROOFS. An artwork burst reaches the printer (O39), and what a completed read leaves of the catalogue and of the memory
controller (R69, R102, R103). -/

namespace Sys2Proof.Machine

open State

theorem blockGood_headD {ws : List WordDamage} (h : ∀ w ∈ ws, w ≠ .twoBits) : blockGood (ws.headD .clean) = true := by
  cases ws with
  | nil => rfl
  | cons w ws =>
    have good := h w List.mem_cons_self
    cases w with
    | clean => rfl
    | oneBit => rfl
    | twoBits => exact absurd rfl good

namespace State
variable {s : State} {i n : Nat} {x : Transfer}

/-! ### The end of a read -/

theorem masterTest_of_other (h : ∀ x, s.image? i = some x → x.state ≠ .filling ∨ x.readDone = false ∨ x.accesses ≠ 0) :
    s.masterTest i = s := by
  unfold masterTest
  split
  next x hx =>
    refine if_neg fun k => ?_
    rcases h x hx with h | h | h
    · exact h k.1
    · simp [h] at k
    · exact h k.2.2
  · rfl

theorem freeTest_of_live (h : ∀ x, s.image? i = some x → x.state ≠ .doomed ∧ x.state ≠ .lost) : s.freeTest i = s := by
  unfold freeTest
  split
  next x hx => exact if_neg fun k => k.1.elim (h x hx).1 (h x hx).2
  · rfl

/-- A completed read of an image that no master is read into changes the catalogue and the memory controller alone. -/
theorem readServed_frame (h : ∀ x, s.image? i = some x → x.state ≠ .filling ∨ x.readDone = false) :
    ∃ c m, s.readServed i = { s with cat := c, smc := m } := by
  obtain ⟨c, hc⟩ := freeTest_frame i (s.served.modImage i (fun x => { x with accesses := x.accesses - 1 }))
  have still : ∀ x, (s.served.accessDown i).image? i = some x → x.state ≠ .filling ∨ x.readDone = false := by
    intro x hx
    have from_ : (s.served.modImage i (fun x => { x with accesses := x.accesses - 1 })).image? i = some x := by
      unfold accessDown freeTest at hx
      split at hx
      next y hy =>
        split at hx
        · have gone := List.find?_some hx
          have member := List.mem_of_find?_eq_some hx
          simp_all
        · exact hx
      next none_ => exact hx
    rw [image?_modImage_self (f := fun x => { x with accesses := x.accesses - 1 }) fun _ => rfl] at from_
    obtain ⟨y, hy, rfl⟩ := Option.map_eq_some_iff.1 from_
    exact h y hy
  unfold readServed accessDone
  rw [masterTest_of_other fun x hx => (still x hx).imp id .inl, accessDown, hc]
  exact ⟨c, _, rfl⟩

/-! ### The blocks of a burst -/

/-- The blocks of an artwork burst that the printer is handed (R103). -/
def artworkMsgs (s : State) (image first count : Nat) : List OutMsg :=
  (List.range count).map (fun k => .printer (.artworkBlock (s.loadBlock image (first + k))))

theorem artworkMsgs_succ (image first count : Nat) (s : State) :
    s.artworkMsgs image first (count + 1) =
      .printer (.artworkBlock (s.loadBlock image first)) :: s.artworkMsgs image (first + 1) count := by
  unfold artworkMsgs
  rw [List.range_succ_eq_map, List.map_cons, List.map_map]
  refine congrArg₂ List.cons rfl (List.map_congr_left fun k _ => ?_)
  rw [Function.comp_apply, Nat.succ_eq_add_one, Nat.add_assoc, Nat.add_comm 1 k]

/-- A burst with no bad block is handed to the printer in index order (R103). -/
theorem takeArtworks_of_good {image count first : Nat} {ws : List WordDamage} (fate : s.servedFate = .deliver)
    (good : ∀ w ∈ ws, w ≠ .twoBits) (hx : s.fdr.artwork = some x) :
    takeArtworks image count first ws s = { s with
      sent := s.sent ++ s.artworkMsgs image first count
      fdr.artwork := some { x with inFlight := x.inFlight - count } } := by
  induction count generalizing first ws s x with
  | zero =>
    exact congrArg₂ (fun ms o => ({ s with sent := ms, fdr.artwork := o } : State)) (List.append_nil s.sent).symm hx
  | succ k ih =>
    have taken : s.takeArtwork image first (ws.headD .clean) = { s with
        sent := s.sent ++ [.printer (.artworkBlock (s.loadBlock image first))]
        fdr.artwork := some { x with inFlight := x.inFlight - 1 } } := by
      unfold takeArtwork
      rw [fate]
      dsimp only
      rw [if_pos (blockGood_headD good), modArtwork, hx]
      rfl
    unfold takeArtworks
    rw [taken, ih (s := { s with
        sent := s.sent ++ [.printer (.artworkBlock (s.loadBlock image first))]
        fdr.artwork := some { x with inFlight := x.inFlight - 1 } }) fate (fun w hw => good w (List.mem_of_mem_drop hw)) rfl,
      artworkMsgs_succ]
    dsimp only
    rw [List.append_assoc, Nat.sub_sub, Nat.add_comm 1 k]
    rfl

end State

/-- Settles O39, by induction on the blocks of the burst. -/
theorem artworkGoesToThePrinterInOrder : Obligations.ArtworkGoesToThePrinterInOrder := by
  intro s r x y damage serving user fate inside hx reread hy ready good
  have delivers : s.begin.servedFate = .deliver := by
    rw [servedFate, show s.begin.smc.serving = some (.feed r) from serving]
    exact fate
  have readable : s.begin.readable r = true := by
    rw [State.readable, show s.begin.readInside r = true from inside, Bool.or_true]
  have taken := takeArtworks_of_good (s := s.begin) (image := r.image) (count := r.count) (first := r.first) delivers good hx
  generalize hu : takeArtworks r.image r.count r.first damage s.begin = u at taken
  have run : exec (.artworkReadDone damage) s = .next ((u.artworkEnd.readServed r.image).settle) := by
    have served : exec (.artworkReadDone damage) s = if s.begin.readable r then
        .next (((takeArtworks r.image r.count r.first damage s.begin).artworkEnd).readServed r.image).settle
        else .fault .blockOutsideImage := by
      change execArtworkReadDone damage s = _
      unfold execArtworkReadDone
      dsimp only
      rw [show s.begin.smc.serving = some (.feed r) from serving]
      dsimp only
      rw [user]
    rw [served, if_pos readable, hu]
  obtain ⟨e, hu', artwork⟩ : ∃ e : State, u.artworkEnd = e ∧
      (e.mem, e.due, e.cat, e.sent) = (s.mem, {}, s.cat, s.artworkMsgs r.image r.first r.count) ∧
      (x.next < x.length → e.fdr.artwork = some { x with inFlight := x.inFlight - r.count } ∧ e.psc = s.psc) ∧
      (x.length ≤ x.next → x.inFlight = r.count → s.psc.state = .loaded → s.psc.step = some .transfer →
        e.fdr.artwork = none ∧ e.psc = { s.psc with step := some .artworkWait, timer := some 60000 }) := by
    refine ⟨_, rfl, ?_⟩
    subst taken
    unfold artworkEnd
    dsimp only
    split
    next ends =>
      unfold transferComplete
      refine ⟨?_, fun more => absurd ends.1 (Nat.not_le_of_lt more), fun _ _ loaded step => ?_⟩
      · split <;> rfl
      · rw [show s.begin.psc.state = .loaded from loaded, show s.begin.psc.step = some .transfer from step]
        exact ⟨rfl, rfl⟩
    next more =>
      refine ⟨rfl, fun _ => ⟨rfl, rfl⟩, fun last all => absurd ⟨last, ?_, reread⟩ more⟩
      rw [all, Nat.sub_self]
  obtain ⟨kept, going, complete⟩ := artwork
  simp only [Prod.mk.injEq] at kept
  obtain ⟨mem, due, cat, sent⟩ := kept
  obtain ⟨c, m, left⟩ := readServed_frame (s := e) (i := r.image) fun x' hx' => .inl (by
    have same : e.image? r.image = s.image? r.image := congrArg (fun c => c.images.find? (fun x => x.number == r.image)) cat
    rw [same, hy] at hx'
    cases hx'
    rw [ready]
    decide)
  exact ⟨_, exec_event run ((congrArg (State.readServed r.image) hu').trans left) due, mem, sent, going, complete⟩

end Sys2Proof.Machine
end

section
/-! PROOFS. BAY-OFFLINE and BAY-ONLINE (O25): a bay marked, taken off, ended as a spare, and brought back (R127 to R129). -/

namespace Sys2Proof.Machine

open State

namespace State
variable {s : State} {n : BayId} {d : DiscId} {r : Disc}

/-- The mark of BAY-OFFLINE (R128). -/
def marks (n : BayId) (s : State) : State := s.modBay n (fun b => { b with offline := some .client })

theorem bay_marks : (s.marks n).bay n = { s.bay n with offline := some .client } := bay_modBay_self n _ s

theorem ownBayOffline_of_fresh (absent : (s.bay n).state ≠ .absent) (on : (s.bay n).state ≠ .offline)
    (fresh : (s.bay n).offline = none) :
    ownBayOffline n.val s = ((((s.marks n).offlineCheck n).spareOffline n),
      .good ((((s.marks n).offlineCheck n).spareOffline n).offlineBytes n)) := by
  rw [ownBayOffline, bayOf_val]
  dsimp only
  rw [if_neg absent, if_neg (by simp [on, fresh])]
  rfl

theorem ownBayOffline_of_marked (absent : (s.bay n).state ≠ .absent)
    (h : (s.bay n).state = .offline ∨ (s.bay n).offline.isSome) :
    ownBayOffline n.val s = (s, .good (s.offlineBytes n)) := by
  rw [ownBayOffline, bayOf_val]
  dsimp only
  rw [if_neg absent]
  exact if_pos h

theorem ownBayOnline_of_live (absent : (s.bay n).state ≠ .absent) :
    ownBayOnline n.val s =
      ((s.modBay n (fun b => { b with faults := 0, offline := none })).bringOnline n,
        .good (u8 (((s.modBay n (fun b => { b with faults := 0, offline := none })).bringOnline n).bay n).state.code)) := by
  rw [ownBayOnline, bayOf_val]
  exact if_neg absent

theorem offlineBytes_of_off (h : (s.bay n).state = .offline) : s.offlineBytes n = u8 2 ++ u8 1 := by
  rw [offlineBytes, h]
  rfl

theorem offlineBytes_of_on (h : (s.bay n).state ≠ .offline) : s.offlineBytes n = u8 (s.bay n).state.code ++ u8 2 := by
  rw [offlineBytes, if_neg h]

theorem spareOffline_of_other (h : (s.bay n).state ≠ .spare) : s.spareOffline n = s := if_neg fun k => h k.1

theorem offlineCheck_of_waits (h : s.offlineReady n = false) : s.offlineCheck n = s := by
  unfold offlineCheck
  split
  · exact if_neg (by simp [h])
  · rfl

theorem offlineReady_marks : (s.marks n).offlineReady n = s.offlineReady n := by
  unfold offlineReady
  rw [bay_marks]
  rfl

theorem ready_state (h : s.offlineReady n = true) : (s.bay n).state = .empty ∨ (s.bay n).state = .fault := by
  have states := (Bool.and_eq_true_iff.1 h).2
  simp only [Bool.or_eq_true, Bool.and_eq_true, beq_iff_eq] at states
  exact states.imp_right And.left

/-- The CLEAR of the disc of a bay that leaves FAULT (R129). -/
theorem onlineClear_queue (hd : s.discAt (.bay n) = some d) (hr : s.disc d = some r) :
    ∃ u, s.onlineClear n = { s with
      tsq.queue := s.tsq.queue ++ (if (r.purpose = .master ∧ r.verdict = .pending) ∨ s.hasEntry d = true then []
        else (s.requiredDest r).toList.map (fun dest =>
          ({ cls := .clear, source := .bay n, dest := dest, disc := some d, time := s.tsq.clock } : Entry)))
      due := u } := by
  have rec_ : s.recAt (.bay n) = some r := by rw [recAt, hd, Option.bind_some, hr]
  unfold onlineClear
  rw [rec_]
  by_cases master : r.purpose = .master ∧ r.verdict = .pending
  · rw [if_pos (by simp [master]), if_pos (.inl master), List.append_nil]
    exact ⟨s.due, rfl⟩
  · rw [if_neg (by simpa using master), clearFromBay, hd]
    dsimp only
    rw [hr, Option.bind_some]
    by_cases held : s.hasEntry d = true
    · rw [if_pos (.inr held), List.append_nil]
      refine ⟨s.due, ?_⟩
      split
      · exact if_pos held
      · rfl
    · rw [if_neg (by simp [master, held])]
      split
      next dest required =>
        rw [required]
        exact ⟨_, if_neg held⟩
      next required =>
        rw [required]
        exact ⟨s.due, by rw [Option.toList_none, List.map_nil, List.append_nil]⟩

end State

/-- Settles O25, by the bay's state, its mark and what it waits for. -/
theorem takingABayOffAndOn : Obligations.TakingABayOffAndOn := by
  intro s p tag n absent
  refine ⟨fun held => ⟨fun off => ?off, fun on marked => ?marked, fun on fresh waits other => ?waits,
    fun fresh ready => ?ready, fun d r hs fresh hd hr spare pending => ?spare⟩,
    fun held => ⟨fun on sound => ?unmark, fun cause => ?back, fun d r fault hd hr => ?clears⟩⟩
  case off =>
    refine congrArg Host.Outcome.next (requestNow_answers held ((ownBayOffline_of_marked (s := s.begin) absent
      (.inl off)).trans ?_) rfl)
    rw [offlineBytes_of_off (s := s.begin) off]
  case marked =>
    refine congrArg Host.Outcome.next (requestNow_answers held ((ownBayOffline_of_marked (s := s.begin) absent
      (.inr marked)).trans ?_) rfl)
    rw [offlineBytes_of_on (s := s.begin) on]
    rfl
  case waits =>
    have bay : (s.begin.marks n).bay n = { s.bay n with offline := some .client } := bay_marks
    have still : ((s.begin.marks n).offlineCheck n).spareOffline n = s.begin.marks n := by
      rw [offlineCheck_of_waits (s := s.begin.marks n) (offlineReady_marks.trans waits),
        spareOffline_of_other (by rw [bay]; exact other)]
    have owner := ownBayOffline_of_fresh (s := s.begin) absent on fresh
    rw [still, offlineBytes_of_on (by rw [bay]; exact on), bay] at owner
    exact congrArg Host.Outcome.next (requestNow_answers held owner rfl)
  case ready =>
    have on : (s.bay n).state ≠ .offline := by
      rcases ready_state ready with h | h <;> rw [h] <;> decide
    have bay : (s.begin.marks n).bay n = { s.bay n with offline := some .client } := bay_marks
    generalize ht : (s.begin.modBay n Bay.goesOffline).deliver
      { kind := .bayOffline, subject := .bay n, detail := .offline .client } = t
    have left : (s.begin.marks n).modBay n Bay.goesOffline = s.begin.modBay n Bay.goesOffline := modBay_modBay ..
    have checked : (s.begin.marks n).offlineCheck n = t.dueSweep := by
      rw [offlineCheck_of_ready (s := s.begin.marks n) (c := .client) (by rw [bay]) (offlineReady_marks.trans ready), left, ht]
    have state : (t.bay n).state = .offline := by
      rw [← ht]
      exact congrArg Bay.state (bay_modBay_self n Bay.goesOffline s.begin)
    have owner := ownBayOffline_of_fresh (s := s.begin) absent on fresh
    rw [checked, spareOffline_of_other (s := t.dueSweep) (by exact fun k => absurd (state.symm.trans k) (by decide)),
      offlineBytes_of_off (s := t.dueSweep) state] at owner
    exact congrArg Host.Outcome.next ((requestNow_settles held owner).trans (by rw [← ht]; rfl))
  case spare =>
    have bay : (s.begin.marks n).bay n = { s.bay n with offline := some .client } := bay_marks
    have waits : s.offlineReady n = false := by
      rw [Bool.eq_false_iff]
      exact fun k => by rcases ready_state k with h | h <;> rw [h] at hs <;> cases hs
    have ends : ((s.begin.marks n).offlineCheck n).spareOffline n = (s.begin.marks n).endSpareHold n := by
      rw [offlineCheck_of_waits (s := s.begin.marks n) (offlineReady_marks.trans waits)]
      exact if_pos ⟨by rw [bay]; exact hs, by rw [bay]; rfl⟩
    obtain ⟨state, mark, written, free⟩ :=
      endSpareHold_ends (s := s.begin.marks n) (by rw [bay]; exact hs) hd hr spare pending
    have owner := ownBayOffline_of_fresh (s := s.begin) absent
      (fun k => absurd (hs.symm.trans k) (by decide)) fresh
    rw [ends, offlineBytes_of_on (by rw [state]; decide), state] at owner
    exact ⟨_, congrArg Host.Outcome.next (requestNow_settles held owner), state, mark.trans (by rw [bay]), free,
      by rw [written]; rfl, by rw [written]; rfl⟩
  all_goals
    have bay : (s.begin.modBay n (fun b => { b with faults := 0, offline := none })).bay n =
      { s.bay n with faults := 0, offline := none } := bay_modBay_self n _ s.begin
    have owner := ownBayOnline_of_live (s := s.begin) absent
    generalize hu : s.begin.modBay n (fun b => { b with faults := 0, offline := none }) = u at bay owner
  case unmark =>
    have kept : u.bringOnline n = u := by
      unfold bringOnline
      rw [bay]
      split
      next h => exact absurd h on
      next h => exact absurd h sound
      · rfl
    rw [kept, bay] at owner
    exact congrArg Host.Outcome.next ((requestNow_answers held owner (by rw [← hu]; rfl)).trans (by rw [← hu]))
  case back =>
    have back : u.bringOnline n = (u.bayTo n .empty).dueBoth := by
      unfold bringOnline
      rw [bay]
      rcases cause with off | ⟨fault, gone⟩
      · rw [show _ = _ from off]
      · rw [show _ = _ from fault, show u.discAt (.bay n) = none by rw [← hu]; exact gone]
        rfl
    have empty : ((u.bayTo n .empty).dueBoth.bay n).state = .empty :=
      congrArg Bay.state (bay_modBay_self n (fun b => { b with state := .empty }) u)
    rw [back, empty] at owner
    refine congrArg Host.Outcome.next ((requestNow_settles held owner).trans ?_)
    rw [← hu, bayTo, modBay_modBay]
    rfl
  case clears =>
    have at_ : (u.bayTo n .holding).discAt (.bay n) = some d := by rw [← hu]; exact hd
    have entry : (u.bayTo n .holding).disc d = some r := by rw [← hu]; exact hr
    obtain ⟨due, cleared⟩ := onlineClear_queue at_ entry
    have back : u.bringOnline n = ((u.bayTo n .holding).onlineClear n).dueBoth := by
      unfold bringOnline
      rw [bay, show _ = _ from fault]
      exact if_pos (by rw [show u.discAt (.bay n) = some d from at_]; rfl)
    have holding : ((u.bringOnline n).bay n) = { s.bay n with faults := 0, offline := none, state := .holding } := by
      rw [back, cleared]
      refine (bay_modBay_self n (fun b => { b with state := .holding }) u).trans ?_
      rw [bay]
    rw [show ((u.bringOnline n).bay n).state = .holding by rw [holding]] at owner
    refine ⟨u.bringOnline n, congrArg Host.Outcome.next (requestNow_settles held owner), holding, ?_, ?_⟩
    · rw [back, cleared, ← hu]
      rfl
    · rw [back, cleared, ← hu]
      rfl

end Sys2Proof.Machine
end

section
/-! PROOFS. What the arm leaves as it is when it sets out, and what a new destination of its move changes (R154, R158, R159). -/

namespace Sys2Proof.Machine

open State

/-- What a move carries with it from its start. -/
def Move.core (v : Move) := (v.entry, v.gripped, v.returning, v.retries)

/-- What the arm leaves as it is when it sets out: all but its own motion, the bays it asks, the messages it sends, and the
notices and reservations of the full places. -/
def State.unmoved (s : State) :=
  ((s.discs, s.jsc, s.cat, s.ipt, s.mem, s.sst), (s.fdr, s.psc, s.rgu, s.smc),
    (s.tsq.queue, s.tsq.inA, s.tsq.inB, s.tsq.out.count, s.tsq.rej.count, s.tsq.phase, s.tsq.tenure, s.tsq.door),
    s.tsq.arm.move.map Move.core)

namespace State
variable {s : State} {n : BayId} {m : Move}

theorem unmoved_modMove {f : Move → Move} (hf : ∀ v, (f v).core = v.core) : (s.modMove f).unmoved = s.unmoved := by
  have core : (s.tsq.arm.move.map f).map Move.core = s.tsq.arm.move.map Move.core := by
    rw [Option.map_map]
    exact congrFun (congrArg Option.map (funext hf)) _
  exact congrArg (fun c => (s.unmoved.1, s.unmoved.2.1, s.unmoved.2.2.1, c)) core

theorem unmoved_sendMotion {m : Motion} : (s.sendMotion m).unmoved = s.unmoved := by
  unfold sendMotion
  dsimp only
  split
  · rfl
  · exact unmoved_modMove fun _ => rfl

theorem unmoved_moveTray {shut : Bool} : (s.moveTray n shut).unmoved = s.unmoved := rfl

theorem unmoved_closeTray : (s.closeTray n).unmoved = s.unmoved := by
  unfold closeTray
  dsimp only
  split <;> rfl

theorem unmoved_askPlace : (s.askPlace n).unmoved = s.unmoved := by
  unfold askPlace
  dsimp only
  split
  · rfl
  · split
    · rfl
    · split
      · rfl
      · exact unmoved_modMove fun _ => rfl

theorem unmoved_askPick : (s.askPick n).unmoved = s.unmoved := by
  unfold askPick
  dsimp only
  split
  · rfl
  · split <;> rfl

theorem unmoved_reportFull {out : Bool} : (s.reportFull out).unmoved = s.unmoved := by
  unfold reportFull
  split
  · split <;> rfl
  · split <;> rfl

theorem unmoved_setOut : (s.setOut m).unmoved = s.unmoved := by
  have going : (({ s with tsq.arm.state := .toDest, tsq.arm.trayReady := false } : State).modMove
      (fun v => { v with refused := false })).unmoved = s.unmoved := unmoved_modMove fun _ => rfl
  unfold setOut
  dsimp only
  split <;> split <;>
    simp only [unmoved_askPlace, unmoved_closeTray, unmoved_sendMotion, going]

theorem unmoved_goOn : (s.goOn m).unmoved = s.unmoved := by
  unfold goOn
  split
  · split
    · dsimp only
      rw [unmoved_setOut]
      exact unmoved_modMove fun _ => rfl
    · unfold waitForRej
      rw [unmoved_reportFull]
      split <;> rfl
  · exact unmoved_setOut

/-- Travel of a move whose destination stands (R158). -/
theorem unmoved_travel (h : ∀ m, s.tsq.arm.move = some m → s.mustReroute m = false) : s.travel.unmoved = s.unmoved := by
  unfold travel
  split
  next m hm =>
    dsimp only
    rw [if_neg (by simp [h m hm]), hm]
    exact unmoved_goOn
  · rfl

theorem unmoved_toSource {p : Position} (h : m.entry.source.position = some p) : (s.toSource m).unmoved = s.unmoved := by
  unfold toSource
  rw [h]
  dsimp only
  split <;> simp only [unmoved_askPick, unmoved_sendMotion] <;> rfl

/-! ### A new destination -/

/-- What dropping the reservation of a move leaves of the discs and of the arm. -/
theorem dropMoveRes_kept : (s.dropMoveRes m).discs = s.discs ∧ (s.dropMoveRes m).tsq.arm = s.tsq.arm := by
  unfold dropMoveRes
  dsimp only
  split
  · exact ⟨rfl, rfl⟩
  · exact ⟨rfl, rfl⟩
  · exact ⟨rfl, rfl⟩
  · split
    · unfold unreserveStation
      split <;> exact ⟨rfl, rfl⟩
    · exact ⟨rfl, rfl⟩
  · exact ⟨rfl, rfl⟩
  · exact ⟨rfl, rfl⟩

theorem closeDest_kept : (s.closeDest m).unmoved = s.unmoved := by
  unfold closeDest
  split
  · split
    · exact unmoved_closeTray
    · rfl
  · rfl

/-- The class of the current move's entry. -/
def moveCls (s : State) : Option EntryClass := s.tsq.arm.move.map (fun v => v.entry.cls)

theorem moveCls_of_unmoved {s t : State} (h : t.unmoved = s.unmoved) : t.moveCls = s.moveCls := by
  have core : t.tsq.arm.move.map Move.core = s.tsq.arm.move.map Move.core := congrArg (fun w => w.2.2.2) h
  have of_core (o : Option Move) : o.map (fun v => v.entry.cls) = (o.map Move.core).map (fun c => c.1.cls) := by
    rw [Option.map_map]
    rfl
  rw [moveCls, moveCls, of_core, of_core, core]

theorem moveCls_reroute : (s.reroute m).moveCls = s.moveCls := by
  have dropped : ((s.dropMoveRes m).closeDest m).moveCls = s.moveCls :=
    (moveCls_of_unmoved closeDest_kept).trans (congrArg (fun a : Arm => a.move.map (fun v : Move => v.entry.cls)) dropMoveRes_kept.2)
  refine Eq.trans ?_ dropped
  unfold reroute
  dsimp only
  rw [moveCls, modMove]
  dsimp only
  rw [Option.map_map]
  split <;> rfl

/-- A move keeps the class of its entry on its way (R159). -/
theorem moveCls_travel : s.travel.moveCls = s.moveCls := by
  unfold travel
  split
  next m hm =>
    dsimp only
    have turned : (if s.mustReroute m then s.reroute m else s).moveCls = s.moveCls := by
      split
      · exact moveCls_reroute
      · rfl
    split
    · exact (moveCls_of_unmoved unmoved_goOn).trans turned
    · exact turned
  · rfl

theorem moveCls_toSource : (s.toSource m).moveCls = s.moveCls := by
  cases h : m.entry.source.position with
  | some p => exact moveCls_of_unmoved (unmoved_toSource h)
  | none =>
    unfold toSource
    rw [h]
    exact moveCls_travel

end State

end Sys2Proof.Machine
end

section
/-! PROOFS. Selection, assignment and the scan of the wait queue (O57): what goes first (R40 to R43, R80, R81, R152). -/

namespace Sys2Proof.Machine

open State

/-! ### The first of a list in order -/

/-- The least member of an ascending list that passes a test is the one found. -/
theorem find?_of_least {m : Nat} {xs : List (Fin m)} {p : Fin m → Bool} {n : Fin m} (ascends : xs.Pairwise (· < ·))
    (hn : n ∈ xs) (hp : p n = true) (least : ∀ k, k < n → p k = false) : xs.find? p = some n := by
  induction xs with
  | nil => cases hn
  | cons x xs ih =>
    obtain ⟨first, ascends⟩ := List.pairwise_cons.1 ascends
    rcases List.mem_cons.1 hn with rfl | hn
    · exact List.find?_cons_of_pos hp
    · rw [List.find?_cons_of_neg (by simp [least x (first n hn)])]
      exact ih ascends hn

theorem ascends_allBays (n : BayId) : allBays.Pairwise (· < ·) ∧ n ∈ allBays := ⟨by decide, by revert n; decide⟩

theorem ascends_allDiscs (d : DiscId) : allDiscs.Pairwise (· < ·) ∧ d ∈ allDiscs := ⟨by decide, by revert d; decide⟩

theorem find?_allBays {p : BayId → Bool} {n : BayId} (hp : p n = true) (least : ∀ k, k < n → p k = false) :
    allBays.find? p = some n := find?_of_least (ascends_allBays n).1 (ascends_allBays n).2 hp least

theorem find?_allDiscs {p : DiscId → Bool} {d : DiscId} (hp : p d = true) (least : ∀ c, c < d → p c = false) :
    allDiscs.find? p = some d := find?_of_least (ascends_allDiscs d).1 (ascends_allDiscs d).2 hp least

theorem find?_allBays_none {p : BayId → Bool} (h : ∀ n, p n = false) : allBays.find? p = none :=
  List.find?_eq_none.2 fun n _ => by simp [h n]

section
variable {α β : Type} {before : α → α → Bool} {x y : α} {xs : List α}

theorem mem_insertBy : y ∈ insertBy before x xs ↔ y = x ∨ y ∈ xs := by
  induction xs with
  | nil => exact List.mem_cons
  | cons z zs ih =>
    unfold insertBy
    split
    · rw [List.mem_cons, ih, List.mem_cons]
      exact or_left_comm
    · exact List.mem_cons

theorem mem_sortBy : y ∈ sortBy before xs ↔ y ∈ xs := by
  induction xs with
  | nil => rfl
  | cons z zs ih => rw [sortBy, mem_insertBy, ih, List.mem_cons]

/-- An order by which a member is put ahead of another: of two members not both go first, and what does not go before a
member that does not go before a third does not go before it. -/
structure Orders (before : α → α → Bool) : Prop where
  asymm (a b : α) : before a b = true → before b a = false
  incomparable (a b c : α) : before b a = false → before c b = false → before c a = false

theorem insertBy_pairwise (h : Orders before) (sorted : xs.Pairwise (fun a b => before b a = false)) :
    (insertBy before x xs).Pairwise (fun a b => before b a = false) := by
  induction xs with
  | nil => exact List.pairwise_singleton ..
  | cons z zs ih =>
    obtain ⟨first, rest⟩ := List.pairwise_cons.1 sorted
    unfold insertBy
    split
    next ahead =>
      refine List.pairwise_cons.2 ⟨fun w hw => ?_, ih rest⟩
      rcases mem_insertBy.1 hw with rfl | hw
      · exact h.asymm _ _ ahead
      · exact first w hw
    next behind =>
      refine List.pairwise_cons.2 ⟨fun w hw => ?_, sorted⟩
      have not_ahead : before z x = false := by simpa using behind
      rcases List.mem_cons.1 hw with rfl | hw
      · exact not_ahead
      · exact h.incomparable _ _ _ not_ahead (first w hw)

theorem sortBy_pairwise (h : Orders before) : (sortBy before xs).Pairwise (fun a b => before b a = false) := by
  induction xs with
  | nil => exact .nil
  | cons z zs ih => exact insertBy_pairwise h ih

/-- Of the members of a list that a function takes, the one that goes before all others is the first taken. -/
theorem findSome?_sortBy {f : α → Option β} {b : β} (h : Orders before) (hx : x ∈ xs) (hf : f x = some b)
    (first : ∀ o ∈ xs, o ≠ x → (f o).isSome → before x o = true) : (sortBy before xs).findSome? f = some b := by
  have taken (ys : List α) (sorted : ys.Pairwise (fun a b => before b a = false)) (hx : x ∈ ys)
      (first : ∀ o ∈ ys, o ≠ x → (f o).isSome → before x o = true) : ys.findSome? f = some b := by
    induction ys with
    | nil => cases hx
    | cons y ys ih =>
      obtain ⟨ahead, sorted⟩ := List.pairwise_cons.1 sorted
      by_cases same : y = x
      · rw [List.findSome?_cons, same, hf]
      · have later : x ∈ ys := (List.mem_cons.1 hx).resolve_left fun e => same e.symm
        cases hy : f y with
        | some c =>
          have goes := first y List.mem_cons_self same (by rw [hy]; rfl)
          rw [ahead x later] at goes
          cases goes
        | none =>
          rw [List.findSome?_cons, hy]
          exact ih sorted later fun o ho => first o (List.mem_cons_of_mem _ ho)
  exact taken _ (sortBy_pairwise h) (mem_sortBy.2 hx) fun o ho => first o (mem_sortBy.1 ho)

theorem findSome?_sortBy_none {f : α → Option β} (h : ∀ o ∈ xs, f o = none) : (sortBy before xs).findSome? f = none :=
  List.findSome?_eq_none_iff.2 fun o ho => h o (mem_sortBy.1 ho)

/-- The greatest member of an ascending list that passes a test is the last that passes it. -/
theorem getLast?_filter_of_greatest {xs : List Nat} {p : Nat → Bool} {m : Nat} (ascends : xs.Pairwise (· < ·))
    (hm : m ∈ xs) (hp : p m = true) (greatest : ∀ k ∈ xs, p k = true → k ≤ m) : (xs.filter p).getLast? = some m := by
  have member : m ∈ xs.filter p := List.mem_filter.2 ⟨hm, hp⟩
  have bound : ∀ k ∈ xs.filter p, k ≤ m := fun k hk => greatest k (List.mem_filter.1 hk).1 (List.mem_filter.1 hk).2
  have sorted := ascends.filter p
  cases hl : (xs.filter p).getLast? with
  | none => rw [List.getLast?_eq_none_iff.1 hl] at member; cases member
  | some l =>
    obtain ⟨init, e⟩ := List.getLast?_eq_some_iff.1 hl
    have below : l ≤ m := bound l (by rw [e]; exact List.mem_append_right _ (List.mem_singleton.2 rfl))
    rw [e] at member sorted
    rcases List.mem_append.1 member with early | late
    · have above := (List.pairwise_append.1 sorted).2.2 m early l (List.mem_singleton.2 rfl)
      omega
    · rw [List.mem_singleton.1 late]

end

theorem orders_masters : Orders (fun a b : MasterReq => decide (a.seq < b.seq)) where
  asymm a b h := by
    simp only [decide_eq_true_eq, decide_eq_false_iff_not] at h ⊢
    omega
  incomparable a b c h k := by
    simp only [decide_eq_false_iff_not] at h k ⊢
    omega

theorem orders_jobs : Orders (fun a b : Job =>
    decide (b.priority < a.priority) || (a.priority == b.priority && decide (a.seq < b.seq))) where
  asymm a b h := by
    simp only [Bool.or_eq_true, Bool.and_eq_true, decide_eq_true_eq, beq_iff_eq, Bool.or_eq_false_iff,
      Bool.and_eq_false_imp, decide_eq_false_iff_not] at h ⊢
    omega
  incomparable a b c h k := by
    simp only [Bool.or_eq_false_iff, Bool.and_eq_false_imp, beq_iff_eq, decide_eq_false_iff_not] at h k ⊢
    omega

namespace State
variable {s t : State} {n : BayId} {j : Job} {x : Spindle} {e : Entry}

/-! ### A pass (R40) -/

theorem assignOne_of_master {q : MasterReq} (hq : q ∈ s.jsc.masters) (h : s.assignMaster q = some t)
    (first : ∀ o ∈ s.jsc.masters, o ≠ q → (s.assignMaster o).isSome → q.seq < o.seq) : s.assignOne = some t := by
  have found : s.jsc.masterOrder.findSome? (fun q => s.assignMaster q) = some t :=
    findSome?_sortBy orders_masters hq h fun o ho ne some_ => by simpa using first o ho ne some_
  rw [assignOne, found]
  rfl

theorem assignOne_of_job (none_ : ∀ q ∈ s.jsc.masters, s.assignMaster q = none) (hj : j ∈ s.jsc.jobs)
    (h : s.assignCopy j = some t)
    (first : ∀ o ∈ s.jsc.jobs, o ≠ j → (s.assignCopy o).isSome →
      o.priority < j.priority ∨ (o.priority = j.priority ∧ j.seq < o.seq)) : s.assignOne = some t := by
  have noMaster : s.jsc.masterOrder.findSome? (fun q => s.assignMaster q) = none := findSome?_sortBy_none none_
  have found : s.jsc.jobOrder.findSome? (fun j => s.assignCopy j) = some t :=
    findSome?_sortBy orders_jobs hj h fun o ho ne some_ => by
      have ahead := first o ho ne some_
      simp only [Bool.or_eq_true, Bool.and_eq_true, decide_eq_true_eq, beq_iff_eq]
      omega
  rw [assignOne, noMaster, found]
  rfl

/-! ### A selection (R152) -/

theorem moveCls_startMove : (s.startMove e).moveCls = some e.cls := by
  unfold startMove
  dsimp only
  split
  · split
    · exact moveCls_travel
    · exact moveCls_travel
  · exact moveCls_toSource

/-- A CLEAR that can go is selected before any LOAD (R152). -/
theorem moveCls_selectByAge (he : e ∈ s.tsq.queue) (cls : e.cls = .clear) (moves : s.mayMove e = true)
    (fits : s.reservable e = true) : s.selectByAge.moveCls = some .clear := by
  have member : e ∈ oldestFirst (s.tsq.queue.filter (fun e => e.cls == .clear && s.mayMove e)) :=
    mem_sortBy.2 (List.mem_filter.2 ⟨he, by simp [cls, moves]⟩)
  unfold selectByAge
  dsimp only
  cases found : (oldestFirst (s.tsq.queue.filter (fun e => e.cls == .clear && s.mayMove e))).find? s.reservable with
  | none => simpa [fits] using List.find?_eq_none.1 found e member
  | some c =>
    have clear := (List.mem_filter.1 (mem_sortBy.1 (List.mem_of_find?_eq_some found))).2
    have : c.cls = .clear := by
      simp only [Bool.and_eq_true, beq_iff_eq] at clear
      exact clear.1
    exact moveCls_startMove.trans (by rw [this])

/-! ### A copy that writes first (R41 to R43) -/

theorem eligibleJob_iff (order : j.order = .burnThenPrint ∨ j.order = .burnOnly) : s.eligibleJob j = true ↔
    j.state = .active ∧ j.good + s.active j.number + j.loads < j.copies ∧ j.attempts < 65535 ∧
      (j.order = .burnOnly ∨ s.psc.blocked = false) := by
  have prints : (j.order.prints && s.psc.blocked) = false ↔ j.order = .burnOnly ∨ s.psc.blocked = false := by
    rcases order with h | h <;> simp [h, OrderMode.prints]
  unfold eligibleJob
  rw [Bool.and_eq_true, Bool.and_eq_true, Bool.and_eq_true, Bool.not_eq_true', prints, beq_iff_eq, decide_eq_true_eq,
    decide_eq_true_eq, and_assoc, and_assoc]
  rfl

theorem assignCopy_of_ineligible (h : s.eligibleJob j = false) : s.assignCopy j = none := if_neg (by simp [h])

/-- A copy whose job writes first: the spare in the lowest bay, or a blank from its spindle to the lowest free bay. -/
theorem assignCopy_of_eligible (order : j.order = .burnThenPrint ∨ j.order = .burnOnly) (h : s.eligibleJob j = true) :
    s.assignCopy j =
      match allBays.find? (s.spareFits j) with
      | some n => some (s.takeSpare j n)
      | none =>
        match s.firstFree, s.chosenSpindle j, s.entryFree with
        | some n, some x, true => some ((s.reserveBay n (.copy j.number (j.attempts + 1))).queueCopy j x (.bay n))
        | _, _, _ => none := by
  unfold assignCopy
  rw [if_pos h]
  rcases order with h | h <;> rw [h] <;> rfl

theorem takeSpare_of_disc {d : DiscId} (hd : s.discAt (.bay n) = some d) :
    s.takeSpare j n = ((((s.modJob j.number (fun x => { x with attempts := j.attempts + 1 })).modDisc d (fun r =>
      { r with purpose := .copy, job := some j.number, attempt := some (j.attempts + 1) })).setSpareHold n
        none).towardGrant n .write) := by
  unfold takeSpare
  rw [hd]

theorem chosenSpindle_of_first (usable : s.usableFor j x = true) (first : x = .inA ∨ s.usableFor j .inA = false) :
    s.chosenSpindle j = some x := by
  unfold chosenSpindle
  by_cases inA : s.usableFor j .inA = true
  · rw [List.find?_cons_of_pos inA]
    rw [first.resolve_right fun k => by simp [inA] at k]
  · rw [List.find?_cons_of_neg inA]
    cases x with
    | inA => exact absurd usable inA
    | inB => exact List.find?_cons_of_pos usable

theorem chosenSpindle_none (h : ∀ x, s.usableFor j x = false) : s.chosenSpindle j = none :=
  List.find?_eq_none.2 fun x _ => by simp [h x]

/-! ### A scan (R80, R81) -/

/-- The greatest step that fits an entry is the one granted (R77, R78). -/
theorem grantStep_of_greatest {w : WaitEntry} {free m : Nat} (listed : m ∈ listedSteps w.kind w.cls)
    (asked : m ≤ w.requested) (least : ∀ lo, w.minimum = some lo → lo ≤ m) (room : stepRate w.cls m ≤ free)
    (greatest : ∀ k, k ∈ listedSteps w.kind w.cls → k ≤ w.requested → (∀ lo, w.minimum = some lo → lo ≤ k) →
      stepRate w.cls k ≤ free → k ≤ m) : grantStep w free = some m := by
  have ascends : (listedSteps w.kind w.cls).Pairwise (· < ·) := by
    cases w.kind <;> cases w.cls <;> decide
  refine getLast?_filter_of_greatest ascends listed ?_ fun k hk fits => ?_
  · simp only [Bool.and_eq_true, decide_eq_true_eq, Option.all_eq_true]
    exact ⟨⟨asked, least⟩, room⟩
  · simp only [Bool.and_eq_true, decide_eq_true_eq, Option.all_eq_true] at fits
    exact greatest k hk fits.1.1 fits.1.2 fits.2

theorem grantStep_of_none {w : WaitEntry} {free : Nat}
    (h : ∀ m, ¬ (m ∈ listedSteps w.kind w.cls ∧ m ≤ w.requested ∧ (∀ lo, w.minimum = some lo → lo ≤ m) ∧
      stepRate w.cls m ≤ free)) : grantStep w free = none := by
  refine List.getLast?_eq_none_iff.2 (List.filter_eq_nil_iff.2 fun m hm fits => ?_)
  simp only [Bool.and_eq_true, decide_eq_true_eq, Option.all_eq_true] at fits
  exact h m ⟨hm, fits.1.1, fits.1.2, fits.2⟩

/-- The walk of a scan looks at the settings and at the ledger alone. -/
theorem scanWalk_congr {ws : List WaitEntry} (settings : t.sst = s.sst) (ledger : t.rgu.ledger = s.rgu.ledger) :
    (scanWalk ws t).2 = (scanWalk ws s).2 ∧
      (scanWalk ws t).1 = { t with rgu.ledger := (scanWalk ws s).1.rgu.ledger } := by
  induction ws generalizing s t with
  | nil => exact ⟨rfl, by rw [show (scanWalk [] s).1 = s from rfl, ← ledger]; rfl⟩
  | cons w ws ih =>
    have free : t.freeRate w.kind = s.freeRate w.kind := by
      unfold freeRate Rgu.committedTotal Rgu.committedWrite
      rw [settings, ledger]
    unfold scanWalk
    rw [free]
    split
    next m _ =>
      obtain ⟨marks, state⟩ := ih (s := s.setGrant w.bay (some (w.grant m))) (t := t.setGrant w.bay (some (w.grant m)))
        settings (congrArg (fun l => l.set w.bay (some (w.grant m))) ledger)
      dsimp only
      rw [marks, state]
      exact ⟨rfl, rfl⟩
    next _ =>
      split
      · exact ⟨rfl, by rw [← ledger]⟩
      · obtain ⟨marks, state⟩ := ih settings ledger
        dsimp only
        rw [marks, state]
        exact ⟨rfl, rfl⟩

theorem scanWalk_length (ws : List WaitEntry) (s : State) : (scanWalk ws s).2.length = ws.length := by
  induction ws generalizing s with
  | nil => rfl
  | cons w ws ih =>
    unfold scanWalk
    split
    · exact congrArg Nat.succ (ih _)
    · split
      · simp
      · exact congrArg Nat.succ (ih _)

/-- The mark of an entry that a scan has granted. -/
def isGranted (x : WaitEntry × ScanMark) : Bool :=
  match x.2 with
  | .granted _ => true
  | _ => false

theorem afterScan_skipped (w : WaitEntry) (marks : List (WaitEntry × ScanMark)) :
    afterScan ((w, .skipped) :: marks) =
      (if marks.any isGranted then { w with passes := saturate Config.passLimit (w.passes + 1) } else w) ::
        afterScan marks := rfl

/-- The queue is shorter after a scan exactly when an entry was granted. -/
theorem afterScan_length (marks : List (WaitEntry × ScanMark)) :
    (afterScan marks).length ≤ marks.length ∧ ((afterScan marks).length < marks.length ↔ marks.any isGranted = true) := by
  induction marks with
  | nil => exact ⟨le_refl _, by simp [afterScan]⟩
  | cons x marks ih =>
    obtain ⟨w, mark⟩ := x
    obtain ⟨bound, less⟩ := ih
    rw [List.any_cons, Bool.or_eq_true, ← less]
    cases mark with
    | granted m =>
      have all : (afterScan ((w, .granted m) :: marks)).length = (afterScan marks).length := rfl
      rw [all, List.length_cons]
      exact ⟨by omega, iff_of_true (by omega) (.inl rfl)⟩
    | skipped =>
      rw [afterScan_skipped, List.length_cons, List.length_cons]
      exact ⟨by omega, by simp [isGranted]⟩
    | untested =>
      have all : (afterScan ((w, .untested) :: marks)).length = (afterScan marks).length + 1 := rfl
      rw [all, List.length_cons]
      exact ⟨by omega, by simp [isGranted]⟩

theorem afterScan_untested (ws : List WaitEntry) :
    afterScan (ws.map (fun v => (v, ScanMark.untested))) = ws ∧
      (ws.map (fun v => (v, ScanMark.untested))).any isGranted = false := by
  induction ws with
  | nil => exact ⟨rfl, rfl⟩
  | cons w ws ih => exact ⟨congrArg (w :: ·) ih.1, ih.2⟩

theorem handGrants_untested (ws : List WaitEntry) (s : State) :
    handGrants (ws.map (fun v => (v, ScanMark.untested))) s = s := by
  induction ws with
  | nil => rfl
  | cons w ws ih => exact ih

/-- The grants of a scan are handed over whatever the ledger and the queue hold. -/
theorem handGrants_rgu (marks : List (WaitEntry × ScanMark)) (r : Rgu) (s : State) :
    handGrants marks { s with rgu := r } = { handGrants marks s with rgu := r } := by
  induction marks generalizing s with
  | nil => rfl
  | cons x marks ih =>
    obtain ⟨w, mark⟩ := x
    cases mark with
    | granted m => exact ih (s.handGrant w.bay w.kind m)
    | skipped => exact ih s
    | untested => exact ih s

theorem handGrants_keeps_rgu (marks : List (WaitEntry × ScanMark)) (s : State) : (handGrants marks s).rgu = s.rgu := by
  obtain ⟨ms, bs, h⟩ := handGrants_frame marks s
  rw [h]

theorem scan_of_nil (h : s.rgu.queue = []) : s.scan = s := by
  rw [scan_eq, h]
  change { s with rgu.queue := [] } = s
  rw [← h]

/-- The entry at the head is granted, and the scan goes on with the rest (R80). -/
theorem scan_of_granted {w : WaitEntry} {ws : List WaitEntry} {m : Nat} (h : s.rgu.queue = w :: ws)
    (step : grantStep w (s.freeRate w.kind) = some m) :
    s.scan = ((({ s with rgu.queue := ws } : State).setGrant w.bay (some (w.grant m))).handGrant w.bay w.kind m).scan := by
  obtain ⟨marks, state⟩ := scanWalk_congr (ws := ws) (s := s.setGrant w.bay (some (w.grant m)))
    (t := (({ s with rgu.queue := ws } : State).setGrant w.bay (some (w.grant m))).handGrant w.bay w.kind m) rfl rfl
  obtain ⟨r, frame⟩ := scanWalk_frame ws (s.setGrant w.bay (some (w.grant m)))
  have walk : scanWalk s.rgu.queue s = ((scanWalk ws (s.setGrant w.bay (some (w.grant m)))).1,
      (w, .granted m) :: (scanWalk ws (s.setGrant w.bay (some (w.grant m)))).2) := by
    rw [h, scanWalk, step]
  have queue : ((({ s with rgu.queue := ws } : State).setGrant w.bay (some (w.grant m))).handGrant w.bay w.kind
      m).rgu.queue = ws := rfl
  rw [scan_eq, walk, scan_eq (s := State.handGrant ..), queue, marks, state]
  dsimp only [handGrants]
  rw [frame]
  rfl

/-- A blocking entry that fits no step stops the scan (R80). -/
theorem scan_of_blocked {w : WaitEntry} {ws : List WaitEntry} (h : s.rgu.queue = w :: ws)
    (step : grantStep w (s.freeRate w.kind) = none) (blocks : 4 ≤ w.passes) : s.scan = s := by
  have walk : scanWalk s.rgu.queue s = (s, (w, .skipped) :: ws.map (fun v => (v, .untested))) := by
    rw [h, scanWalk, step]
    exact if_pos (decide_eq_true blocks)
  rw [scan_eq, walk]
  dsimp only [handGrants]
  rw [afterScan_skipped, (afterScan_untested ws).1, (afterScan_untested ws).2, handGrants_untested, if_neg (by decide), ← h]

/-- An entry that fits no step is passed over (R80, R81). -/
theorem scan_of_passed {w : WaitEntry} {ws : List WaitEntry} (h : s.rgu.queue = w :: ws)
    (step : grantStep w (s.freeRate w.kind) = none) (open_ : w.passes < 4) :
    s.scan = { ({ s with rgu.queue := ws } : State).scan with
      rgu.queue :=
        { w with passes := if ({ s with rgu.queue := ws } : State).scan.rgu.queue.length < ws.length then w.passes + 1
            else w.passes } :: ({ s with rgu.queue := ws } : State).scan.rgu.queue } := by
  obtain ⟨marks, state⟩ := scanWalk_congr (ws := ws) (s := s) (t := { s with rgu.queue := ws }) rfl rfl
  obtain ⟨r, frame⟩ := scanWalk_frame ws s
  have walk : scanWalk s.rgu.queue s = ((scanWalk ws s).1, (w, .skipped) :: (scanWalk ws s).2) := by
    rw [h, scanWalk, step]
    exact if_neg fun k => absurd (of_decide_eq_true k) (Nat.not_le.2 open_)
  have length := scanWalk_length ws s
  generalize (scanWalk ws s).2 = taken at marks walk length
  have rest : ({ s with rgu.queue := ws } : State).scan =
      { handGrants taken s with rgu := { ledger := r.ledger, queue := afterScan taken } } := by
    rw [scan_eq, show ({ s with rgu.queue := ws } : State).rgu.queue = ws from rfl, marks, state, frame]
    exact handGrants_rgu taken { ledger := r.ledger, queue := afterScan taken } s
  rw [rest, scan_eq, walk, frame]
  refine (handGrants_rgu taken { ledger := r.ledger, queue := afterScan ((w, .skipped) :: taken) } s).trans ?_
  rw [afterScan_skipped, ← length]
  dsimp only
  by_cases some_ : taken.any isGranted = true
  · have passes : saturate Config.passLimit (w.passes + 1) = w.passes + 1 := Nat.min_eq_right open_
    rw [if_pos some_, if_pos ((afterScan_length taken).2.2 some_), passes]
  · rw [if_neg some_, if_neg fun k => some_ ((afterScan_length taken).2.1 k)]

end State

/-- Settles O57, by the order of each table. -/
theorem clearsGoBeforeLoads : Obligations.ClearsGoBeforeLoads := by
  refine ⟨fun s e parked running shut noTenure he cls moves fits => ?select,
    fun s => ⟨fun sweeps => ?sweeps, fun running none_ => ?nothing, fun t running one last => ?one,
      fun q t hq h first => assignOne_of_master hq h first, fun j t none_ hj h first => assignOne_of_job none_ hj h first⟩,
    fun s j order => ⟨fun h => ?ineligible, fun active more attempts station => ?eligible⟩,
    fun s => ⟨scan_of_nil, fun w ws h => ⟨fun m fits greatest => ?granted, fun none_ blocks => ?blocked,
      fun none_ passes => ?passed⟩⟩⟩
  case select =>
    have chosen : s.select.moveCls = some .clear := by
      unfold select
      rw [if_pos ⟨parked, running, shut, List.ne_nil_of_mem he⟩]
      dsimp only
      rw [tenureEntry, noTenure]
      exact moveCls_selectByAge (s := { s with tsq.tenure := none }) he cls moves fits
    obtain ⟨m, hm, clear⟩ := Option.map_eq_some_iff.1 chosen
    exact ⟨m, hm, clear⟩
  case sweeps => exact if_pos (by simpa [sweeping] using sweeps)
  case nothing =>
    unfold State.pass
    rw [sweeping_of_running running, if_neg (by decide), assignMany, none_]
  case one =>
    unfold State.pass
    rw [sweeping_of_running running, if_neg (by decide), assignMany, one]
    dsimp only
    rw [assignMany, last]
  case ineligible =>
    refine assignCopy_of_ineligible (Bool.eq_false_iff.2 fun k => ?_)
    obtain ⟨active, more, attempts, station⟩ := (eligibleJob_iff order).1 k
    rcases h with h | h | h | ⟨prints, blocked⟩
    · exact h active
    · omega
    · omega
    · rcases station with h | h
      · rw [h] at prints
        cases prints
      · rw [h] at blocked
        cases blocked
  case eligible =>
    have eligible := (eligibleJob_iff order).2 ⟨active, more, attempts, station⟩
    refine ⟨fun n d fits least hd => ?_, fun noSpare => ⟨fun short => ?_, fun n x free least room usable first => ?_⟩⟩
    · rw [assignCopy_of_eligible order eligible, find?_allBays fits least]
      exact congrArg some (takeSpare_of_disc hd)
    · rw [assignCopy_of_eligible order eligible, find?_allBays_none noSpare]
      dsimp only
      rcases short with none_ | full | none_
      · rw [firstFree, find?_allBays_none none_]
      · have entries : s.entryFree = false := decide_eq_false (Nat.not_lt.2 full)
        rw [entries]
        split
        next e => cases e
        · rfl
      · rw [chosenSpindle_none none_]
        split
        next e _ => cases e
        · rfl
    · have entries : s.entryFree = true := decide_eq_true room
      rw [assignCopy_of_eligible order eligible, find?_allBays_none noSpare]
      dsimp only
      rw [firstFree, find?_allBays free least, chosenSpindle_of_first usable first, entries]
      rfl
  case granted =>
    obtain ⟨listed, asked, least, room⟩ := fits
    exact scan_of_granted h (grantStep_of_greatest listed asked least room fun k l a b c => greatest k ⟨l, a, b, c⟩)
  case blocked => exact scan_of_blocked h (grantStep_of_none none_) blocks
  case passed => exact scan_of_passed h (grantStep_of_none none_) passes

end Sys2Proof.Machine
end

section
/-! PROOFS. Grips (O53): at a spindle, at a bay and at the printer (R155 to R157, R163). -/

namespace Sys2Proof.Machine

open State

/-- What the quiet operations leave of the discs, of the arm and of the places it serves. -/
def State.place (s : State) := (s.discs, s.tsq.arm, s.tsq.inA, s.tsq.inB, s.tsq.out, s.tsq.rej)

theorem mild_place : Mild (fun s t => t.place = s.place) where
  refl _ := rfl
  trans h k := k.trans h
  other e := by
    simp only [watched, Prod.mk.injEq] at e
    obtain ⟨⟨discs, -⟩, -, -, -, -, -, tsq, -⟩ := e
    rw [place, place, discs, tsq]
  emit _ _ := rfl
  cleared _ _ := rfl
  unreserve _ _ _ := rfl
  retire _ _ _ := rfl
  deliver _ _ := rfl
  hold _ _ _ := rfl
  live _ _ := rfl
  terminal _ _ := rfl
  loads _ _ := rfl
  image _ _ _ := rfl
  freed _ _ := rfl
  masters _ _ := rfl
  unreserved _ := rfl
  ungranted _ _ := rfl
  unwaited _ _ := rfl
  scan s := by
    obtain ⟨r, ms, bs, e⟩ := s.scan_frame
    rw [e]
    rfl
  closed _ _ _ := rfl
  withdrawn _ := rfl
  unspared _ _ := rfl
  queue _ _ := rfl

namespace Mild
variable {R : State → State → Prop} {s : State}

theorem treatLoads (h : Mild R) {x : Spindle} {empty : Bool} : R s (s.treatLoads x empty) := by
  refine h.each _ s fun e s => ?_
  unfold treatLoad
  split
  · exact h.trans h.setEntries h.dueSelect
  · split
    · split
      · exact h.dropMasterLoad
      · exact h.refl s
    · exact h.dropLoad

theorem gripTold (h : Mild R) {e : Entry} : R s (s.gripTold e) := by
  unfold State.gripTold
  split
  · refine h.trans (h.masters s fun x hx => ⟨x, (List.mem_filter.1 hx).1, rfl⟩) h.duePass
  · exact h.loadGone
  · exact h.refl s

theorem loadDropped (h : Mild R) {e : Entry} : R s (s.loadDropped e) := by
  unfold State.loadDropped
  split
  · exact h.trans h.dropResOf h.unassignMaster
  · exact h.trans h.dropCopyRes h.loadGone
  · exact h.refl s

end Mild

namespace State
variable {s t : State} {x : Spindle} {n : BayId} {d : DiscId} {m : Move} {r : Disc}

/-! ### Spindles (R155, R163) -/

theorem turnEmpty_place : (s.turnEmpty x).place =
    (s.modSpindle x (fun r => { r with state := .empty, count := some 0 })).place :=
  mild_place.trans (mild_place.trans (mild_place.trans (mild_place.deliver _ _) mild_place.evalSpindles)
    mild_place.treatLoads) mild_place.dueBoth

theorem spindle_of_place (h : t.place = s.place) (x : Spindle) : t.spindle x = s.spindle x := by
  cases x with
  | inA => exact congrArg (fun p => p.2.2.1) h
  | inB => exact congrArg (fun p => p.2.2.2.1) h

theorem spindle_modSpindle {f : SpindleRec → SpindleRec} : (s.modSpindle x f).spindle x = f (s.spindle x) := by
  cases x <;> rfl

theorem modSpindle_kept {f : SpindleRec → SpindleRec} :
    (s.modSpindle x f).discs = s.discs ∧ (s.modSpindle x f).tsq.arm = s.tsq.arm := by
  cases x <;> exact ⟨rfl, rfl⟩

/-- A spindle found empty is EMPTY with its count known at 0; no disc and no part of the arm changes (R163). -/
theorem foundEmpty_kept : (s.foundEmpty x).discs = s.discs ∧ (s.foundEmpty x).tsq.arm = s.tsq.arm ∧
    ((s.foundEmpty x).spindle x).state = .empty ∧ ((s.foundEmpty x).spindle x).count = some 0 := by
  unfold foundEmpty
  split
  next empty =>
    refine ⟨modSpindle_kept.1, modSpindle_kept.2, ?_, ?_⟩
    · rw [spindle_modSpindle]
      exact empty
    · rw [spindle_modSpindle]
  next =>
    have same := turnEmpty_place (s := s) (x := x)
    refine ⟨(congrArg (fun p => p.1) same).trans modSpindle_kept.1,
      (congrArg (fun p => p.2.1) same).trans modSpindle_kept.2, ?_, ?_⟩
    · rw [spindle_of_place same, spindle_modSpindle]
    · rw [spindle_of_place same, spindle_modSpindle]

theorem takeFrom_kept {k : Nat} : (s.takeFrom x k).discs = s.discs ∧ (s.takeFrom x k).tsq.arm = s.tsq.arm := by
  unfold takeFrom
  split
  · split
    · exact ⟨foundEmpty_kept.1, foundEmpty_kept.2.1⟩
    · exact modSpindle_kept
  · exact ⟨rfl, rfl⟩

/-! ### A new record (R1, R5) -/

theorem createDisc_of_least (free : s.disc d = none) (least : ∀ c, c < d → (s.disc c).isSome) (r : Disc) :
    s.createDisc r = (some d, { s with discs := s.discs.set d (some r) }) := by
  unfold createDisc
  rw [find?_allDiscs (by rw [free]; rfl) fun c hc => Option.isNone_eq_false_iff.2 (least c hc)]

theorem disc_set_self (x : Option Disc) : ({ s with discs := s.discs.set d x } : State).disc d = x :=
  Vector.getElem_set_self ..

theorem disc_set_ne {c : DiscId} (h : c ≠ d) (x : Option Disc) :
    ({ s with discs := s.discs.set d x } : State).disc c = s.disc c :=
  Vector.getElem_set_ne d.isLt c.isLt fun e => h (Fin.ext e.symm)

/-! ### The arm with its disc -/

/-- A move that keeps its destination keeps every record and its own core on its way (R158). -/
theorem travel_of_stays (hm : s.tsq.arm.move = some m) (stays : s.mustReroute m = false) :
    s.travel.unmoved = s.unmoved :=
  unmoved_travel fun v hv => by
    cases hm.symm.trans hv
    exact stays

theorem mustReroute_of_disc (hd : m.entry.disc = some d) (hr : s.disc d = some r) : s.mustReroute m =
    decide (r.verdict = .reject ∧ r.purpose ≠ .master ∧ m.entry.dest ≠ .rej) := by
  rw [mustReroute, hd, Option.bind_some, hr, Option.any_some, Bool.eq_iff_iff]
  simp [and_assoc]

theorem goOn_kept : (s.goOn m).discs = s.discs ∧ (s.goOn m).psc = s.psc :=
  have same : (s.goOn m).unmoved = s.unmoved := unmoved_goOn
  ⟨congrArg (fun w => w.1.1) same, congrArg (fun w => w.2.1.2.1) same⟩

theorem reroute_discs (hd : m.entry.disc = some d) :
    (s.reroute m).discs = (s.modDisc d (fun r => { r with dest := some .rej })).discs := by
  have before : ((s.dropMoveRes m).closeDest m).discs = s.discs :=
    (congrArg (fun w => w.1.1) (closeDest_kept (s := s.dropMoveRes m) (m := m))).trans dropMoveRes_kept.1
  unfold reroute
  dsimp only
  rw [hd]
  change (((s.dropMoveRes m).closeDest m).modDisc d _).discs = _
  rw [modDisc, modDisc]
  dsimp only
  rw [before]

/-- On its way the arm turns a REJECT to REJ, and changes no other record (R159). -/
theorem disc_travel (hm : s.tsq.arm.move = some m) (hd : m.entry.disc = some d) (hr : s.disc d = some r) :
    s.travel.disc d = some { r with
        dest := if r.verdict = .reject ∧ r.purpose ≠ .master ∧ m.entry.dest ≠ .rej then some .rej else r.dest } ∧
      ∀ c, c ≠ d → s.travel.disc c = s.disc c := by
  have turns := mustReroute_of_disc hd hr
  by_cases h : r.verdict = .reject ∧ r.purpose ≠ .master ∧ m.entry.dest ≠ .rej
  · have discs : s.travel.discs = (s.modDisc d (fun r => { r with dest := some .rej })).discs := by
      unfold travel
      rw [hm]
      dsimp only
      rw [if_pos (by rw [turns]; exact decide_eq_true h)]
      split
      · exact goOn_kept.1.trans (reroute_discs hd)
      · exact reroute_discs hd
    rw [if_pos h]
    exact ⟨(disc_congr discs).trans ((disc_modDisc_self ..).trans (congrArg _ hr)),
      fun c ne => (disc_congr discs).trans (disc_modDisc_ne ne _ s)⟩
  · have discs : s.travel.discs = s.discs :=
      congrArg (fun w => w.1.1) (travel_of_stays hm (turns.trans (decide_eq_false h)))
    rw [if_neg h]
    exact ⟨(disc_congr discs).trans hr, fun c _ => disc_congr discs⟩

theorem unreserveStation_station {x : StationRes} (h : s.psc.state ≠ .reserved) :
    (s.unreserveStation x).psc.state = s.psc.state ∧ (s.unreserveStation x).psc.step = s.psc.step := by
  by_cases mine : s.psc.reservedFor = some x
  · rw [unreserveStation, if_pos mine]
    exact ⟨if_neg h, rfl⟩
  · rw [unreserveStation, if_neg mine]
    exact ⟨rfl, rfl⟩

/-- A station that is not RESERVED keeps its state when the arm sets out. -/
theorem travel_station (h : s.psc.state ≠ .reserved) :
    s.travel.psc.state = s.psc.state ∧ s.travel.psc.step = s.psc.step := by
  have dropped (m : Move) : (s.dropMoveRes m).psc.state = s.psc.state ∧ (s.dropMoveRes m).psc.step = s.psc.step := by
    unfold dropMoveRes
    dsimp only
    split
    · exact ⟨rfl, rfl⟩
    · exact ⟨rfl, rfl⟩
    · exact ⟨rfl, rfl⟩
    · split
      · exact unreserveStation_station h
      · exact ⟨rfl, rfl⟩
    · exact ⟨rfl, rfl⟩
    · exact ⟨rfl, rfl⟩
  have turned (m : Move) : (s.reroute m).psc = (s.dropMoveRes m).psc := by
    have closed : ((s.dropMoveRes m).closeDest m).psc = (s.dropMoveRes m).psc :=
      congrArg (fun w => w.2.1.2.1) (closeDest_kept (s := s.dropMoveRes m) (m := m))
    refine Eq.trans ?_ closed
    unfold reroute
    dsimp only
    split <;> rfl
  unfold travel
  split
  next m _ =>
    have all : (if s.mustReroute m then s.reroute m else s).psc.state = s.psc.state ∧
        (if s.mustReroute m then s.reroute m else s).psc.step = s.psc.step := by
      split
      · rw [turned m]
        exact dropped m
      · exact ⟨rfl, rfl⟩
    dsimp only
    split
    next v _ =>
      rw [goOn_kept.2]
      exact all
    · exact all
  · exact ⟨rfl, rfl⟩

/-- A move gives its reservation up. -/
theorem dropReservation_kept : s.dropReservation.discs = s.discs ∧ s.dropReservation.tsq.inA = s.tsq.inA ∧
    s.dropReservation.tsq.inB = s.tsq.inB ∧
    s.dropReservation.tsq.arm.move = s.tsq.arm.move.map (fun v => { v with reserved := .none }) := by
  have dropped (m : Move) : (s.dropMoveRes m).tsq.inA = s.tsq.inA ∧ (s.dropMoveRes m).tsq.inB = s.tsq.inB := by
    unfold dropMoveRes
    dsimp only
    split
    · exact ⟨rfl, rfl⟩
    · exact ⟨rfl, rfl⟩
    · exact ⟨rfl, rfl⟩
    · split
      · unfold unreserveStation
        split <;> exact ⟨rfl, rfl⟩
      · exact ⟨rfl, rfl⟩
    · exact ⟨rfl, rfl⟩
    · exact ⟨rfl, rfl⟩
  unfold dropReservation
  split
  next m hm =>
    refine ⟨dropMoveRes_kept.1, (dropped m).1, (dropped m).2, ?_⟩
    rw [modMove, dropMoveRes_kept.2]
  next hm =>
    exact ⟨rfl, rfl, rfl, by rw [hm]; rfl⟩

/-! ### The answers to a GRIP -/

theorem gripAnswer_of_spindle {f : Spindle → State → State} {g : State → State} (hm : s.tsq.arm.move = some m)
    (source : m.entry.source = .spindle x) : s.gripAnswer f g = f x s.motionEnds := by
  unfold gripAnswer gripsAt
  dsimp only [motionEnds]
  rw [hm]
  dsimp only
  rw [source]

theorem gripAnswer_of_place {f : Spindle → State → State} {g : State → State} (hm : s.tsq.arm.move = some m)
    (source : ∀ x, m.entry.source ≠ .spindle x) : s.gripAnswer f g = g s.motionEnds := by
  unfold gripAnswer gripsAt
  dsimp only [motionEnds]
  rw [hm]
  dsimp only
  split
  next h =>
    split at h
    next y hy => exact absurd hy (source y)
    · cases h
  · rfl

/-- GRIPPED at a spindle: a record in the lowest free slot, and no other (R155, R5, R1). -/
theorem gripSpindle_discs (hm : s.tsq.arm.move = some m) (free : s.disc d = none)
    (least : ∀ c, c < d → (s.disc c).isSome) :
    (s.gripSpindle x).disc d = some (m.entry.newDisc x m.entry.dest) ∧
      ∀ c, c ≠ d → (s.gripSpindle x).disc c = s.disc c := by
  generalize ht : ((({ s with discs := s.discs.set d (some (m.entry.newDisc x m.entry.dest)) } : State).modMove (fun v =>
    { v with entry.disc := some d, gripped := true, returning := false })).takeFrom x 1).gripTold m.entry = t
  have grips : s.gripSpindle x = t.travel := by
    rw [gripSpindle, hm]
    dsimp only
    rw [createDisc_of_least free least, ← ht]
  have place : t.discs = s.discs.set d (some (m.entry.newDisc x m.entry.dest)) ∧
      t.tsq.arm.move = some { m with entry.disc := some d, gripped := true, returning := false } := by
    rw [← ht]
    have told := mild_place.gripTold (e := m.entry) (s := (({ s with
      discs := s.discs.set d (some (m.entry.newDisc x m.entry.dest)) } : State).modMove (fun v =>
        { v with entry.disc := some d, gripped := true, returning := false })).takeFrom x 1)
    refine ⟨(congrArg (fun p => p.1) told).trans takeFrom_kept.1, ?_⟩
    refine (congrArg (fun p => p.2.1.move) told).trans ((congrArg Arm.move takeFrom_kept.2).trans ?_)
    exact congrArg (Option.map _) hm
  have entry : t.disc d = some (m.entry.newDisc x m.entry.dest) := (disc_congr place.1).trans (disc_set_self _)
  obtain ⟨mine, others⟩ := disc_travel place.2 rfl entry
  rw [grips]
  refine ⟨mine.trans ?_, fun c ne => (others c ne).trans ((disc_congr place.1).trans (disc_set_ne ne _))⟩
  rw [if_neg (by simp [Entry.newDisc])]

/-- GRIP-EMPTY at a spindle finds it EMPTY, and the LOAD turns to the other spindle or is given up (R155, R163). -/
theorem gripEmptySpindle_kept (hm : s.tsq.arm.move = some m) :
    (s.gripEmptySpindle x).discs = s.discs ∧ ((s.gripEmptySpindle x).spindle x).state = .empty ∧
      ((s.gripEmptySpindle x).spindle x).count = some 0 ∧
      ((s.gripEmptySpindle x).tsq.arm.move = none ∨
        (s.gripEmptySpindle x).tsq.arm.move.map (fun v => v.entry.source) = some (.spindle x.other)) := by
  obtain ⟨discs, arm, empty, count⟩ := foundEmpty_kept (s := s) (x := x)
  unfold gripEmptySpindle
  rw [hm]
  dsimp only
  generalize s.foundEmpty x = t at discs arm empty count
  have moving : t.tsq.arm.move = some m := (congrArg Arm.move arm).trans hm
  split
  · have turned : (t.modMove (fun v => { v with entry.source := .spindle x.other })).tsq.arm.move =
        some { m with entry.source := .spindle x.other } := congrArg (Option.map _) moving
    rw [turned]
    dsimp only
    have position : ∃ p, ({ m with entry.source := .spindle x.other } : Move).entry.source.position = some p := by
      cases x <;> exact ⟨_, rfl⟩
    obtain ⟨p, hp⟩ := position
    have same := unmoved_toSource (s := t.modMove (fun v => { v with entry.source := .spindle x.other })) hp
    generalize State.toSource _ _ = u at same
    simp only [unmoved, Prod.mk.injEq] at same
    obtain ⟨⟨discs', -⟩, -, ⟨-, inA, inB, -⟩, core⟩ := same
    have spindle : u.spindle x = t.spindle x := by
      cases x
      · exact inA
      · exact inB
    refine ⟨discs'.trans discs, by rw [spindle, empty], by rw [spindle, count], .inr ?_⟩
    have source (o : Option Move) : o.map (fun v => v.entry.source) = (o.map Move.core).map (fun c => c.1.source) := by
      rw [Option.map_map]
      rfl
    rw [source, core, ← source, turned]
    rfl
  · have same := mild_place.loadDropped (e := m.entry) (s := t.giveUp)
    obtain ⟨discs', inA, inB, -⟩ := dropReservation_kept (s := t)
    have spindle : t.giveUp.spindle x = t.spindle x := by
      cases x
      · exact inA
      · exact inB
    refine ⟨(congrArg (fun p => p.1) same).trans (discs'.trans discs), ?_, ?_, .inl (congrArg (fun p => p.2.1.move) same)⟩
    · rw [spindle_of_place same, spindle, empty]
    · rw [spindle_of_place same, spindle, count]

/-- The hand-offs of the verdict of a record that no bay has worked on change no disc and no part of the arm (R14). -/
theorem handOffs_place {v : Option RejectCause} (h : r.workBay = none) : (s.handOffs r v).place = s.place := by
  have bay (t : State) : t.handBay r v = t := by rw [handBay, h]
  unfold handOffs
  split
  · rw [bay]
  next k _ =>
    dsimp only
    rw [bay]
    split
    · rfl
    · exact mild_place.handClu

theorem freshPick_place {e : Entry} : (s.freshPick e).place = s.place := by
  unfold freshPick
  split
  next j a _ _ _ =>
    split
    · dsimp only
      have renamed (t : State) (b : Nat) : (forEach allBays (fun n s =>
          if s.bayRes n = some (.copy j a) then s.setBayRes n (some (.copy j b)) else s) t).place = t.place :=
        forEach_frame State.place (fun n t => by split <;> rfl) allBays t
      generalize ((s.job? j).map (fun x => x.attempts + 1)).getD 0 = b
      have same := renamed (s.modJob j (fun x => { x with attempts := b })) b
      generalize forEach allBays _ (s.modJob j (fun x => { x with attempts := b })) = u at same ⊢
      exact same
    · exact mild_place.trans mild_place.dropCopyRes mild_place.loadGone
  · rfl

/-- The final GRIP-DOUBLE: the pair is a record in the lowest free slot, on its way to REJ (R156, R6). -/
theorem doublePick_kept (hm : s.tsq.arm.move = some m) (free : s.disc d = none) (least : ∀ c, c < d → (s.disc c).isSome) :
    (s.doublePick x).disc d = some { m.entry.newDisc x .rej with verdict := .reject, cause := some .doublePick } ∧
      (∀ c, c ≠ d → (s.doublePick x).disc c = s.disc c) ∧
      (s.doublePick x).tsq.arm.move.map Move.entry = some
        { cls := .clear, source := .arm, dest := .rej, disc := some d, time := m.entry.time } := by
  let pair : Disc := { m.entry.newDisc x .rej with verdict := .reject, cause := some .doublePick }
  let entry : Entry := { cls := .clear, source := .arm, dest := .rej, disc := some d, time := m.entry.time }
  generalize ht : ((({ s with discs := s.discs.set d (some pair) } : State).handOffs (m.entry.newDisc x .rej)
    (some .doublePick)).duePass.takeFrom x 2) = t
  have told : t.discs = s.discs.set d (some pair) ∧ t.tsq.arm = s.tsq.arm := by
    rw [← ht]
    have same := handOffs_place (s := { s with discs := s.discs.set d (some pair) }) (r := m.entry.newDisc x .rej)
      (v := some .doublePick) rfl
    exact ⟨takeFrom_kept.1.trans (congrArg (fun p => p.1) same), takeFrom_kept.2.trans (congrArg (fun p => p.2.1) same)⟩
  generalize hu : (t.dropReservation.freshPick m.entry).modMove (fun v =>
    { v with entry := entry, gripped := true, returning := false, reserved := .none }) = u
  have picks : s.doublePick x = u.travel := by
    rw [doublePick, hm]
    dsimp only
    rw [createPair]
    rw [createDisc_of_least free least]
    dsimp only
    rw [← hu, ← ht]
  obtain ⟨discs, -, -, move⟩ := dropReservation_kept (s := t)
  have place : u.discs = s.discs.set d (some pair) ∧ u.tsq.arm.move =
      some { m with entry := entry, gripped := true, returning := false, reserved := .none } := by
    rw [← hu]
    have same := freshPick_place (s := t.dropReservation) (e := m.entry)
    refine ⟨((congrArg (fun p => p.1) same).trans discs).trans told.1, ?_⟩
    have moved : (t.dropReservation.freshPick m.entry).tsq.arm.move = some { m with reserved := .none } := by
      refine (congrArg (fun p => p.2.1.move) same).trans (move.trans ?_)
      rw [told.2, hm]
      rfl
    exact congrArg (Option.map _) moved
  have stays : u.mustReroute { m with entry := entry, gripped := true, returning := false, reserved := .none } = false := by
    rw [mustReroute, Bool.and_eq_false_iff]
    exact .inr (bne_self_eq_false Dest.rej)
  have same := travel_of_stays place.2 stays
  have discs' : u.travel.discs = u.discs := congrArg (fun w => w.1.1) same
  have core : u.travel.tsq.arm.move.map Move.core = u.tsq.arm.move.map Move.core := congrArg (fun w => w.2.2.2) same
  rw [picks]
  refine ⟨(disc_congr (discs'.trans place.1)).trans (disc_set_self _),
    fun c ne => (disc_congr (discs'.trans place.1)).trans (disc_set_ne ne _), ?_⟩
  have of_core (o : Option Move) : o.map Move.entry = (o.map Move.core).map (fun c => c.1) := by
    rw [Option.map_map]
    rfl
  rw [of_core, core, ← of_core, place.2]
  rfl

/-- GRIPPED at a place, once its disc has left the place: the record is at the arm, a REJECT bound for REJ
(R157, R9, R159). -/
theorem disc_taken {t : State} (hm : s.tsq.arm.move = some m) (hd : m.entry.disc = some d) (hr : s.disc d = some r)
    (h : t.place = ((s.modDisc d (fun r => { r with location := .arm, dest := some m.entry.dest })).modMove
      (fun v => { v with gripped := true })).place) :
    t.travel.disc d = some { r with
        location := .arm
        dest := some (if r.verdict = .reject ∧ r.purpose ≠ .master then .rej else m.entry.dest) } ∧
      ∀ c, c ≠ d → t.travel.disc c = s.disc c := by
  have discs : t.discs = (s.modDisc d (fun r => { r with location := .arm, dest := some m.entry.dest })).discs :=
    congrArg (fun p => p.1) h
  have move : t.tsq.arm.move = some { m with gripped := true } :=
    (congrArg (fun p => p.2.1.move) h).trans (congrArg (Option.map _) hm)
  have entry : t.disc d = some { r with location := .arm, dest := some m.entry.dest } :=
    (disc_congr discs).trans ((disc_modDisc_self ..).trans (congrArg _ hr))
  obtain ⟨mine, others⟩ := disc_travel move hd entry
  refine ⟨mine.trans ?_, fun c ne => (others c ne).trans ((disc_congr discs).trans (disc_modDisc_ne ne _ s))⟩
  by_cases rejected : r.verdict = .reject ∧ r.purpose ≠ .master
  · by_cases bin : m.entry.dest = .rej <;> simp [rejected, bin]
  · rw [if_neg rejected, if_neg fun k => rejected ⟨k.1, k.2.1⟩]

theorem leftHolding_place : (s.leftHolding n).place = s.place := by
  unfold leftHolding
  split <;> rfl

theorem stationTaken_place : s.stationTaken.place = s.place := by
  unfold stationTaken
  split <;> rfl

theorem stationTaken_of_loaded (h : s.psc.state = .loaded ∨ s.psc.state = .printed) :
    s.stationTaken.psc.state = .vacant ∧ s.stationTaken.psc.step = none := by
  obtain h | h := h <;> rw [stationTaken, h] <;> exact ⟨rfl, rfl⟩

theorem stationTaken_of_stopped (h : s.psc.state = .inkOut ∨ s.psc.state = .jammed) : s.stationTaken = s := by
  obtain h | h := h <;> rw [stationTaken, h]

theorem gripPlace_of_bay (hm : s.tsq.arm.move = some m) (hd : m.entry.disc = some d) (source : m.entry.source = .bay n) :
    s.gripPlace = ((((s.modDisc d (fun r => { r with location := .arm, dest := some m.entry.dest })).modMove
      (fun v => { v with gripped := true })).leftHolding n).offlineCheck n).travel := by
  rw [gripPlace, hm]
  dsimp only
  rw [hd]
  dsimp only
  rw [source]

theorem gripPlace_of_printer (hm : s.tsq.arm.move = some m) (hd : m.entry.disc = some d)
    (source : m.entry.source = .printer) :
    s.gripPlace = (((s.modDisc d (fun r => { r with location := .arm, dest := some m.entry.dest })).modMove
      (fun v => { v with gripped := true })).stationTaken.unreserveStation (.disc d)).travel := by
  rw [gripPlace, hm]
  dsimp only
  rw [hd]
  dsimp only
  rw [source]

theorem gripDoubleSpindle_of_retry (hm : s.tsq.arm.move = some m) (left : m.retries < 2) :
    s.gripDoubleSpindle x = s.sendMotion .release := by
  rw [gripDoubleSpindle, hm]
  exact if_pos left

theorem gripDoubleSpindle_of_last (hm : s.tsq.arm.move = some m) (last : 2 ≤ m.retries) :
    s.gripDoubleSpindle x = s.doublePick x := by
  rw [gripDoubleSpindle, hm]
  exact if_neg (Nat.not_lt.2 last)

end State

/-- Settles O53, by the place that the arm grips at and by the answer of the gripper. -/
theorem gripsMoveTheRecord : Obligations.GripsMoveTheRecord := by
  intro s
  refine ⟨fun idle => ⟨?_, ?_, ?_⟩, fun m asked hm => ⟨fun x source => ?spindle, fun d r hd hr => ?place, fun away => ?fault⟩⟩
  · exact exec_event rfl (if_neg idle) rfl
  · exact exec_event rfl (if_neg idle) rfl
  · exact exec_event rfl (if_neg idle) rfl
  case spindle =>
    have moving : s.begin.motionEnds.tsq.arm.move = some m := hm
    have gripped {f : Spindle → State → State} {g : State → State} :
        (if s.begin.tsq.arm.motion = some .grip then s.begin.gripAnswer f g else s.begin) = f x s.begin.motionEnds :=
      (if_pos asked).trans (gripAnswer_of_spindle hm source)
    refine ⟨fun d free least => ⟨⟨_, congrArg (fun t : State => Host.Outcome.next t.settle) gripped, ?_⟩, fun last =>
      ⟨_, congrArg (fun t : State => Host.Outcome.next t.settle) (gripped.trans (gripDoubleSpindle_of_last moving last)), ?_⟩⟩,
      fun left => ?_, _, congrArg (fun t : State => Host.Outcome.next t.settle) gripped, ?_⟩
    · exact gripSpindle_discs moving free least
    · exact doublePick_kept moving free least
    · refine exec_event rfl ((gripped.trans (gripDoubleSpindle_of_retry moving left)).trans
        (sendMotion_of_move moving (by simp))) rfl
    · exact gripEmptySpindle_kept moving
  case place =>
    intro moved
    have gripped (away : ∀ x, m.entry.source ≠ .spindle x) :
        (if s.begin.tsq.arm.motion = some .grip then s.begin.gripAnswer State.gripSpindle State.gripPlace else s.begin) =
          s.begin.motionEnds.gripPlace := (if_pos asked).trans (gripAnswer_of_place hm away)
    have moving : s.begin.motionEnds.tsq.arm.move = some m := hm
    have held : s.begin.motionEnds.disc d = some r := hr
    refine ⟨fun n source => ⟨_, congrArg (fun t : State => Host.Outcome.next t.settle)
      ((gripped fun x h => nomatch source.symm.trans h).trans (gripPlace_of_bay moving hd source)), ?_⟩,
      fun source => ⟨_, congrArg (fun t : State => Host.Outcome.next t.settle)
      ((gripped fun x h => nomatch source.symm.trans h).trans (gripPlace_of_printer moving hd source)), ?_⟩⟩
    · exact disc_taken (s := s.begin.motionEnds) moving hd held (mild_place.offlineCheck.trans leftHolding_place)
    · generalize ht : (s.begin.motionEnds.modDisc d (fun r => { r with location := .arm, dest := some m.entry.dest })).modMove
        (fun v => { v with gripped := true }) = t
      have psc : t.psc = s.psc := by
        rw [← ht]
        rfl
      have station {a : StationState} (h : t.stationTaken.psc.state = a) (ha : a ≠ .reserved) :
          (t.stationTaken.unreserveStation (.disc d)).travel.psc.state = a ∧
            (t.stationTaken.unreserveStation (.disc d)).travel.psc.step = t.stationTaken.psc.step := by
        obtain ⟨state, step⟩ := unreserveStation_station (x := .disc d) (h ▸ ha)
        obtain ⟨state', step'⟩ := travel_station (state.trans h ▸ ha)
        exact ⟨state'.trans (state.trans h), step'.trans step⟩
      obtain ⟨mine, others⟩ := disc_taken (s := s.begin.motionEnds) (t := t.stationTaken.unreserveStation (.disc d)) moving hd held
        ((mild_place.unreserveStation.trans stationTaken_place).trans (congrArg State.place ht.symm))
      refine ⟨mine, others, fun loaded => ?_, fun stopped => ?_⟩
      · obtain ⟨state, step⟩ := stationTaken_of_loaded (s := t) (by rw [psc]; exact loaded)
        obtain ⟨state', step'⟩ := station state (by simp)
        exact ⟨state', step'.trans step⟩
      · have same : t.stationTaken.psc.state = s.psc.state := by
          rw [stationTaken_of_stopped (by rw [psc]; exact stopped), psc]
        refine (station same ?_).1
        obtain h | h := stopped <;> rw [h] <;> simp
  case fault =>
    have fault {f : Spindle → State → State} :
        (if s.begin.tsq.arm.motion = some .grip then s.begin.gripAnswer f (State.armFault .senseDisagree) else s.begin) =
          s.begin.motionEnds.armFault .senseDisagree := (if_pos asked).trans (gripAnswer_of_place hm away)
    exact ⟨exec_event rfl fault rfl, exec_event rfl fault rfl⟩


end Sys2Proof.Machine
end

section
/-! PROOFS. Releases (O54): over a spindle, at OUT and REJ, at a bay and at the printer (R156, R160, R161, R176). -/

namespace Sys2Proof.Machine

open State

/-- The arm and the places it serves, which no verdict moves. -/
def State.stands (s : State) := (s.tsq.arm, s.tsq.inA, s.tsq.inB, s.tsq.out, s.tsq.rej)

theorem decides_stands : Decides (fun s t => t.stands = s.stands) where
  refl _ := rfl
  trans h k := k.trans h
  other e := by
    simp only [watched, Prod.mk.injEq] at e
    obtain ⟨-, -, -, -, -, -, tsq, -⟩ := e
    rw [stands, stands, tsq]
  emit _ _ := rfl
  cleared _ _ := rfl
  unreserve _ _ _ := rfl
  retire _ _ _ := rfl
  deliver _ _ := rfl
  account _ _ _ _ := rfl
  decide _ _ _ _ := rfl
  hold _ _ _ := rfl
  live _ _ := rfl
  terminal _ _ := rfl
  loads _ _ := rfl
  image _ _ _ := rfl
  freed _ _ := rfl
  masters _ _ := rfl
  unreserved _ := rfl
  ungranted _ _ := rfl
  unwaited _ _ := rfl
  scan s := by
    obtain ⟨r, ms, bs, e⟩ := s.scan_frame
    rw [e]
    rfl
  closed _ _ _ := rfl
  withdrawn _ := rfl
  unspared _ _ := rfl
  queue _ _ := rfl

namespace State
variable {s t : State} {n : BayId} {d : DiscId} {m : Move} {r : Disc}

theorem modDisc_const (hr : s.disc d = some r) (f : Disc → Disc) : s.modDisc d f = s.modDisc d (fun _ => f r) := by
  unfold modDisc
  rw [show (s.discs[d] : Option Disc) = some r from hr]
  rfl

/-! ### Over a spindle -/

theorem dropMoveRes_sent : (s.dropMoveRes m).sent = s.sent := by
  have station (x : StationRes) : (s.unreserveStation x).sent = s.sent := by
    unfold unreserveStation
    split <;> rfl
  unfold dropMoveRes
  dsimp only
  split
  · rfl
  · rfl
  · rfl
  · split
    · exact station _
    · rfl
  · rfl
  · rfl

theorem dropReservation_sent : s.dropReservation.sent = s.sent := by
  unfold dropReservation
  split
  · exact dropMoveRes_sent
  · rfl

theorem retryReleased_of_gone {i : Nat} (hm : s.tsq.arm.move = some m) (gone : s.masterGone m.entry = true)
    (image : m.entry.image = some i) : s.retryReleased = s.giveUp.dropResOf (.master i) := by
  unfold retryReleased
  rw [hm]
  dsimp only
  rw [if_pos gone]
  unfold giveUpMaster
  rw [image]

theorem retryReleased_of_there (hm : s.tsq.arm.move = some m) (first : m.returning = false)
    (there : s.masterGone m.entry = false) : s.retryReleased =
      { s with
        sent := s.sent ++ [.arm .grip], tsq.arm.motion := some .grip, tsq.arm.lastCmd := some .grip
        tsq.arm.timer := some 6000, tsq.arm.move := some { m with retries := m.retries + 1, cmd := some .grip } } := by
  unfold retryReleased
  rw [hm]
  dsimp only
  rw [if_neg (by simp [there])]
  have moving : (s.modMove (fun v =>
      { v with retries := if v.returning then v.retries else v.retries + 1, returning := false })).tsq.arm.move =
      some { m with retries := m.retries + 1 } := by
    refine (congrArg (Option.map _) hm).trans ?_
    cases m
    cases first
    rfl
  rw [sendMotion_of_move moving (by simp)]
  rfl

/-! ### At the destination -/

theorem beginTenure_frame (m : Move) (s : State) : ∃ x, s.beginTenure m = { s with tsq.tenure := x } := by
  unfold beginTenure
  split
  · split
    · exact ⟨_, rfl⟩
    · exact ⟨s.tsq.tenure, rfl⟩
  · exact ⟨s.tsq.tenure, rfl⟩

theorem beginTenure_of_moving (h : s.tsq.arm.move.isNone = false) : s.beginTenure m = s := by
  unfold beginTenure
  split
  · rw [if_neg (by simp [h])]
  · rfl

theorem beginTenure_of_clear (h : s.tsq.arm.move = none) (cls : m.entry.cls = .clear) (source : m.entry.source = .bay n) :
    (s.beginTenure m).tsq.tenure = some n := by
  unfold beginTenure
  rw [cls, source]
  dsimp only
  rw [h]
  rfl

theorem dropMoveRes_counts : (s.dropMoveRes m).tsq.out.count = s.tsq.out.count ∧
    (s.dropMoveRes m).tsq.rej.count = s.tsq.rej.count := by
  have station (x : StationRes) : (s.unreserveStation x).tsq = s.tsq := by
    unfold unreserveStation
    split <;> rfl
  unfold dropMoveRes
  dsimp only
  split
  · exact ⟨rfl, rfl⟩
  · exact ⟨rfl, rfl⟩
  · exact ⟨rfl, rfl⟩
  · split
    · exact ⟨congrArg (fun q => q.out.count) (station _), congrArg (fun q => q.rej.count) (station _)⟩
    · exact ⟨rfl, rfl⟩
  · exact ⟨rfl, rfl⟩
  · exact ⟨rfl, rfl⟩

theorem loseDisc_stands : (s.loseDisc d).stands = s.stands := loseDisc_decides decides_stands fun _ => rfl

/-- At OUT or REJ the count rises by the places that the disc takes, and its slot is free (R160, R16). -/
theorem releasedAway_counts (hr : s.disc d = some r) (away : m.entry.dest = .out ∨ m.entry.dest = .rej) :
    (s.releasedAway m d).disc d = none ∧
      (s.releasedAway m d).tsq.out.count = s.tsq.out.count + (if m.entry.dest = .out then r.places else 0) ∧
      (s.releasedAway m d).tsq.rej.count = s.tsq.rej.count + (if m.entry.dest = .rej then r.places else 0) := by
  have counts (t : State) : ((t.dropMoveRes m).loseDisc d).tsq.out.count = t.tsq.out.count ∧
      ((t.dropMoveRes m).loseDisc d).tsq.rej.count = t.tsq.rej.count :=
    ⟨(congrArg (fun p => p.2.2.2.1.count) loseDisc_stands).trans dropMoveRes_counts.1,
      (congrArg (fun p => p.2.2.2.2.count) loseDisc_stands).trans dropMoveRes_counts.2⟩
  have places : ((s.disc d).map Disc.places).getD 1 = r.places := by rw [hr]; rfl
  unfold releasedAway
  dsimp only
  rw [places]
  obtain dest | dest := away <;> rw [dest] <;> dsimp only
  · exact ⟨deleteDisc_disc, (counts _).1, (counts _).2⟩
  · exact ⟨deleteDisc_disc, (counts _).1, (counts _).2⟩

/-- A disc rejected between RELEASE and RELEASED is gripped again for REJ (R160). -/
theorem regrip_of_move {src : Source} (hm : s.tsq.arm.move = some m) : s.regrip m src =
    { s with
      sent := s.sent ++ [.arm .grip], tsq.arm.state := .picking, tsq.arm.motion := some .grip
      tsq.arm.lastCmd := some .grip, tsq.arm.timer := some 6000
      tsq.arm.move := some { m with
        entry := { m.entry with cls := .clear, source := src, dest := .rej }, gripped := false, reserved := .none
        cmd := some .grip } } := by
  unfold regrip
  dsimp only
  have moving : ((s.modMove (fun v =>
      { v with entry := { m.entry with cls := .clear, source := src, dest := .rej }, gripped := false
               reserved := .none })).armTo .picking).tsq.arm.move =
      some { m with entry := { m.entry with cls := .clear, source := src, dest := .rej }, gripped := false
                    reserved := .none } := congrArg (Option.map _) hm
  rw [sendMotion_of_move moving (by simp)]
  rfl

theorem drainArrival_of_stays (hr : s.disc d = some r) (live : ∀ j, s.jobOf r = some j → j.state ≠ .draining) :
    s.drainArrival d = s := by
  cases hj : s.jobOf r with
  | some j => exact drainArrival_of_live hr hj (live j hj)
  | none =>
    rw [drainArrival, hr]
    dsimp only
    rw [hj]

theorem closeTray_of_place (errand : (s.bay n).errand = .place) (opened : (s.bay n).tray = .opened) :
    s.closeTray n = s.moveTray n true := by
  unfold closeTray
  exact if_pos ⟨.inl errand, fun k => by simp [opened] at k⟩

theorem takePlaced_of_trayOut (state : (s.bay n).state = .trayOut) : s.takePlaced n d = s.closeTray n := by
  unfold takePlaced
  rw [state]

/-- RELEASED at a bay whose tray is out for it: the bay closes its tray, and the move is over (R160, R107). -/
theorem releasedAtBay_of_kept (hr : s.disc d = some r) (kept : ¬ (r.verdict = .reject ∧ r.purpose ≠ .master))
    (live : ∀ j, s.jobOf r = some j → j.state ≠ .draining) (state : (s.bay n).state = .trayOut)
    (errand : (s.bay n).errand = .place) (opened : (s.bay n).tray = .opened) : s.releasedAtBay m d n =
      (((s.modDisc d (fun _ => { r with location := .bay n, workBay := some n, dest := none })).setBayRes n
        none).park.moveTray n true) := by
  rw [← modDisc_const hr (fun r => { r with location := .bay n, workBay := some n, dest := none })]
  unfold releasedAtBay
  dsimp only
  have entry : (s.modDisc d (fun r => { r with location := .bay n, workBay := some n, dest := none })).disc d =
      some { r with location := .bay n, workBay := some n, dest := none } := (disc_modDisc_self ..).trans (congrArg _ hr)
  rw [entry, Option.any_some, if_neg (by simpa using kept), drainArrival_of_stays
      (s := ((s.modDisc d (fun r => { r with location := .bay n, workBay := some n, dest := none })).setBayRes n none).park)
      entry live]
  have taken (t : State) (h : t.bay n = s.bay n) : t.takePlaced n d = t.moveTray n true :=
    (takePlaced_of_trayOut (by rw [h]; exact state)).trans
      (closeTray_of_place (by rw [h]; exact errand) (by rw [h]; exact opened))
  exact taken _ rfl

theorem releasedAtBay_of_reject (hr : s.disc d = some r) (rejected : r.verdict = .reject)
    (copy : r.purpose ≠ .master) : s.releasedAtBay m d n =
      (s.modDisc d (fun _ => { r with location := .bay n, workBay := some n, dest := none })).regrip m (.bay n) := by
  rw [← modDisc_const hr (fun r => { r with location := .bay n, workBay := some n, dest := none })]
  unfold releasedAtBay
  dsimp only
  have entry : (s.modDisc d (fun r => { r with location := .bay n, workBay := some n, dest := none })).disc d =
      some { r with location := .bay n, workBay := some n, dest := none } := (disc_modDisc_self ..).trans (congrArg _ hr)
  rw [entry, Option.any_some, if_pos (by simp [rejected, copy])]

theorem releasedAtPrinter_of_reject (hr : s.disc d = some r) (rejected : r.verdict = .reject)
    (copy : r.purpose ≠ .master) : s.releasedAtPrinter m d =
      (s.modDisc d (fun _ => { r with location := .printer, dest := none })).regrip m .printer := by
  rw [← modDisc_const hr (fun r => { r with location := .printer, dest := none })]
  unfold releasedAtPrinter
  dsimp only
  have entry : (s.modDisc d (fun r => { r with location := .printer, dest := none })).disc d =
      some { r with location := .printer, dest := none } := (disc_modDisc_self ..).trans (congrArg _ hr)
  rw [entry, Option.any_some, if_pos (by simp [rejected, copy])]

/-- RELEASED at the printer: the move is over before the station takes the disc (R160, R176). -/
theorem releasedAtPrinter_of_kept (hr : s.disc d = some r) (kept : r.verdict ≠ .reject)
    (live : ∀ j, s.jobOf r = some j → j.state ≠ .draining) : s.releasedAtPrinter m d =
      ((s.modDisc d (fun _ => { r with location := .printer, dest := none })).park).stationPlaced d := by
  rw [← modDisc_const hr (fun r => { r with location := .printer, dest := none })]
  unfold releasedAtPrinter
  dsimp only
  have entry : (s.modDisc d (fun r => { r with location := .printer, dest := none })).disc d =
      some { r with location := .printer, dest := none } := (disc_modDisc_self ..).trans (congrArg _ hr)
  rw [entry, Option.any_some, if_neg (by simp [kept]), drainArrival_of_stays
    (s := (s.modDisc d (fun r => { r with location := .printer, dest := none })).park) entry live]

/-! ### The station takes its disc (R176) -/

/-- The job of a disc does not drain. -/
def undrained (d : DiscId) (s : State) : Prop := ∀ r j, s.disc d = some r → s.jobOf r = some j → j.state ≠ .draining

theorem undrained_congr (discs : t.discs = s.discs) (jobs : t.jsc.jobs = s.jsc.jobs) (h : s.undrained d) :
    t.undrained d := by
  intro r j hr hj
  have find : t.job? = s.job? := funext fun k => by rw [job?, job?, jobs]
  exact h r j ((disc_congr discs).symm.trans hr) (by rwa [jobOf, find] at hj)

theorem undrained_modJob {k : Nat} {f : Job → Job} (hf : ∀ x, (f x).number = x.number)
    (hd : ∀ x, s.job? k = some x → (f x).state = .draining → x.state = .draining) (h : s.undrained d) :
    (s.modJob k f).undrained d := by
  intro r j hr hj draining
  obtain ⟨c, hc, found⟩ := Option.bind_eq_some_iff.1 hj
  have known (x : Job) (hx : s.job? c = some x) : s.jobOf r = some x := by rw [jobOf, hc, Option.bind_some, hx]
  rw [job?_modJob hf] at found
  split at found
  next same =>
    obtain ⟨x, hx, rfl⟩ := Option.map_eq_some_iff.1 found
    exact h r x hr (known x hx) (hd x (same ▸ hx) draining)
  next => exact h r j hr (known j found) draining

theorem mild_undrained (d : DiscId) : Mild (fun s t => s.undrained d → t.undrained d) where
  refl _ h := h
  trans h k w := k (h w)
  other e := undrained_congr (congrArg (fun w => w.1.1) e) (congrArg (fun w => w.2.1.1) e)
  emit _ _ h := h
  cleared _ _ h := h
  unreserve _ _ _ h := h
  retire _ _ _ h := h
  deliver _ _ h := h
  hold _ _ _ := undrained_modJob (fun _ => rfl) fun _ _ h => h
  live {k j s} _ _ := undrained_modJob (fun _ => rfl) fun x _ h => by
    have live : ({ j with state := s.liveState j } : Job).live = true := liveState_live
    rw [Job.live, show s.liveState j = .draining from h] at live
    cases live
  terminal {k j x s} _ hx := undrained_modJob (fun _ => rfl) fun y _ h => by
    have final := terminalOf_terminal hx
    rw [show x = .draining from h] at final
    cases final
  loads _ _ := undrained_modJob (fun _ => rfl) fun _ _ h => h
  image _ _ _ h := h
  freed _ _ h := h
  masters _ _ h := h
  unreserved _ h := h
  ungranted _ _ h := h
  unwaited _ _ h := h
  scan s := by
    obtain ⟨r, ms, bs, e⟩ := s.scan_frame
    rw [e]
    exact fun h => h
  closed _ _ _ h := h
  withdrawn _ h := h
  unspared _ _ h := h
  queue _ _ h := h

theorem drainArrival_of_undrained (h : s.undrained d) : s.drainArrival d = s := by
  cases hr : s.disc d with
  | some r => exact drainArrival_of_stays hr fun j => h r j hr
  | none => rw [drainArrival, hr]

/-- The station of a state, but for the disc that it is reserved for, and the artwork asked for. -/
structure Stations (R : State → State → Prop) : Prop extends Mild R where
  station (x : Psc) (s : State) : x.reservedFor = s.psc.reservedFor → R s { s with psc := x }
  artwork (a : Option Transfer) (m : Smc) (s : State) : R s { s with fdr.artwork := a, smc := m }

namespace Stations
variable {R : State → State → Prop} {s : State}

theorem stall (h : Stations R) {serial : Bool} (live : s.undrained d) : R s (s.stall d serial) := by
  unfold State.stall
  have kept (t : State) (ht : t.undrained d) (hs : R s t) : R s (t.drainArrival d) := by
    rwa [drainArrival_of_undrained ht]
  generalize hx : (if serial then PrintStep.stalledSerial else .stalledArtwork) = x
  have stalls : R s { s with psc.state := .loaded, psc.step := some x, psc.timer := none } :=
    h.station { s.psc with state := .loaded, step := some x, timer := none } s rfl
  dsimp only
  split
  · exact kept _ ((mild_undrained d).addHold live) (h.trans (h.trans stalls h.addHold) (h.deliver _ _))
  · exact kept _ live stalls

theorem mergeStep (h : Stations R) (live : s.undrained d) : R s (s.mergeStep d) := by
  unfold State.mergeStep
  split
  · split
    · exact h.stall live
    · exact h.trans (h.trans h.toPrinter h.toPrinter)
        (h.station { s.psc with state := .printing, step := none, timer := some 60000 } _ rfl)
  · exact h.refl s

theorem artworkStep (h : Stations R) (live : s.undrained d) : R s (s.artworkStep d) := by
  unfold State.artworkStep
  split
  next x _ =>
    split
    · exact h.stall live
    · split
      · exact h.mergeStep live
      · have asks : R s (({ s with psc.cacheTag := none, psc.state := .loaded, psc.step := some .transfer } : State).toPrinter
            (.artwork x.number x.length)) :=
          h.trans (h.station { s.psc with cacheTag := none, state := .loaded, step := some .transfer } s rfl) h.toPrinter
        dsimp only
        generalize State.toPrinter _ _ = t at asks ⊢
        obtain ⟨m, e⟩ := requestArtwork_frame x t
        rw [e]
        exact h.trans asks (h.artwork _ m t)
  · exact h.stall live

theorem stationActs (h : Stations R) (live : s.undrained d) : R s (s.stationActs d) := by
  unfold State.stationActs
  split
  · split
    · exact h.trans (h.station { s.psc with state := .loaded } s rfl) (h.artworkStep live)
    · exact h.trans (h.station { s.psc with state := .loaded, step := some .leaving } s rfl) h.clearFromPrinter
  · exact h.refl s

end Stations

theorem stations_place : Stations (fun s t => t.place = s.place) where
  toMild := mild_place
  station _ _ _ := rfl
  artwork _ _ _ := rfl

theorem stations_free : Stations (fun s t => s.psc.reservedFor = none → t.psc.reservedFor = none) where
  refl _ h := h
  trans h k w := k (h w)
  other e h := by
    have psc := congrArg (fun w => w.2.2.1) e
    exact (congrArg Psc.reservedFor psc).trans h
  emit _ _ h := h
  cleared _ _ h := h
  unreserve _ _ _ h := h
  retire _ _ _ h := h
  deliver _ _ h := h
  hold _ _ _ h := h
  live _ _ h := h
  terminal _ _ h := h
  loads _ _ h := h
  image _ _ _ h := h
  freed _ _ h := h
  masters _ _ h := h
  unreserved _ _ := rfl
  ungranted _ _ h := h
  unwaited _ _ h := h
  scan s := by
    obtain ⟨r, ms, bs, e⟩ := s.scan_frame
    rw [e]
    exact fun h => h
  closed _ _ _ h := h
  withdrawn _ h := h
  unspared _ _ h := h
  queue _ _ h := h
  station _ _ e h := e.trans h
  artwork _ _ _ h := h

theorem stationPlaced_of_stopped (h : s.psc.state = .inkOut ∨ s.psc.state = .jammed) :
    s.stationPlaced d = { s with psc.reservedFor := none } := by
  unfold stationPlaced
  obtain h | h := h <;> (dsimp only; rw [h])

theorem stationPlaced_of_working (notInk : s.psc.state ≠ .inkOut) (notJam : s.psc.state ≠ .jammed) :
    s.stationPlaced d = ({ s with psc.reservedFor := none } : State).stationActs d := by
  unfold stationPlaced
  dsimp only
  split
  next h => exact absurd h notInk
  next h => exact absurd h notJam
  · rfl

/-- A disc placed stays as it is, and the station keeps no reservation (R176). -/
theorem stationPlaced_kept (live : s.undrained d) :
    (s.stationPlaced d).place = s.place ∧ (s.stationPlaced d).psc.reservedFor = none := by
  by_cases stopped : s.psc.state = .inkOut ∨ s.psc.state = .jammed
  · rw [stationPlaced_of_stopped stopped]
    exact ⟨rfl, rfl⟩
  · rw [stationPlaced_of_working (fun h => stopped (.inl h)) fun h => stopped (.inr h)]
    exact ⟨stations_place.stationActs (s := { s with psc.reservedFor := none }) live,
      stations_free.stationActs (s := { s with psc.reservedFor := none }) live rfl⟩

theorem clearFromPrinter_psc : s.clearFromPrinter.psc = s.psc := by
  unfold clearFromPrinter
  split
  · rfl
  · split
    · split
      · unfold queueClear
        split <;> rfl
      · rfl
    · rfl

/-- A disc with no print to make leaves (R176). -/
theorem stationActs_of_leaving (hr : s.disc d = some r)
    (h : r.verdict ≠ .pending ∨ (s.jobOf r).bind (fun j => nextStep j r) ≠ some .print) :
    (s.stationActs d).psc.state = .loaded ∧ (s.stationActs d).psc.step = some .leaving := by
  unfold stationActs
  rw [hr]
  dsimp only
  rw [if_neg fun k => h.elim (fun n => n k.1) fun n => n k.2, stationLeaves]
  dsimp only
  rw [clearFromPrinter_psc]
  exact ⟨rfl, rfl⟩

theorem placeReleased_of_bay (hm : s.tsq.arm.move = some m) (hd : m.entry.disc = some d) (dest : m.entry.dest = .bay n) :
    s.placeReleased = (s.releasedAtBay m d n).beginTenure m := by
  unfold placeReleased
  rw [hm]
  dsimp only
  rw [hd]
  dsimp only
  rw [dest]

theorem placeReleased_of_printer (hm : s.tsq.arm.move = some m) (hd : m.entry.disc = some d)
    (dest : m.entry.dest = .printer) : s.placeReleased = (s.releasedAtPrinter m d).beginTenure m := by
  unfold placeReleased
  rw [hm]
  dsimp only
  rw [hd]
  dsimp only
  rw [dest]

theorem placeReleased_of_away (hm : s.tsq.arm.move = some m) (hd : m.entry.disc = some d)
    (away : m.entry.dest = .out ∨ m.entry.dest = .rej) : s.placeReleased = (s.releasedAway m d).beginTenure m := by
  unfold placeReleased
  rw [hm]
  dsimp only
  rw [hd]
  dsimp only
  obtain dest | dest := away <;> rw [dest]

/-- At OUT or REJ the count rises by the places that the disc takes, and its slot is free (R160, R16). -/
theorem placeReleased_counts (hm : s.tsq.arm.move = some m) (hd : m.entry.disc = some d) (hr : s.disc d = some r)
    (away : m.entry.dest = .out ∨ m.entry.dest = .rej) : s.placeReleased.disc d = none ∧
      s.placeReleased.tsq.out.count = s.tsq.out.count + (if m.entry.dest = .out then r.places else 0) ∧
      s.placeReleased.tsq.rej.count = s.tsq.rej.count + (if m.entry.dest = .rej then r.places else 0) := by
  rw [placeReleased_of_away hm hd away]
  obtain ⟨x, e⟩ := beginTenure_frame m (s.releasedAway m d)
  rw [e]
  exact releasedAway_counts hr away

/-- A disc set down at a bay has its move over, and no other record changes (R160, R9). -/
theorem disc_placed {set : Disc} (place : t.place = ((s.modDisc d (fun _ => set)).park).place) (hr : s.disc d = some r) :
    t.disc d = some set ∧ (∀ c, c ≠ d → t.disc c = s.disc c) ∧ t.tsq.arm.state = .parked ∧ t.tsq.arm.move = none := by
  have discs : t.discs = (s.modDisc d (fun _ => set)).discs := congrArg (fun p => p.1) place
  exact ⟨(disc_congr discs).trans ((disc_modDisc_self ..).trans (by rw [hr]; rfl)),
    fun c ne => (disc_congr discs).trans (disc_modDisc_ne ne _ s), congrArg (fun p => p.2.1.state) place,
    congrArg (fun p => p.2.1.move) place⟩

end State

/-- Settles O54, by what the arm was doing and by the place that it releases at. -/
theorem releasesPlaceTheDisc : Obligations.ReleasesPlaceTheDisc := by
  intro s
  refine ⟨fun idle => exec_event rfl (if_neg idle) rfl, fun m asked hm => ?_⟩
  have moving : s.begin.motionEnds.tsq.arm.move = some m := hm
  have retried (picking : s.tsq.arm.state = .picking) :
      (if s.begin.tsq.arm.motion = some .release then s.begin.armReleased else s.begin) =
        s.begin.motionEnds.retryReleased := by
    refine (if_pos asked).trans ?_
    unfold armReleased
    dsimp only
    rw [show s.begin.motionEnds.tsq.arm.state = .picking from picking]
  have placed (placing : s.tsq.arm.state = .placing) :
      (if s.begin.tsq.arm.motion = some .release then s.begin.armReleased else s.begin) =
        s.begin.motionEnds.placeReleased := by
    refine (if_pos asked).trans ?_
    unfold armReleased
    dsimp only
    rw [show s.begin.motionEnds.tsq.arm.state = .placing from placing]
  refine ⟨fun i picking gone image => ?gone, fun picking first there => ?retry, fun d r placing hd hr away => ?away,
    fun d r placing hd hr => ?here, fun placing _ _ =>
      congrArg (fun t : State => Host.Outcome.next t.settle) (placed placing)⟩
  case gone =>
    exact ⟨congrArg (fun t : State => Host.Outcome.next t.settle)
      ((retried picking).trans (retryReleased_of_gone moving gone image)), rfl, rfl, dropReservation_sent⟩
  case retry => exact exec_event rfl ((retried picking).trans (retryReleased_of_there moving first there)) rfl
  case away =>
    exact ⟨congrArg (fun t : State => Host.Outcome.next t.settle) (placed placing),
      placeReleased_counts (s := s.begin.motionEnds) moving hd hr away⟩
  case here =>
    have held : s.begin.motionEnds.disc d = some r := hr
    intro again parked
    refine ⟨fun n dest => ?bay, fun dest => ?printer⟩
    case bay =>
      have at_bay := (placed placing).trans (placeReleased_of_bay moving hd dest)
      intro set
      refine ⟨fun rejected copy => ?_, fun kept live state errand opened => ?_⟩
      · refine exec_event rfl (at_bay.trans ?_) rfl
        rw [releasedAtBay_of_reject held rejected copy, regrip_of_move (s := s.begin.motionEnds.modDisc d (fun _ => set)) hm]
        exact beginTenure_of_moving rfl
      · have closes := releasedAtBay_of_kept (s := s.begin.motionEnds) (m := m) (n := n) held
          (fun k => kept.elim (fun h => h k.1) fun h => k.2 h) live state errand opened
        rw [closes] at at_bay
        refine ⟨_, congrArg (fun t : State => Host.Outcome.next t.settle) at_bay, ?_⟩
        generalize hu : ((s.begin.motionEnds.modDisc d (fun _ => set)).setBayRes n none).park.moveTray n true = u
        have place : u.place = ((s.begin.motionEnds.modDisc d (fun _ => set)).park).place := by rw [← hu]; rfl
        have bay : u.bay n = { s.bay n with tray := .moving, traysIn := true, timers.tray := some 4000 } := by
          rw [← hu, moveTray, bay_modBay_self]
          rfl
        have res : u.bayRes n = none := by
          rw [← hu]
          exact Vector.getElem_set_self ..
        have sent : u.sent = [.bay n .trayClose] := by rw [← hu]; rfl
        obtain ⟨x, e⟩ := beginTenure_frame m u
        have facts := disc_placed place held
        refine ⟨?_, ?_, ?_, ?_, fun k cls source => beginTenure_of_clear facts.2.2.2 cls source⟩
        all_goals rw [e]
        · exact facts
        · exact sent
        · exact bay
        · exact res
    case printer =>
      have at_printer := (placed placing).trans (placeReleased_of_printer moving hd dest)
      intro set
      refine ⟨fun rejected copy => ?_, fun kept live => ?_⟩
      · refine exec_event rfl (at_printer.trans ?_) rfl
        rw [releasedAtPrinter_of_reject held rejected copy, regrip_of_move (s := s.begin.motionEnds.modDisc d (fun _ => set)) hm]
        exact beginTenure_of_moving rfl
      · rw [releasedAtPrinter_of_kept held kept live] at at_printer
        refine ⟨_, congrArg (fun t : State => Host.Outcome.next t.settle) at_printer, ?_⟩
        generalize hv : (s.begin.motionEnds.modDisc d (fun _ => set)).park = v
        have set_ : v.disc d = some set := by
          rw [← hv]
          exact (disc_modDisc_self ..).trans (by rw [held]; rfl)
        have jobs : v.jobOf set = s.jobOf r := by rw [← hv]; rfl
        have images (i : Nat) : v.image? i = s.image? i := by rw [← hv]; rfl
        have psc : v.psc = s.psc := by rw [← hv]; rfl
        have undrained : v.undrained d := fun c j hc hj => by
          cases set_.symm.trans hc
          exact live j (jobs ▸ hj)
        obtain ⟨place, free⟩ := stationPlaced_kept undrained
        obtain ⟨x, e⟩ := beginTenure_frame m (v.stationPlaced d)
        rw [e]
        refine ⟨disc_placed (s := s.begin.motionEnds) (place.trans (congrArg State.place hv.symm)) held, free, fun stopped => ?_, fun notInk notJam => ⟨fun h => ?_,
          fun j i x pending hj print label hx there tag => ?_⟩⟩
        · dsimp only
          rw [stationPlaced_of_stopped (by rw [psc]; exact stopped), psc]
          exact ⟨rfl, rfl⟩
        · dsimp only
          rw [stationPlaced_of_working (by rw [psc]; exact notInk) (by rw [psc]; exact notJam)]
          refine stationActs_of_leaving (s := { v with psc.reservedFor := none }) set_ ?_
          refine h.imp (fun good => ?_) fun other => ?_
          · rw [show set.verdict = .good from good]
            simp
          · exact fun k => other (jobs ▸ k)
        · dsimp only
          rw [stationPlaced_of_working (by rw [psc]; exact notInk) (by rw [psc]; exact notJam),
            stationActs_of_pending (s := { v with psc.reservedFor := none }) set_ pending (jobs.trans hj) print label
              ((images i).trans hx) there (by rw [show ({ v with psc.reservedFor := none } : State).psc.cacheTag = v.psc.cacheTag from rfl, psc]; exact tag)]
          obtain ⟨c, asked⟩ := requestArtwork_frame x ((({ v with
            psc.reservedFor := none, psc.cacheTag := none, psc.state := .loaded, psc.step := some .transfer } : State)).toPrinter
              (.artwork x.number x.length))
          rw [asked]
          exact ⟨rfl, rfl, rfl, List.mem_append_right _ (List.mem_singleton.2 rfl), rfl⟩

end Sys2Proof.Machine
end

section
/-! PROOFS. HOMED (O55): the sweep at the arm and past it, the recovery, and how a place is reconciled (R7, R168, R172). -/

namespace Sys2Proof.Machine

open State

namespace State
variable {s t : State} {n : BayId} {d : DiscId} {m : Move} {r : Disc} {l : Location} {present : Bool}

/-! ### The sweep past the arm (R172) -/

theorem reconcile_stands (elsewhere : l ≠ .arm) : (s.reconcile l present).stands = s.stands :=
  reconcile_decides decides_stands elsewhere fun _ _ _ => rfl

theorem settleBay_stands : (s.settleBay n).stands = s.stands := by
  unfold settleBay
  split
  · exact decides_stands.offlineCheck
  · exact decides_stands.offlineCheck
  · exact decides_stands.offlineCheck
  · split
    · rfl
    · exact decides_stands.offlineCheck (s := s.bayTo n _)

theorem bayAnswered_stands : (s.bayAnswered n present).stands = s.stands :=
  settleBay_stands.trans (reconcile_stands (by simp))

theorem proceedSense_tsq : s.proceedSense.tsq = s.tsq := by
  unfold proceedSense
  split <;> rfl

theorem sensePrinter_tsq : s.sensePrinter.tsq = s.tsq := proceedSense_tsq

theorem sweepBays_stands (ns : List BayId) : ∀ s : State, (sweepBays ns s).stands = s.stands := by
  induction ns with
  | nil =>
    intro s
    rw [sweepBays, stands, sensePrinter_tsq]
    rfl
  | cons n ns ih =>
    intro s
    unfold sweepBays
    dsimp only
    split
    · exact (ih _).trans bayAnswered_stands
    · unfold startSense
      split <;> rfl

/-- The sweep stands at a bay or at the printer once it has gone past the arm (R172). -/
theorem sweepBays_phase (ns : List BayId) : ∀ s : State, ∃ x, x ≠ .arm ∧ (sweepBays ns s).tsq.phase = .sweeping x := by
  induction ns with
  | nil =>
    intro s
    refine ⟨.printer, by simp, ?_⟩
    rw [sweepBays, sensePrinter_tsq]
    rfl
  | cons n ns ih =>
    intro s
    unfold sweepBays
    dsimp only
    split
    · exact ih _
    · refine ⟨.bay n, by simp, ?_⟩
      unfold startSense
      split <;> rfl

/-- A state whose arm has homed (R149). -/
def atHome (s : State) : State := { s with tsq.arm.motion := none, tsq.arm.timer := none, tsq.arm.position := .home }

/-- A HOMED by the phase (R168, R172). -/
theorem armHomed_cases {holding : Bool} :
    (s.tsq.phase = .sweeping .arm → s.armHomed holding = s.atHome.sweepArm holding) ∧
      (∀ place, s.tsq.phase = .sweeping place → place ≠ .arm →
        s.armHomed holding = (s.atHome.reconcile .arm holding).armTo .parked) ∧
      (s.tsq.phase = .running → s.armHomed holding = s.atHome.recover holding) := by
  unfold armHomed
  dsimp only [motionEnds]
  split
  next h => exact ⟨fun _ => rfl, fun place k past => by simp_all, fun k => by simp [h] at k⟩
  next x past h => exact ⟨fun k => absurd (by simpa [h] using k) past, fun _ _ _ => rfl, fun k => by simp [h] at k⟩
  next h => exact ⟨fun k => by simp [h] at k, fun _ k _ => by simp [h] at k, fun _ => rfl⟩

theorem sweepArm_kept {holding : Bool} : (s.sweepArm holding).tsq.arm.state = .parked ∧
    (s.sweepArm holding).tsq.arm.move = none ∧ (s.sweepArm holding).tsq.phase ≠ .sweeping .arm ∧
    (s.sweepArm holding).tsq.phase ≠ .running := by
  have same := sweepBays_stands allBays { s.reconcile .arm holding with tsq.arm.move := none, tsq.arm.state := .parked }
  obtain ⟨x, past, phase⟩ :=
    sweepBays_phase allBays { s.reconcile .arm holding with tsq.arm.move := none, tsq.arm.state := .parked }
  refine ⟨congrArg (fun p => p.1.state) same, congrArg (fun p => p.1.move) same, ?_, ?_⟩
  · unfold sweepArm
    dsimp only
    rw [phase]
    exact fun h => past (by cases h; rfl)
  · unfold sweepArm
    dsimp only
    rw [phase]
    nofun

/-! ### The recovery (R168) -/

/-- A move that had not gripped is run again from its spindle. -/
theorem recover_of_spindle {x : Spindle} {p : Position} (empty : s.discAt .arm = none) (hm : s.tsq.arm.move = some m)
    (source : m.entry.source = .spindle x) (position : m.entry.source.position = some p) : s.recover false =
      { s with
        sent := s.sent ++ [.arm (.goto p)], tsq.arm.state := .toSource, tsq.arm.trayReady := false
        tsq.arm.motion := some (.goto p), tsq.arm.lastCmd := some .goto, tsq.arm.timer := some 6000
        tsq.arm.move := some { m with returning := false, cmd := some .goto } } := by
  unfold recover
  rw [empty]
  dsimp only
  rw [hm]
  dsimp only
  unfold toSource
  rw [position]
  dsimp only
  rw [source]
  dsimp only
  have moving : ({ s.modMove (fun v => { v with returning := false }) with
      tsq.arm.state := .toSource, tsq.arm.trayReady := false } : State).tsq.arm.move = some { m with returning := false } :=
    congrArg (Option.map _) hm
  rw [sendMotion_of_move moving (by simp)]
  rfl

/-! ### A place is reconciled (R7) -/

theorem queueClear_of_new {src : Source} {dest : Dest} (new : s.hasEntry d = false) : s.queueClear src d dest =
    ({ s with tsq.queue := s.tsq.queue ++
      [{ cls := .clear, source := src, dest := dest, disc := some d, time := s.tsq.clock }] } : State).dueSelect := by
  unfold queueClear
  rw [new]
  rfl

theorem queueClear_discs {src : Source} {dest : Dest} : (s.queueClear src d dest).discs = s.discs := by
  unfold queueClear
  split <;> rfl

theorem hasEntry_congr (h : t.tsq = s.tsq) : t.hasEntry d = s.hasEntry d := by rw [hasEntry, hasEntry, h]

theorem reconcile_of_gone (here : s.discAt l = some d) : s.reconcile l false = s.loseDisc d := by
  unfold reconcile
  rw [here]

theorem reconcile_of_found (here : s.discAt l = none) (free : s.disc d = none)
    (least : ∀ c, c < d → (s.disc c).isSome) : s.reconcile l true =
      ({ s with discs := s.discs.set d (some (foundDisc l)) } : State).queueClear l.source d .rej := by
  unfold reconcile
  rw [here]
  dsimp only
  rw [createDisc_of_least free least]

theorem loseDisc_disc_ne {c : DiscId} (ne : c ≠ d) : (s.loseDisc d).disc c = s.disc c := by
  have quiet : Mild (fun s t => t.disc c = s.disc c) :=
    (Quiet.of_discs (fun _ _ e => disc_congr e) fun h k => k.trans h).toMild
  exact (deleteDisc_mild quiet fun t => disc_set_ne ne none).trans (disc_writeVerdict_ne ne)

/-- The verdict LOST counts as a reject of its job (R14, R17). -/
theorem loseDisc_rejected {j : Job} {k : Nat} (hr : s.disc d = some r) (hk : r.job = some k) (hj : s.job? k = some j)
    (pending : r.verdict = .pending) : ((s.loseDisc d).job? k).map Job.rejected = some (min 65535 (j.rejected + 1)) := by
  have kept : ((s.loseDisc d).job? k).map Job.accounts = ((s.writeVerdict d (some .lost)).job? k).map Job.accounts :=
    deleteDisc_mild (quiet_accounts k).toMild fun _ => rfl
  have accounts := kept.trans (writeVerdict_accounts hr pending hk hj)
  have rejected (o : Option Job) : o.map Job.rejected = (o.map Job.accounts).map (fun a => a.1) := by
    rw [Option.map_map]
    rfl
  rw [rejected, accounts]
  rfl

end State

/-- A record that the sweep keeps, with its verdict (R7). -/
def Disc.swept (r : Disc) : Disc :=
  { r with
    verdict := if r.verdict = .pending ∧ r.purpose ≠ .master then .reject else r.verdict
    cause := if r.verdict = .pending ∧ r.purpose ≠ .master then some .cleared else r.cause }

/-- The place that a record kept by the sweep is cleared to (R7, R12). -/
def Disc.sweptDest (r : Disc) : Dest :=
  if r.purpose = .master ∨ (r.purpose = .copy ∧ r.verdict = .good) then .out else .rej

namespace State
variable {s t : State} {d : DiscId} {r : Disc} {l : Location}

theorem requiredDest_swept (h : r.purpose ≠ .spare ∨ r.verdict ≠ .good) : s.requiredDest r.swept = some r.sweptDest := by
  cases hp : r.purpose <;> cases hv : r.verdict <;> simp_all [requiredDest, Disc.swept, Disc.sweptDest]

/-- The verdict of a record that the sweep keeps changes no other record and no entry of the transport (R7). -/
theorem keepDisc_verdict (hr : s.disc d = some r) : ∃ t : State,
    (if (s.disc d).any (fun r => r.verdict == .pending && r.purpose != .master) then s.writeVerdict d (some .cleared)
      else s) = t ∧ t.disc d = some r.swept ∧ t.tsq = s.tsq := by
  rw [hr, Option.any_some]
  by_cases h : r.verdict = .pending ∧ r.purpose ≠ .master
  · refine ⟨_, if_pos (by simpa using h), ?_, writes_tsq.writeVerdict rfl⟩
    rw [disc_writeVerdict hr h.1, Disc.swept, if_pos h, if_pos h]
    rfl
  · refine ⟨_, if_neg (by simpa using h), ?_, rfl⟩
    rw [hr, Disc.swept, if_neg h, if_neg h]

/-- A record that is kept has its verdict, its destination at the arm, and its CLEAR (R7). -/
theorem keepDisc_kept (hr : s.disc d = some r) (h : r.purpose ≠ .spare ∨ r.verdict ≠ .good) :
    (s.keepDisc l d).disc d = some { r.swept with dest := if l = .arm then some r.sweptDest else r.dest } ∧
      (s.hasEntry d = false → (s.keepDisc l d).tsq.queue = s.tsq.queue ++
        [{ cls := .clear, source := l.source, dest := r.sweptDest, disc := some d, time := s.tsq.clock }]) := by
  obtain ⟨t, ht, entry, tsq⟩ := keepDisc_verdict hr
  generalize hu : (if l = .arm then t.modDisc d (fun r' => { r' with dest := some r.sweptDest }) else t) = u
  have keeps : s.keepDisc l d = u.queueClear l.source d r.sweptDest := by
    unfold keepDisc
    dsimp only
    rw [ht, entry, Option.bind_some, requiredDest_swept h]
    dsimp only
    rw [hu]
  have aimed : u.disc d = some { r.swept with dest := if l = .arm then some r.sweptDest else r.dest } ∧ u.tsq = s.tsq := by
    rw [← hu]
    by_cases arm : l = .arm
    · rw [if_pos arm, if_pos arm]
      exact ⟨(disc_modDisc_self ..).trans (by rw [entry]; rfl), tsq⟩
    · rw [if_neg arm, if_neg arm]
      exact ⟨entry, tsq⟩
  rw [keeps]
  refine ⟨(disc_congr queueClear_discs).trans aimed.1, fun new => ?_⟩
  rw [queueClear_of_new ((hasEntry_congr aimed.2).trans new), ← aimed.2]
  rfl

end State

/-- Settles O55, by the phase and the move for the arm, and by what is sensed for a place. -/
theorem homedSweepsOrRecovers : Obligations.HomedSweepsOrRecovers := by
  refine ⟨fun s holding => ?arm, fun s l => ?place⟩
  case arm =>
    intro home
    have homed (asked : s.tsq.arm.motion = some .home) :
        (if s.begin.tsq.arm.motion = some .home then s.begin.armHomed holding else s.begin) = s.begin.armHomed holding :=
      if_pos asked
    refine ⟨fun idle => exec_event rfl (if_neg idle) rfl, fun asked phase => ⟨?_, sweepArm_kept⟩,
      fun place asked phase past => ?_, fun m x asked phase empty gone hm source => ?_⟩
    · exact congrArg (fun t : State => Host.Outcome.next t.settle) ((homed asked).trans ((armHomed_cases (s := s.begin)).1 phase))
    · exact congrArg (fun t : State => Host.Outcome.next t.settle) ((homed asked).trans ((armHomed_cases (s := s.begin)).2.1 place phase past))
    · subst empty
      cases x <;>
        exact exec_event rfl ((homed asked).trans (((armHomed_cases (s := s.begin)).2.2 phase).trans
          (recover_of_spindle (s := home) gone hm source (by rw [source]; rfl)))) rfl
  case place =>
    intro clear
    have clears (d : DiscId) (dest : Dest) :
        clear d dest = { cls := .clear, source := l.source, dest := dest, disc := some d, time := s.tsq.clock } := by
      cases l <;> rfl
    refine ⟨fun gone => ?_, fun d gone free least => ?_, fun d r here hr => ⟨?_, ?_, ?_, fun h => ?_⟩⟩
    · unfold reconcile
      rw [gone]
    · rw [reconcile_of_found gone free least]
      refine ⟨(disc_congr queueClear_discs).trans ((disc_set_self _).trans (congrArg some ?_)),
        fun c ne => (disc_congr queueClear_discs).trans (disc_set_ne ne _), fun new => ?_⟩
      · cases l <;> rfl
      · rw [queueClear_of_new (s := { s with discs := s.discs.set d (some (foundDisc l)) }) new, clears]
        rfl
    · rw [reconcile_of_gone here]
      exact deleteDisc_disc
    · intro c ne
      rw [reconcile_of_gone here]
      exact loseDisc_disc_ne ne
    · intro j k hk hj pending
      rw [reconcile_of_gone here]
      exact loseDisc_rejected hr hk hj pending
    · intro dest
      have keeps : s.reconcile l true = s.keepDisc l d := by
        unfold reconcile
        rw [here]
      rw [keeps, clears]
      exact keepDisc_kept hr h

end Sys2Proof.Machine
end

section
/-! PROOFS. Deliveries to a feed FIFO (R98): what good blocks, one after the other, do at a bay in PREFILL or WRITING (R113
to R115), and at a bay in VERIFYING while its verify goes on (R138). -/

namespace Sys2Proof.Machine

open State

/-! ### A bay acts -/

/-- What a delivery goes by, besides the bay. -/
def State.feedView (s : State) := (s.discs, s.jsc, s.cat, s.mem, s.smc)

/-- A bay has this record, and these messages have been sent. -/
def State.acts (n : BayId) (b : Bay) (ms : List OutMsg) (s : State) : State := (s.emits ms).modBay n (fun _ => b)

/-- Good blocks delivered in order, which change the bay and send messages, and change nothing else. -/
inductive State.Delivers (s : State) (n : BayId) : Bay → List FeedBlock → Bay → List OutMsg → Prop
  | nil (b : Bay) : s.Delivers n b [] b []
  | cons {b b₁ b₂ : Bay} {x : FeedBlock} {xs : List FeedBlock} {ms ms' : List OutMsg}
      (first : ∀ t : State, t.feedView = s.feedView → t.bay n = b → t.deliverBlock n x.index x.data = t.acts n b₁ ms)
      (rest : s.Delivers n b₁ xs b₂ ms') : s.Delivers n b (x :: xs) b₂ (ms ++ ms')

/-- A bay with one more block at the tail of its feed FIFO. -/
def Bay.takesIn (xs : List FeedBlock) (b : Bay) : Bay := { b with fifo := b.fifo ++ xs }

/-- What a WRITING bay that is not under refill hold sends (R114). -/
def Bay.sending (n : BayId) (length : Nat) (b : Bay) : Bay × List OutMsg :=
  let k := min b.wantCredit b.fifo.length
  if length ≤ b.sentBlocks + k then ((b.spend k).finish, blockMsgs n (b.fifo.take k) ++ [.bay n .burnFinish])
  else (b.spend k, blockMsgs n (b.fifo.take k))

/-- A WRITING bay stays under refill hold with these blocks in its FIFO (R115). -/
def Bay.waitsRefill (length : Nat) (b : Bay) : Bool :=
  b.refillHold && decide (b.fifo.length < min Config.resumeBlocks (length - b.sentBlocks))

/-- What a WRITING bay does once blocks have come to its FIFO (R114, R115). -/
def Bay.refilled (n : BayId) (length : Nat) (b : Bay) : Bay × List OutMsg :=
  if b.waitsRefill length then (b, []) else { b with refillHold := false }.sending n length

namespace State
variable {s t : State} {n : BayId} {x : FeedBlock} {xs ys : List FeedBlock} {b b' b₁ b₂ : Bay} {ms ms' : List OutMsg}

theorem acts_acts : (s.acts n b ms).acts n b' ms' = s.acts n b' (ms ++ ms') := by
  unfold acts
  rw [emits_modBay, emits_emits, State.modBay_modBay]

theorem bay_acts : (s.acts n b ms).bay n = b := bay_modBay_self ..

theorem bay_acts_ne {m : BayId} (h : m ≠ n) : (s.acts n b ms).bay m = s.bay m := bay_modBay_ne h _ (s.emits ms)

theorem acts_of_modBay {f : Bay → Bay} (h : f (s.bay n) = b) : (s.emits ms).modBay n f = s.acts n b ms := modBay_congr h

theorem acts_self (h : s.bay n = b) : s.acts n b [] = s := by
  subst h
  unfold acts
  rw [modBay_eq_self (by rfl)]
  simp [emits]

theorem acts_modBay {f : Bay → Bay} : (s.acts n b ms).modBay n f = s.acts n (f b) ms := State.modBay_modBay ..

theorem acts_toBay {m : BayMsg} : (s.acts n b ms).toBay n m = s.acts n b (ms ++ [.bay n m]) := by
  unfold acts
  rw [← toBay_emits]
  rfl

theorem acts_emits : (s.emits ms).acts n b ms' = s.acts n b (ms ++ ms') := by
  unfold acts
  rw [emits_emits]

theorem emits_nil : s.emits [] = s := by simp [emits]

theorem Delivers.append (h : s.Delivers n b xs b₁ ms) (k : s.Delivers n b₁ ys b₂ ms') :
    s.Delivers n b (xs ++ ys) b₂ (ms ++ ms') := by
  induction h with
  | nil => exact k
  | cons first _ ih =>
    rw [List.append_assoc]
    exact .cons first (ih k)

theorem Delivers.single
    (h : ∀ t : State, t.feedView = s.feedView → t.bay n = b → t.deliverBlock n x.index x.data = t.acts n b₁ ms) :
    s.Delivers n b [x] b₁ ms := by
  simpa using Delivers.cons h (.nil b₁)

theorem lengthAt_of_view (h : t.feedView = s.feedView) : t.lengthAt n = s.lengthAt n := by
  simp only [feedView, Prod.mk.injEq] at h
  obtain ⟨discs, jsc, cat, -⟩ := h
  obtain ⟨p, sent, due, ports, sst, jsc', discs', cat', ipt, smc, mem, rgu, fdr, bays, tsq, psc⟩ := t
  cases discs
  cases jsc
  cases cat
  rfl

theorem verifyCtx_of_view (h : t.feedView = s.feedView) : t.verifyCtx n = s.verifyCtx n := by
  simp only [feedView, Prod.mk.injEq] at h
  obtain ⟨discs, jsc, cat, -⟩ := h
  obtain ⟨p, sent, due, ports, sst, jsc', discs', cat', ipt, smc, mem, rgu, fdr, bays, tsq, psc⟩ := t
  cases discs
  cases jsc
  cases cat
  rfl

/-! ### One block -/

theorem deliverBlock_eq (h : t.bay n = b) : t.deliverBlock n x.index x.data =
    (match b.state with
    | .prefill => (t.acts n (b.takesIn [x]) []).prefillTest n
    | .writing => (t.acts n (b.takesIn [x]) []).refillTest n
    | .verifying => judgeWaiting n 2 (t.acts n (b.takesIn [x]) [])
    | _ => t.acts n (b.takesIn [x]) []) := by
  have into : t.modBay n (fun b => { b with fifo := b.fifo ++ [{ index := x.index, data := x.data }] }) =
      t.acts n (b.takesIn [x]) [] := by
    subst h
    unfold acts
    rw [emits_nil]
    exact modBay_congr rfl
  unfold deliverBlock
  dsimp only
  rw [into, bay_acts]
  rfl

/-- What a WRITING bay that is not under refill hold sends (R114). -/
theorem sendBlocks_eq (hb : t.bay n = b) (h : b.state = .writing) (free : b.refillHold = false) :
    t.sendBlocks n = t.acts n (b.sending n (t.lengthAt n)).1 (b.sending n (t.lengthAt n)).2 := by
  subst hb
  unfold Bay.sending
  dsimp only
  by_cases whole : t.lengthAt n ≤ (t.bay n).sentBlocks + min (t.bay n).wantCredit (t.bay n).fifo.length
  · rw [if_pos whole, sendBlocks_of_whole h free rfl whole]
    exact acts_of_modBay rfl
  · rw [if_neg whole, sendBlocks_of_short h free rfl (Nat.lt_of_not_le whole)]
    exact acts_of_modBay rfl

theorem deliverBlock_fills (hb : t.bay n = b) (h : b.state = .prefill)
    (below : b.fifo.length + 1 < min 48 (t.lengthAt n)) :
    t.deliverBlock n x.index x.data = t.acts n (b.takesIn [x]) [] := by
  rw [deliverBlock_eq hb, h]
  dsimp only
  unfold prefillTest
  dsimp only
  rw [bay_acts, if_neg (by
    simp only [Bay.takesIn, List.length_append, List.length_singleton]
    exact Nat.not_le.2 below)]

theorem deliverBlock_begins (hb : t.bay n = b) (h : b.state = .prefill) (free : b.refillHold = false)
    (reached : min 48 (t.lengthAt n) ≤ b.fifo.length + 1) :
    t.deliverBlock n x.index x.data =
      t.acts n (({ b.takesIn [x] with state := .writing } : Bay).sending n (t.lengthAt n)).1
        (.bay n (.burnStart (t.lengthAt n)) :: (({ b.takesIn [x] with state := .writing } : Bay).sending n (t.lengthAt n)).2) := by
  rw [deliverBlock_eq hb, h]
  dsimp only
  unfold prefillTest
  dsimp only
  rw [bay_acts, if_pos (by
    simp only [Bay.takesIn, List.length_append, List.length_singleton]
    exact reached)]
  rw [acts_toBay, bayTo, acts_modBay, sendBlocks_eq bay_acts rfl (by exact free), acts_acts]
  rfl

theorem deliverBlock_refills (hb : t.bay n = b) (h : b.state = .writing) :
    t.deliverBlock n x.index x.data =
      t.acts n ((b.takesIn [x]).refilled n (t.lengthAt n)).1 ((b.takesIn [x]).refilled n (t.lengthAt n)).2 := by
  rw [deliverBlock_eq hb, h]
  dsimp only
  unfold refillTest resumeAt Bay.refilled Bay.waitsRefill
  dsimp only
  rw [bay_acts, show (t.acts n (b.takesIn [x]) []).lengthAt n = t.lengthAt n from rfl]
  by_cases reached : min Config.resumeBlocks (t.lengthAt n - (b.takesIn [x]).sentBlocks) ≤ (b.takesIn [x]).fifo.length
  · rw [if_pos reached, acts_modBay, decide_eq_false (Nat.not_lt.2 reached), Bool.and_false, if_neg (by simp),
      sendBlocks_eq bay_acts (by exact h) rfl, acts_acts]
    rfl
  · rw [if_neg reached, decide_eq_true (Nat.lt_of_not_le reached), Bool.and_true]
    by_cases hold : (b.takesIn [x]).refillHold = true
    · rw [if_pos hold, sendBlocks_of_held (by rw [bay_acts]; exact hold)]
    · have free : b.refillHold = false := by simpa [Bay.takesIn] using hold
      have same : ({ b.takesIn [x] with refillHold := false } : Bay) = b.takesIn [x] := by
        unfold Bay.takesIn
        rw [← free]
      rw [if_neg hold, sendBlocks_eq bay_acts (by exact h) (by exact free), acts_acts, same]
      rfl

end State

/-! ### Several blocks -/

namespace Bay
variable {n : BayId} {length : Nat} {b : Bay} {xs ys : List FeedBlock}

theorem takesIn_takesIn : (b.takesIn xs).takesIn ys = b.takesIn (xs ++ ys) := by
  unfold takesIn
  rw [List.append_assoc]

theorem takesIn_nil : b.takesIn [] = b := by
  unfold takesIn
  rw [List.append_nil]

theorem sending_of_short (short : b.sentBlocks + b.fifo.length < length) : b.sending n length =
    (b.spend (min b.wantCredit b.fifo.length), blockMsgs n (b.fifo.take (min b.wantCredit b.fifo.length))) := by
  refine if_neg ?_
  omega

/-- What is sent block by block is what is sent of all the blocks at once (R114). -/
theorem sending_append (short : b.sentBlocks + b.fifo.length < length) :
    (((b.sending n length).1.takesIn ys).sending n length).1 = ((b.takesIn ys).sending n length).1 ∧
      (b.sending n length).2 ++ (((b.sending n length).1.takesIn ys).sending n length).2 =
        ((b.takesIn ys).sending n length).2 := by
  rw [sending_of_short short]
  dsimp only
  generalize hk : min b.wantCredit b.fifo.length = k
  have within : k ≤ b.fifo.length := by omega
  have fifo : ((b.spend k).takesIn ys).fifo = (b.fifo ++ ys).drop k := (List.drop_append_of_le_length within).symm
  generalize hk' : min ((b.spend k).takesIn ys).wantCredit ((b.spend k).takesIn ys).fifo.length = k'
  have total : min (b.takesIn ys).wantCredit (b.takesIn ys).fifo.length = k + k' := by
    rw [← hk', fifo, List.length_drop]
    change min b.wantCredit (b.fifo ++ ys).length = k + min (b.wantCredit - k) ((b.fifo ++ ys).length - k)
    rw [List.length_append]
    omega
  have spent : ((b.spend k).takesIn ys).spend k' = (b.takesIn ys).spend (k + k') := by
    have drops : ((b.spend k).takesIn ys).fifo.drop k' = (b.fifo ++ ys).drop (k + k') := by rw [fifo, List.drop_drop]
    unfold spend at drops ⊢
    rw [drops]
    unfold takesIn
    dsimp only
    rw [Nat.sub_sub, Nat.add_assoc]
  have msgs : blockMsgs n (b.fifo.take k) ++ blockMsgs n (((b.spend k).takesIn ys).fifo.take k') =
      blockMsgs n ((b.takesIn ys).fifo.take (k + k')) := by
    have taken : b.fifo.take k = (b.fifo ++ ys).take k := (List.take_append_of_le_length within).symm
    rw [fifo, taken]
    unfold blockMsgs takesIn
    rw [← List.map_append, ← List.take_add]
  have sent : ((b.spend k).takesIn ys).sentBlocks + k' = (b.takesIn ys).sentBlocks + (k + k') := Nat.add_assoc ..
  unfold sending
  dsimp only
  rw [hk', total, sent, spent]
  split
  · exact ⟨rfl, by rw [← List.append_assoc, msgs]⟩
  · exact ⟨rfl, msgs⟩

theorem refilled_of_free (free : b.refillHold = false) : b.refilled n length = b.sending n length := by
  have same : ({ b with refillHold := false } : Bay) = b := by rw [← free]
  unfold refilled waitsRefill
  rw [free, if_neg (by simp), same]

/-- A bay that is not under refill hold stays so with more blocks in its FIFO (R115). -/
theorem waitsRefill_takesIn (h : ¬ b.waitsRefill length = true) : ¬ (b.takesIn xs).waitsRefill length = true := by
  unfold waitsRefill at h ⊢
  intro k
  obtain ⟨hold, below⟩ := Bool.and_eq_true_iff.1 k
  refine h (Bool.and_eq_true_iff.2 ⟨hold, decide_eq_true ?_⟩)
  have := of_decide_eq_true below
  simp only [takesIn, List.length_append] at this
  omega

end Bay

namespace State
variable {s t : State} {n : BayId} {x : FeedBlock} {xs : List FeedBlock} {b : Bay}

/-- Blocks that a PREFILL bay takes in below its threshold (R113). -/
theorem delivers_of_filling (h : b.state = .prefill) (below : b.fifo.length + xs.length < min 48 (s.lengthAt n)) :
    s.Delivers n b xs (b.takesIn xs) [] := by
  induction xs generalizing b with
  | nil =>
    rw [Bay.takesIn_nil]
    exact .nil b
  | cons x xs ih =>
    have more : (b.takesIn [x]).fifo.length + xs.length < min 48 (s.lengthAt n) := by
      simp only [Bay.takesIn, List.length_append, List.length_singleton]
      simp only [List.length_cons] at below
      omega
    have rest := ih (b := b.takesIn [x]) h more
    rw [Bay.takesIn_takesIn] at rest
    refine Delivers.cons (ms := []) (fun t view bay => deliverBlock_fills bay h ?_) rest
    rw [lengthAt_of_view view]
    simp only [List.length_cons] at below
    omega

/-- Blocks that come to a WRITING bay (R114, R115). -/
theorem delivers_of_writing (h : b.state = .writing) (some_ : xs ≠ [])
    (fits : b.sentBlocks + (b.fifo.length + xs.length) ≤ s.lengthAt n) :
    s.Delivers n b xs ((b.takesIn xs).refilled n (s.lengthAt n)).1 ((b.takesIn xs).refilled n (s.lengthAt n)).2 := by
  induction xs generalizing b with
  | nil => exact absurd rfl some_
  | cons x xs ih =>
    have first : ∀ t : State, t.feedView = s.feedView → t.bay n = b → t.deliverBlock n x.index x.data =
        t.acts n ((b.takesIn [x]).refilled n (s.lengthAt n)).1 ((b.takesIn [x]).refilled n (s.lengthAt n)).2 :=
      fun t view bay => lengthAt_of_view view ▸ deliverBlock_refills bay h
    by_cases last : xs = []
    · subst last
      exact .single first
    · have short : (b.takesIn [x]).sentBlocks + (b.takesIn [x]).fifo.length < s.lengthAt n := by
        have := List.length_pos_iff.2 last
        simp only [Bay.takesIn, List.length_append, List.length_singleton]
        simp only [List.length_cons] at fits
        omega
      have all : b.takesIn (x :: xs) = (b.takesIn [x]).takesIn xs :=
        (Bay.takesIn_takesIn (xs := [x]) (ys := xs)).symm
      rw [all]
      by_cases waits : (b.takesIn [x]).waitsRefill (s.lengthAt n) = true
      · have held : (b.takesIn [x]).refilled n (s.lengthAt n) = (b.takesIn [x], []) := if_pos waits
        rw [held] at first
        refine .cons (ms := []) first (ih h last ?_)
        simp only [Bay.takesIn, List.length_append, List.length_singleton]
        simp only [List.length_cons] at fits
        omega
      · have goes : (b.takesIn [x]).refilled n (s.lengthAt n) = ({ b.takesIn [x] with refillHold := false } : Bay).sending n
            (s.lengthAt n) := if_neg waits
        have still : ((b.takesIn [x]).takesIn xs).refilled n (s.lengthAt n) =
            (({ b.takesIn [x] with refillHold := false } : Bay).takesIn xs).sending n (s.lengthAt n) :=
          if_neg (Bay.waitsRefill_takesIn waits)
        obtain ⟨bay, msgs⟩ := Bay.sending_append (n := n) (length := s.lengthAt n) (ys := xs)
          (b := { b.takesIn [x] with refillHold := false }) short
        have sends := Bay.sending_of_short (n := n) (length := s.lengthAt n) (b := { b.takesIn [x] with refillHold := false })
          short
        rw [goes] at first
        rw [still, ← msgs, ← bay]
        refine .cons first ?_
        rw [sends]
        dsimp only
        rw [← Bay.refilled_of_free (n := n) rfl]
        refine ih h last ?_
        simp only [Bay.spend, Bay.takesIn, List.length_drop, List.length_append, List.length_singleton]
        simp only [List.length_cons] at fits
        omega

/-- Blocks that bring a PREFILL bay to its threshold begin the write (R113, R114). -/
theorem delivers_of_beginning (h : b.state = .prefill) (free : b.refillHold = false)
    (below : b.fifo.length < min 48 (s.lengthAt n)) (reached : min 48 (s.lengthAt n) ≤ b.fifo.length + xs.length)
    (fits : b.sentBlocks + (b.fifo.length + xs.length) ≤ s.lengthAt n) :
    s.Delivers n b xs (({ b.takesIn xs with state := .writing } : Bay).sending n (s.lengthAt n)).1
      (.bay n (.burnStart (s.lengthAt n)) :: (({ b.takesIn xs with state := .writing } : Bay).sending n (s.lengthAt n)).2) := by
  induction xs generalizing b with
  | nil => exact absurd reached (Nat.not_le.2 below)
  | cons x xs ih =>
    have all : b.takesIn (x :: xs) = (b.takesIn [x]).takesIn xs := (Bay.takesIn_takesIn (xs := [x]) (ys := xs)).symm
    have length : (b.takesIn [x]).fifo.length = b.fifo.length + 1 := by
      simp only [Bay.takesIn, List.length_append, List.length_singleton]
    simp only [List.length_cons] at reached fits
    rw [all]
    by_cases more : b.fifo.length + 1 < min 48 (s.lengthAt n)
    · exact .cons (ms := []) (fun t view bay => deliverBlock_fills bay h (by rwa [lengthAt_of_view view]))
        (ih (b := b.takesIn [x]) h free (by omega) (by omega) (by change b.sentBlocks + _ ≤ _; omega))
    · have first : ∀ t : State, t.feedView = s.feedView → t.bay n = b → t.deliverBlock n x.index x.data =
          t.acts n (({ b.takesIn [x] with state := .writing } : Bay).sending n (s.lengthAt n)).1
            (.bay n (.burnStart (s.lengthAt n)) ::
              (({ b.takesIn [x] with state := .writing } : Bay).sending n (s.lengthAt n)).2) :=
        fun t view bay => lengthAt_of_view view ▸
          deliverBlock_begins bay h free (by rw [lengthAt_of_view view]; exact Nat.not_lt.1 more)
      by_cases last : xs = []
      · subst last
        rw [Bay.takesIn_nil]
        exact .single first
      · have short : (b.takesIn [x]).sentBlocks + (b.takesIn [x]).fifo.length < s.lengthAt n := by
          have := List.length_pos_iff.2 last
          change b.sentBlocks + _ < _
          omega
        obtain ⟨bay, msgs⟩ := Bay.sending_append (n := n) (length := s.lengthAt n) (ys := xs)
          (b := { b.takesIn [x] with state := .writing }) short
        have sends := Bay.sending_of_short (n := n) (length := s.lengthAt n) (b := { b.takesIn [x] with state := .writing })
          short
        change s.Delivers n b (x :: xs)
          ((({ b.takesIn [x] with state := .writing } : Bay).takesIn xs).sending n (s.lengthAt n)).1
          (_ :: ((({ b.takesIn [x] with state := .writing } : Bay).takesIn xs).sending n (s.lengthAt n)).2)
        rw [← msgs, ← bay]
        refine .cons first ?_
        rw [sends]
        dsimp only
        rw [← Bay.refilled_of_free (n := n) (by exact free)]
        refine delivers_of_writing rfl last ?_
        simp only [Bay.spend, Bay.takesIn, List.length_drop, List.length_append, List.length_singleton]
        omega

end State

end Sys2Proof.Machine
end

section
/-! PROOFS. Deliveries to a bay in VERIFYING (R138, R142 to R144): blocks that wait in its feed FIFO, and blocks that the
entries of its holding buffer are judged against. -/

namespace Sys2Proof.Machine

open State

/-- A bay that has sent READ-GO, if it held its drive in READING (R138). -/
def Bay.went (b : Bay) : Bay :=
  if b.engine.held = true ∧ b.engine.phase = .reading then { b with timers.read := some 10000, engine.held := false } else b

/-- The READ-GO of a bay that held its drive in READING (R138). -/
def Bay.goMsgs (n : BayId) (b : Bay) : List OutMsg :=
  if b.engine.held = true ∧ b.engine.phase = .reading then [.bay n .readGo] else []

/-- A bay that has judged a block, with these entries left in its holding buffer (R138). -/
def Bay.judgedTo (v : VerifyCtx) (rest : List HeldBlock) (b : Bay) : Bay :=
  ({ b with
    fifo := [], holding := rest
    engine := { b.engine with comparePos := nextInVerifySet v.sampleK v.stop b.engine.comparePos } } : Bay).went

/-- A bay with a block at the head of its FIFO and the entry that is judged out of its buffer. -/
def Bay.judging (x : FeedBlock) (rest : List HeldBlock) (b : Bay) : Bay := { b with fifo := [x], holding := rest }

theorem Bay.went_of_still {b : Bay} (h : ¬ (b.engine.held = true ∧ b.engine.phase = .reading)) :
    b.went = b := if_neg h

theorem Bay.judgedTo_holding (v : VerifyCtx) (rest : List HeldBlock) (b : Bay) : (b.judgedTo v rest).holding = rest := by
  unfold judgedTo went
  split <;> rfl

theorem Bay.judgedTo_comparePos (v : VerifyCtx) (rest : List HeldBlock) (b : Bay) :
    (b.judgedTo v rest).engine.comparePos = nextInVerifySet v.sampleK v.stop b.engine.comparePos := by
  unfold judgedTo went
  split <;> rfl

theorem Bay.judgedTo_kept (v : VerifyCtx) (rest : List HeldBlock) (b : Bay) : (b.judgedTo v rest).state = b.state ∧
    (b.judgedTo v rest).fifo = [] ∧ (b.judgedTo v rest).engine.phase = b.engine.phase ∧
    ¬ ((b.judgedTo v rest).engine.held = true ∧ (b.judgedTo v rest).engine.phase = .reading) := by
  unfold judgedTo went
  split
  next h => exact ⟨rfl, rfl, rfl, fun k => by cases k.1⟩
  next h => exact ⟨rfl, rfl, rfl, h⟩

namespace State
variable {s t : State} {n : BayId} {x : FeedBlock} {xs : List FeedBlock} {e : HeldBlock} {rest : List HeldBlock} {b : Bay}
  {v : VerifyCtx} {k : Nat}

/-! ### Nothing to judge -/

theorem judgeWaiting_of_empty (h : (t.bay n).holding = []) : judgeWaiting n k t = t := by
  cases k with
  | zero => rfl
  | succ k =>
    unfold judgeWaiting
    dsimp only
    split
    next hh _ => rw [h] at hh; cases hh
    · rfl

theorem judgeWaiting_of_dry (h : (t.bay n).fifo = []) : judgeWaiting n k t = t := by
  cases k with
  | zero => rfl
  | succ k =>
    unfold judgeWaiting
    dsimp only
    split
    next hf => rw [h] at hf; cases hf
    · rfl

theorem judgeWaiting_of_phase (h : (t.bay n).engine.phase ≠ .reading) (h' : (t.bay n).engine.phase ≠ .tail) :
    judgeWaiting n k t = t := by
  cases k with
  | zero => rfl
  | succ k =>
    unfold judgeWaiting
    dsimp only
    split
    · exact if_neg fun c => c.2.1.elim h h'
    · rfl

/-- A block that no entry waits for lies in the FIFO (R138). -/
theorem deliverBlock_waits (hb : t.bay n = b) (h : b.state = .verifying)
    (idle : b.holding = [] ∨ (b.engine.phase ≠ .reading ∧ b.engine.phase ≠ .tail)) :
    t.deliverBlock n x.index x.data = t.acts n (b.takesIn [x]) [] := by
  rw [deliverBlock_eq hb, h]
  rcases idle with empty | ⟨reading, tail⟩
  · exact judgeWaiting_of_empty (by rw [bay_acts]; exact empty)
  · exact judgeWaiting_of_phase (by rw [bay_acts]; exact reading) (by rw [bay_acts]; exact tail)

theorem delivers_of_idle (h : b.state = .verifying)
    (idle : b.holding = [] ∨ (b.engine.phase ≠ .reading ∧ b.engine.phase ≠ .tail)) :
    s.Delivers n b xs (b.takesIn xs) [] := by
  induction xs generalizing b with
  | nil =>
    rw [Bay.takesIn_nil]
    exact .nil b
  | cons x xs ih =>
    have rest := ih (b := b.takesIn [x]) h idle
    rw [Bay.takesIn_takesIn] at rest
    exact .cons (ms := []) (fun t _ bay => deliverBlock_waits bay h idle) rest

/-! ### A judgement -/

/-- A bay sends READ-GO once a slot of its buffer is free (R138). -/
theorem readGo_eq {u : State} {c : Bay} (hc : u.bay n = c) (room : c.holding.length < 2) :
    u.readGo n = u.acts n c.went (c.goMsgs n) := by
  subst hc
  unfold Bay.went Bay.goMsgs
  by_cases go : (u.bay n).engine.held = true ∧ (u.bay n).engine.phase = .reading
  · rw [if_pos go, if_pos go, readGo_of_held go.1 go.2 room]
    exact acts_of_modBay rfl
  · rw [if_neg go, if_neg go, acts_self rfl]
    by_cases on : (u.bay n).engine.held = true
    · exact readGo_of_other fun k => go ⟨on, k⟩
    · exact readGo_of_free (by simpa using on)

theorem judging_unequal (unequal : ¬ (e.index = b.engine.comparePos ∧ e.status = .ok ∧ e.data = x.data)) :
    judgesEqual ((t.acts n (b.judging x rest) []).bay n).engine.comparePos e x = false := by
  rw [bay_acts, Bool.eq_false_iff, Ne, judgesEqual_iff]
  exact unequal

section
variable (hb : t.bay n = b) (h : b.state = .verifying) (hv : t.verifyCtx n = some v)
  (hp : b.engine.phase = .reading ∨ b.engine.phase = .tail) (dry : b.fifo = []) (held : b.holding = e :: rest)
  (at_ : x.index = b.engine.comparePos)
include hb h hv hp dry held at_

/-- The first entry that waits is judged against the block delivered (R138). -/
theorem deliverBlock_judges : t.deliverBlock n x.index x.data =
    judgeWaiting n 1 ((t.acts n (b.judging x rest) []).judge n v e x) := by
  have into : b.takesIn [x] = { b with fifo := [x] } := by
    unfold Bay.takesIn
    rw [dry]
    rfl
  rw [deliverBlock_eq hb, h, into, judgeWaiting]
  dsimp only
  rw [bay_acts]
  have ctx : (t.acts n { b with fifo := [x] } []).verifyCtx n = some v := hv
  rw [ctx]
  dsimp only
  rw [held]
  dsimp only
  rw [if_pos ⟨h, hp, at_⟩, acts_modBay]
  rfl

/-- A match moves the compare position on (R138). -/
theorem deliverBlock_equal (room : rest.length < 2) (equal : e.index = x.index ∧ e.status = .ok ∧ e.data = x.data) :
    t.deliverBlock n x.index x.data =
      judgeWaiting n 1 ((t.acts n (b.judgedTo v rest) (b.goMsgs n)).endTest n v) := by
  rw [deliverBlock_judges hb h hv hp dry held at_, judge_of_equal (by
    rw [bay_acts]
    exact judgesEqual_iff.2 ⟨equal.1.trans at_, equal.2⟩), acts_modBay, readGo_eq bay_acts room, acts_acts]
  rfl

section
variable (unequal : ¬ (e.index = b.engine.comparePos ∧ e.status = .ok ∧ e.data = x.data))
include unequal

/-- A mismatch is counted, and the compare position moves on (R143). -/
theorem deliverBlock_counts (room : rest.length < 2) (mode : v.mode = .count ∨ ∃ k, v.mode = .sample k) :
    t.deliverBlock n x.index x.data = judgeWaiting n 1
      (((t.modDisc v.disc (Disc.mismatch b.engine.comparePos 1)).acts n (b.judgedTo v rest) (b.goMsgs n)).endTest n v) := by
  have counted : ((t.acts n (b.judging x rest) []).modDisc v.disc (Disc.mismatch b.engine.comparePos 1)).modBay n (passHead v) =
      (t.modDisc v.disc (Disc.mismatch b.engine.comparePos 1)).acts n (passHead v (b.judging x rest)) [] :=
    acts_modBay (s := t.modDisc v.disc (Disc.mismatch b.engine.comparePos 1))
  rw [deliverBlock_judges hb h hv hp dry held at_, judge_of_counts (judging_unequal unequal) mode,
    bay_acts]
  rw [show (b.judging x rest).engine.comparePos = b.engine.comparePos from rfl, counted, readGo_eq bay_acts room, acts_acts]
  rfl

theorem deliverBlock_stops (mode : v.mode = .stop) :
    t.deliverBlock n x.index x.data =
      judgeWaiting n 1 ((t.acts n (b.judging x rest) []).stopMismatch n v) := by
  rw [deliverBlock_judges hb h hv hp dry held at_, judge_of_stop (judging_unequal unequal) mode]

/-- A mismatch of a RETRY verify starts the re-read of its block (R144). -/
theorem deliverBlock_retries (mode : v.mode = .retry) :
    t.deliverBlock n x.index x.data =
      if b.engine.phase = .reading then
        t.acts n { (b.judging x rest).retries with
          timers.read := some 10000, engine := { (b.judging x rest).retries.engine with phase := .halting } }
          [.bay n .readHalt]
      else
        t.acts n { (b.judging x rest).retries with
          timers.read := some 10000
          engine := { (b.judging x rest).retries.engine with phase := .reread, attemptRead := false } }
          [.bay n (.readStart b.engine.comparePos 1)] := by
  rw [deliverBlock_judges hb h hv hp dry held at_, judge_of_retry (judging_unequal unequal) mode]
  by_cases reading : b.engine.phase = .reading
  · rw [if_pos reading, startRetry_of_reading (by rw [bay_acts]; exact reading), acts_toBay, acts_modBay]
    exact judgeWaiting_of_empty (by rw [bay_acts]; rfl)
  · rw [if_neg reading, startRetry_of_other (by rw [bay_acts]; exact reading), bay_acts, acts_toBay, acts_modBay]
    exact judgeWaiting_of_empty (by rw [bay_acts]; rfl)

end

end

/-- A judgement that leaves the verify going (R138). -/
theorem judgeWaiting_of_open {u : State}
    (hu : u.bay n = b.judgedTo v rest) (more : nextInVerifySet v.sampleK v.stop b.engine.comparePos < v.stop ∨ rest ≠ []) :
    judgeWaiting n k (u.endTest n v) = u := by
  rw [endTest_of_open (by rw [hu, Bay.judgedTo_comparePos, Bay.judgedTo_holding]; exact more)]
  exact judgeWaiting_of_dry (by rw [hu]; exact (Bay.judgedTo_kept v rest b).2.1)

end State

/-! ### Several judgements -/

/-- A bay that has judged its first entries against blocks that match (R138). -/
def Bay.judgedMany (v : VerifyCtx) (k : Nat) (xs : List FeedBlock) (b : Bay) : Bay :=
  let c : Bay := if k = 0 then b else b.went
  { c with
    fifo := xs.drop k, holding := b.holding.drop k
    engine := { c.engine with comparePos := (nextInVerifySet v.sampleK v.stop)^[k] b.engine.comparePos } }

theorem Bay.judgedMany_zero {v : VerifyCtx} {xs : List FeedBlock} {b : Bay} (dry : b.fifo = []) :
    b.judgedMany v 0 xs = b.takesIn xs := by
  unfold takesIn
  rw [dry]
  rfl

theorem Bay.judgedMany_succ {v : VerifyCtx} {k : Nat} {x : FeedBlock} {xs : List FeedBlock} {e : HeldBlock}
    {rest : List HeldBlock} {b : Bay} (held : b.holding = e :: rest) :
    b.judgedMany v (k + 1) (x :: xs) = (b.judgedTo v rest).judgedMany v k xs := by
  have still : (if k = 0 then b.judgedTo v rest else (b.judgedTo v rest).went) = b.judgedTo v rest := by
    rw [went_of_still (judgedTo_kept v rest b).2.2.2, ite_self]
  rw [judgedMany, judgedMany, still, judgedTo_holding, judgedTo_comparePos, held]
  dsimp only
  rw [if_neg (Nat.succ_ne_zero k), List.drop_succ_cons, List.drop_succ_cons, Function.iterate_succ_apply]
  unfold judgedTo went
  by_cases go : b.engine.held = true ∧ b.engine.phase = .reading
  · rw [if_pos go, if_pos go]
  · rw [if_neg go, if_neg go]

namespace State
variable {s t : State} {n : BayId} {x : FeedBlock} {xs : List FeedBlock} {e : HeldBlock} {es rest : List HeldBlock} {b : Bay}
  {v : VerifyCtx} {k : Nat}

/-- Blocks that match the entries that wait, and blocks after them (R138). -/
theorem delivers_of_matching (hv : s.verifyCtx n = some v) (h : b.state = .verifying)
    (hp : b.engine.phase = .reading ∨ b.engine.phase = .tail) (dry : b.fifo = []) (held : b.holding = es)
    (two : es.length ≤ 2) (hk : min es.length xs.length = k)
    (matches_ : ∀ i e x, i < k → es[i]? = some e → xs[i]? = some x →
      x.index = (nextInVerifySet v.sampleK v.stop)^[i] b.engine.comparePos ∧ e.index = x.index ∧ e.status = .ok ∧
        e.data = x.data)
    (more : k = 0 ∨ (nextInVerifySet v.sampleK v.stop)^[k] b.engine.comparePos < v.stop ∨ k < es.length) :
    s.Delivers n b xs (b.judgedMany v k xs) (if k = 0 then [] else b.goMsgs n) := by
  induction es generalizing b xs k with
  | nil =>
    obtain rfl : k = 0 := by simpa using hk.symm
    rw [Bay.judgedMany_zero dry]
    exact delivers_of_idle h (.inl held)
  | cons e rest ih =>
    cases xs with
    | nil =>
      obtain rfl : k = 0 := by simpa using hk.symm
      rw [Bay.judgedMany_zero dry, Bay.takesIn_nil]
      exact .nil b
    | cons x xs =>
      obtain ⟨k, rfl⟩ : ∃ j, k = j + 1 := ⟨min rest.length xs.length, by simp only [List.length_cons] at hk; omega⟩
      obtain ⟨state, fifo, phase, still⟩ := Bay.judgedTo_kept v rest b
      obtain ⟨at_, equal⟩ := matches_ 0 e x (by omega) rfl rfl
      have hk' : min rest.length xs.length = k := by simp only [List.length_cons] at hk; omega
      have goes : nextInVerifySet v.sampleK v.stop b.engine.comparePos < v.stop ∨ rest ≠ [] := by
        by_cases last : rest = []
        · subst last
          obtain rfl : k = 0 := by simpa using hk'.symm
          simpa using more
        · exact .inr last
      simp only [List.length_cons] at two more
      have later := ih (b := b.judgedTo v rest) (xs := xs) (k := k) (state.trans h) (phase ▸ hp) fifo
        (Bay.judgedTo_holding v rest b) (by omega) hk' (fun i e' x' lt he hx => by
          have := matches_ (i + 1) e' x' (by omega) (by simpa using he) (by simpa using hx)
          rwa [Function.iterate_succ_apply, ← Bay.judgedTo_comparePos v rest b] at this)
        (by
          rw [Bay.judgedTo_comparePos, ← Function.iterate_succ_apply]
          exact more.elim (fun h => absurd h (Nat.succ_ne_zero k)) fun h =>
            .inr (h.imp id fun lt => Nat.lt_of_succ_lt_succ lt))
      have quiet : (if k = 0 then [] else (b.judgedTo v rest).goMsgs n) = [] := by
        rw [Bay.goMsgs, if_neg still, ite_self]
      rw [quiet] at later
      rw [Bay.judgedMany_succ held, if_neg (Nat.succ_ne_zero k), ← List.append_nil (b.goMsgs n)]
      refine .cons (fun t view bay => ?_) later
      rw [deliverBlock_equal bay h ((verifyCtx_of_view view).trans hv) hp dry held at_ (by omega) equal]
      exact judgeWaiting_of_open bay_acts goes

end State

end Sys2Proof.Machine
end

section
/-! PROOFS. The completion of a stream's reads (R98, R100): the blocks of a burst, the end of a stream with its release, and
what a delivery leaves for the next step. -/

namespace Sys2Proof.Machine

open State

namespace State
variable {s t e : State} {n m : BayId} {x y : Stream} {b b' : Bay} {ms : List OutMsg}

/-! ### The blocks of a burst -/

/-- Blocks of an image, as staging memory holds them. -/
def blocksFrom (s : State) (image first count : Nat) : List FeedBlock :=
  (List.range count).map (fun i => { index := first + i, data := s.loadBlock image (first + i) })

theorem blocksFrom_succ (image first count : Nat) (s : State) : s.blocksFrom image first (count + 1) =
    { index := first, data := s.loadBlock image first } :: s.blocksFrom image (first + 1) count := by
  unfold blocksFrom
  rw [List.range_succ_eq_map, List.map_cons, List.map_map]
  refine congrArg₂ List.cons rfl (List.map_congr_left fun k _ => ?_)
  rw [Function.comp_apply, Nat.succ_eq_add_one, Nat.add_assoc, Nat.add_comm 1 k]

theorem setStream_self {x : Option Stream} (h : s.stream n = x) : s.setStream n x = s := by
  subst h
  have same : s.fdr.streams.set n (s.stream n) = s.fdr.streams := Vector.set_getElem_self ..
  unfold setStream
  rw [same]

theorem setStream_setStream {x y : Option Stream} : (s.setStream n x).setStream n y = s.setStream n y := by
  have same : (s.fdr.streams.set n x).set n y = s.fdr.streams.set n y := Vector.set_set ..
  unfold setStream
  dsimp only
  rw [same]

theorem acts_setStream {x : Option Stream} : (s.acts n b ms).setStream n x = (s.setStream n x).acts n b ms := rfl

theorem modStream_of_some {f : Stream → Stream} (h : s.stream n = some x) : s.modStream n f = s.setStream n (some (f x)) := by
  rw [modStream, h]
  rfl

theorem loadBlock_of_view {i k : Nat} (h : t.feedView = s.feedView) : t.loadBlock i k = s.loadBlock i k := by
  simp only [feedView, Prod.mk.injEq] at h
  obtain ⟨-, -, cat, mem, -⟩ := h
  unfold loadBlock addressOf image?
  rw [cat, mem]

theorem servedFate_of_view (h : t.feedView = s.feedView) : t.servedFate = s.servedFate := by
  simp only [feedView, Prod.mk.injEq] at h
  unfold servedFate
  rw [h.2.2.2.2]

theorem headD_eq_getD (ws : List WordDamage) : ws.headD .clean = ws.getD 0 .clean := by cases ws <;> rfl

theorem getD_drop_one (ws : List WordDamage) (i : Nat) : (ws.drop 1).getD i .clean = ws.getD (i + 1) .clean := by
  cases ws <;> rfl

theorem blockGood_of_ne {w : WordDamage} (h : w ≠ .twoBits) : blockGood w = true := by cases w <;> simp_all [blockGood]

/-- The good blocks of a burst are delivered in index order, and leave the count in flight (R98). -/
theorem takeBlocks_of_delivers {image count first : Nat} {ws : List WordDamage} (fate : s.servedFate = .deliver)
    (good : ∀ i, i < count → ws.getD i .clean ≠ .twoBits) (d : s.Delivers n b (s.blocksFrom image first count) b' ms)
    (view : t.feedView = s.feedView) (hb : t.bay n = b) (hx : t.stream n = some x) :
    takeBlocks n image count first ws t =
      (t.setStream n (some { x with inFlight := x.inFlight - count })).acts n b' ms := by
  induction count generalizing first ws t b ms x with
  | zero =>
    cases d
    rw [acts_self (s := t.setStream n _) hb]
    exact (setStream_self hx).symm
  | succ count ih =>
    rw [blocksFrom_succ] at d
    cases d with
    | @cons _ b₁ _ _ _ ms₁ ms₂ first_ rest =>
      have one : t.takeBlock n image first (ws.headD .clean) =
          (t.setStream n (some { x with inFlight := x.inFlight - 1 })).acts n b₁ ms₁ := by
        unfold takeBlock
        rw [servedFate_of_view view, fate]
        dsimp only
        rw [if_pos (blockGood_of_ne (headD_eq_getD ws ▸ good 0 (Nat.succ_pos count))), modStream_of_some hx, loadBlock_of_view view]
        exact first_ _ view hb
      unfold takeBlocks
      rw [one, ih (t := (t.setStream n (some { x with inFlight := x.inFlight - 1 })).acts n b₁ ms₁) (x := { x with inFlight := x.inFlight - 1 }) (fun i lt => getD_drop_one ws i ▸ good (i + 1) (Nat.succ_lt_succ lt)) rest view
        bay_acts (stream_setStream_self ..), acts_setStream, setStream_setStream, acts_acts, Nat.sub_sub, Nat.add_comm 1]

/-! ### A release, from states that agree on the ledger -/

/-- The messages of the grants of a scan (R112). -/
def grantMsgs : List (WaitEntry × ScanMark) → List OutMsg
  | [] => []
  | (w, .granted m) :: rest => .bay w.bay (.speed m w.kind) :: grantMsgs rest
  | _ :: rest => grantMsgs rest

theorem handGrants_congr (marks : List (WaitEntry × ScanMark)) : ∀ s t : State,
    (handGrants marks t).sent = t.sent ++ grantMsgs marks ∧
      (t.bay m = s.bay m → (handGrants marks t).bay m = (handGrants marks s).bay m) := by
  induction marks with
  | nil => exact fun s t => ⟨(List.append_nil _).symm, id⟩
  | cons x marks ih =>
    intro s t
    obtain ⟨w, mark⟩ := x
    cases mark with
    | granted k =>
      obtain ⟨sent, bays⟩ := ih (s.handGrant w.bay w.kind k) (t.handGrant w.bay w.kind k)
      refine ⟨sent.trans (List.append_assoc ..), fun h => bays ?_⟩
      by_cases e : m = w.bay
      · subst e
        unfold handGrant
        rw [bay_modBay_self, bay_modBay_self]
        exact congrArg (fun b : Bay => { b with speedPending := true, timers.speed := some Config.speedReportMs }) h
      · unfold handGrant
        rw [bay_modBay_ne e, bay_modBay_ne e]
        exact h
    | skipped => exact ih s t
    | untested => exact ih s t

/-- A scan goes by the ledger, the wait queue and the settings. -/
theorem scan_congr (settings : t.sst = s.sst) (ledger : t.rgu = s.rgu) :
    t.scan.rgu = s.scan.rgu ∧ (∃ ms, t.scan.sent = t.sent ++ ms ∧ s.scan.sent = s.sent ++ ms) ∧
      ∀ m, t.bay m = s.bay m → t.scan.bay m = s.scan.bay m := by
  obtain ⟨marks, walked⟩ := scanWalk_congr (ws := t.rgu.queue) settings (congrArg Rgu.ledger ledger)
  obtain ⟨-, walked'⟩ := scanWalk_congr (ws := t.rgu.queue) (s := s) (t := s) rfl rfl
  have scans : s.scan = handGrants (scanWalk t.rgu.queue s).2
      { (scanWalk t.rgu.queue s).1 with rgu.queue := afterScan (scanWalk t.rgu.queue s).2 } := by
    rw [scan_eq, ledger]
  rw [scan_eq, scans, marks]
  obtain ⟨sent, -⟩ := handGrants_congr (m := 0) (scanWalk t.rgu.queue s).2
    { (scanWalk t.rgu.queue s).1 with rgu.queue := afterScan (scanWalk t.rgu.queue s).2 }
    { (scanWalk t.rgu.queue t).1 with rgu.queue := afterScan (scanWalk t.rgu.queue s).2 }
  obtain ⟨sent', -⟩ := handGrants_congr (m := 0) (scanWalk t.rgu.queue s).2
    { (scanWalk t.rgu.queue t).1 with rgu.queue := afterScan (scanWalk t.rgu.queue s).2 }
    { (scanWalk t.rgu.queue s).1 with rgu.queue := afterScan (scanWalk t.rgu.queue s).2 }
  refine ⟨?_, ⟨grantMsgs (scanWalk t.rgu.queue s).2, sent.trans ?_, sent'.trans ?_⟩, fun m h => (handGrants_congr _ _ _).2 ?_⟩
  · rw [handGrants_keeps_rgu, handGrants_keeps_rgu, walked, walked']
  · rw [walked]
  · rw [walked']
  · rw [walked, walked']
    exact h

/-- A release goes by the ledger, the wait queue and the settings. -/
theorem release_congr (settings : t.sst = s.sst) (ledger : t.rgu = s.rgu) :
    (t.release n).rgu = (s.release n).rgu ∧ (∃ ms, (t.release n).sent = t.sent ++ ms ∧ (s.release n).sent = s.sent ++ ms) ∧
      ∀ m, t.bay m = s.bay m → (t.release n).bay m = (s.release n).bay m := by
  have same : t.grant n = s.grant n := by rw [grant, grant, ledger]
  unfold release
  rw [same]
  split
  · exact scan_congr settings (congrArg (fun r : Rgu => { r with ledger := r.ledger.set n none }) ledger)
  · exact ⟨ledger, ⟨[], by simp, by simp⟩, fun _ h => h⟩

theorem release_of_not_waits (h : s.waits n = false) : (s.release n).bay n = s.bay n ∧ (s.release n).grant n = none := by
  unfold release
  split
  · obtain ⟨bay, grant_, -⟩ := scan_of_not_waits (s := s.setGrant n none) h
    exact ⟨bay, grant_.trans (grant_setGrant_self ..)⟩
  next none_ => exact ⟨rfl, none_⟩

/-! ### The end of a delivery (R98, R86) -/

/-- What the completion of a read leaves, as the statements of R98 and R100 give it: the stream is over or has this record,
and a stream that is over has its grant released. -/
def burstOut (s : State) (run : Host.Outcome State Fault Refusal) (n : BayId) (last : Bool) (y : Stream) (bay : Bay)
    (sent : List OutMsg) (records : State) : Prop :=
  let freed : State := if last then s.begin.release n else s.begin
  ∃ t, run = .next t ∧ t.mem = s.mem ∧ t.sent = sent ++ freed.sent ∧ t.bay n = bay ∧
    t.stream n = (if last then none else some y) ∧ t.rgu = freed.rgu ∧ (last = true → t.grant n = none) ∧
    t.discs = records.discs ∧ ∀ m, m ≠ n → t.bay m = freed.bay m ∧ t.stream m = s.stream m

/-- A state whose blocks have been delivered while nothing but the bay, the records and the stream has changed. -/
structure Handed (s e : State) (n : BayId) (y : Stream) : Prop where
  mem : e.mem = s.mem
  due : e.due = {}
  cat : e.cat = s.cat
  rgu : e.rgu = s.rgu
  sst : e.sst = s.sst
  stream : e.stream n = some y
  streams : ∀ m, m ≠ n → e.stream m = s.stream m
  bays : ∀ m, m ≠ n → e.bay m = s.bay m

/-- The stream that has ended leaves the table, and its grant is released (R98, R86). -/
theorem Handed.burstOut {run : Host.Outcome State Fault Refusal} {image : Nat} (h : s.Handed e n y)
    (hr : run = .next ((e.streamEnd n).readServed image).settle)
    (live : ∀ x, s.image? image = some x → x.state ≠ .filling ∨ x.readDone = false)
    (waits : y.ended = true → s.waits n = false) :
    s.burstOut run n y.ended y (e.bay n) e.sent e := by
  have begun : s.begin.waits n = s.waits n := rfl
  have images : ∀ t : State, t.cat = s.cat → ∀ x, t.image? image = some x → x.state ≠ .filling ∨ x.readDone = false :=
    fun t ht x hx => live x (by rwa [image?, ht] at hx)
  by_cases done : y.ended = true
  · have ends : e.streamEnd n = (e.setStream n none).release n := by
      unfold streamEnd
      rw [h.stream]
      exact if_pos done
    obtain ⟨rgu, ⟨ms, sent, sent'⟩, bays⟩ := release_congr (s := s.begin) (t := e.setStream n none) (n := n) h.sst h.rgu
    obtain ⟨r, ms', bs, frame⟩ := release_frame n (e.setStream n none)
    obtain ⟨bay, grant_⟩ := release_of_not_waits (s := e.setStream n none) (n := n) (by
      have same : (e.setStream n none).waits n = s.waits n := by
        unfold State.waits
        rw [show (e.setStream n none).rgu = s.rgu from h.rgu]
      rw [same]
      exact waits done)
    generalize hu : (e.setStream n none).release n = u at ends rgu sent bays frame bay grant_
    obtain ⟨c, k, left⟩ := readServed_frame (s := u) (i := image) (images u (by rw [frame]; exact h.cat))
    have due : (u.readServed image).due = {} := by rw [left, frame]; exact h.due
    refine ⟨u.readServed image, by rw [hr, ends, settle_of_due_none due], ?_⟩
    rw [done, left]
    have mem : u.mem = e.mem := by rw [frame]; rfl
    have discs : u.discs = e.discs := by rw [frame]; rfl
    have stream (m : BayId) : u.stream m = (e.setStream n none).stream m := by rw [frame]; rfl
    refine ⟨?_, ?_, bay, ?_, ?_, fun _ => grant_, ?_, fun m ne => ⟨?_, ?_⟩⟩
    · exact mem.trans h.mem
    · have first : (s.begin.release n).sent = ms := sent'.trans (List.nil_append _)
      exact sent.trans (congrArg (e.sent ++ ·) first.symm)
    · exact (stream n).trans (stream_setStream_self ..)
    · exact rgu
    · exact discs
    · exact bays m (h.bays m ne)
    · exact (stream m).trans ((stream_setStream_ne ne _ _).trans (h.streams m ne))
  · have goes : e.streamEnd n = e := by
      unfold streamEnd
      rw [h.stream]
      exact if_neg done
    obtain ⟨c, k, left⟩ := readServed_frame (s := e) (i := image) (images e h.cat)
    have due : (e.readServed image).due = {} := by rw [left]; exact h.due
    have going : y.ended = false := by simpa using done
    refine ⟨e.readServed image, by rw [hr, goes, settle_of_due_none due], ?_⟩
    rw [going, left]
    exact ⟨h.mem, (List.append_nil _).symm, rfl, h.stream, h.rgu, nofun, rfl, fun m ne => ⟨h.bays m ne, h.streams m ne⟩⟩

end State
end Sys2Proof.Machine
end

section
/-! PROOFS. What the statements say of a delivery (R113 to R115, R138, R142 to R146), from what good blocks do at a bay. -/

namespace Sys2Proof.Machine

open State

namespace State
variable {s t : State} {n : BayId} {x : FeedBlock} {xs : List FeedBlock} {out : Bay → List OutMsg → State → Prop}

/-- Deliveries to a bay in PREFILL or WRITING (R113 to R115). -/
theorem burnDelivery_of (h : ∀ bay ms, s.Delivers n (s.bay n) xs bay ms → out bay ms s) : s.burnDelivery n xs out := by
  unfold burnDelivery
  intro b length fifo sends
  have all : fifo.length = b.fifo.length + xs.length := List.length_append
  refine ⟨fun state below => h _ _ (delivers_of_filling state (all ▸ below)), fun some_ fits =>
    ⟨fun state free below reached => ?begins, fun state => ?writes⟩⟩
  case begins =>
    have d := delivers_of_beginning (s := s) (n := n) state free below (all ▸ reached) (all ▸ fits)
    unfold Bay.sending at d
    dsimp only [sends]
    by_cases whole : length ≤ b.sentBlocks + min b.wantCredit fifo.length
    · rw [if_pos whole]
      exact h _ _ (by
        simp only at d
        rwa [if_pos (by exact whole)] at d)
    · rw [if_neg whole]
      exact h _ _ (by
        simp only at d
        rwa [if_neg (by exact whole)] at d)
  case writes =>
    intro held
    have d := delivers_of_writing (s := s) (n := n) state some_ (all ▸ fits)
    have more : b.sentBlocks < length := by
      have := List.length_pos_iff.2 some_
      omega
    by_cases hold : held = true
    · have under : (b.takesIn xs).waitsRefill length = true := hold
      unfold Bay.refilled at d
      rw [if_pos (by exact under)] at d
      rw [hold, if_pos rfl]
      dsimp only [sends]
      rw [if_neg (by simpa using more)]
      have kept : b.refillHold = true := (Bool.and_eq_true_iff.1 hold).1
      have same : ({ b with
          refillHold := true, fifo := fifo.drop 0, wantCredit := b.wantCredit - 0
          sentBlocks := b.sentBlocks + 0 } : Bay) = b.takesIn xs := by
        unfold Bay.takesIn
        rw [← kept]
        rfl
      exact same ▸ h _ _ d
    · have free : held = false := by simpa using hold
      have over_ : ¬ (b.takesIn xs).waitsRefill length = true := hold
      unfold Bay.refilled at d
      rw [if_neg (by exact over_)] at d
      rw [free, if_neg (by simp)]
      dsimp only [sends]
      unfold Bay.sending at d
      simp only at d
      by_cases whole : length ≤ b.sentBlocks + min b.wantCredit fifo.length
      · rw [if_pos whole]
        rw [if_pos (by exact whole)] at d
        exact h _ _ d
      · rw [if_neg whole]
        rw [if_neg (by exact whole)] at d
        exact h _ _ d

/-! ### Deliveries to a verify -/

end State

/-- An image that no completed master read waits for. -/
def Image.settled (x : Image) : Prop := x.state ≠ .filling ∨ x.readDone = false

namespace State
variable {s t u w : State} {n : BayId} {x : FeedBlock} {xs : List FeedBlock} {out : Bay → List OutMsg → State → Prop}
  {d : DiscId} {c : RejectCause} {v : VerifyCtx} {r : Disc} {e : HeldBlock} {rest : List HeldBlock} {b : Bay}

/-- The end of a delivery, with what it leaves: the records, the bay but for its speed exchange, and the messages sent. -/
structure ClosesAs (n : BayId) (w u : State) : Prop where
  discs : u.discs = w.discs
  bay : (u.bay n).exceptSpeed = (w.bay n).exceptSpeed
  sent : w.sent <+: u.sent

theorem ClosesAs.verifyOver (h : w.ClosesAs n u) (k : w.verifyOver n) : u.verifyOver n :=
  ⟨(congrArg Bay.engine h.bay).trans k.1, (congrArg Bay.fifo h.bay).trans k.2.1,
    (congrArg Bay.holding h.bay).trans k.2.2.1, (congrArg (fun b => b.timers.read) h.bay).trans k.2.2.2⟩

theorem ClosesAs.rejectedAt (h : w.ClosesAs n u) (k : w.rejectedAt n d c) : u.rejectedAt n d c := by
  obtain ⟨state, verdict, cause⟩ := k
  refine ⟨(congrArg Bay.state h.bay).trans state, ?_, ?_⟩
  · rwa [disc_congr h.discs]
  · rwa [disc_congr h.discs]

theorem ClosesAs.verifyJudged (h : w.ClosesAs n u) (k : s.verifyJudged w n v r) : s.verifyJudged u n v r := by
  obtain ⟨idle, failed, marginal, passed⟩ := k
  refine ⟨h.verifyOver idle, fun hm => h.rejectedAt (failed hm),
    fun hm mode limit lt => h.rejectedAt (marginal hm mode limit lt), fun hm limits => ?_⟩
  obtain ⟨entered, good⟩ := passed hm limits
  rw [disc_congr h.discs]
  exact ⟨entered, fun none_ => ⟨(congrArg Bay.state h.bay).trans (good none_).1, (good none_).2⟩⟩

theorem verifyJudged_congr (discs : t.discs = s.discs) (jobs : t.jsc.jobs = s.jsc.jobs) (h : t.verifyJudged u n v r) :
    s.verifyJudged u n v r := by
  have same (f : Disc → Disc) : (t.modDisc v.disc f).nextStepOf v.disc = (s.modDisc v.disc f).nextStepOf v.disc :=
    nextStepOf_congr (disc_congr (by rw [modDisc, modDisc, discs])) jobs
  obtain ⟨idle, failed, marginal, passed⟩ := h
  exact ⟨idle, failed, marginal, fun hm limits => ⟨(passed hm limits).1, fun none_ =>
    (passed hm limits).2 ((same _).trans none_)⟩⟩

/-- The verify's end keeps what holds of an image while it has an entry. -/
theorem ends_images {P : Image → Prop} (i : Nat) (hP : ∀ x r a o, P x → P { x with refs := r, accesses := a, source := o }) :
    Ends (fun s t => s.everyImage i P → t.everyImage i P) where
  toDecides := decides_images i hP
  loaded _ h := h
  bay _ _ _ h := h
  rest _ _ _ h := h
  settle _ _ _ _ h := h
  drain _ _ _ h := h
  spare _ _ h := h
  spared _ _ h := h
  blame _ _ _ h := h

theorem requests_images {P : Image → Prop} (i : Nat) (hP : ∀ x r a o, P x → P { x with refs := r, accesses := a, source := o }) :
    Requests (fun s t => s.everyImage i P → t.everyImage i P) where
  toDecides := decides_images i hP
  bay _ _ _ h := h
  rest _ _ _ h := h
  request _ _ h := h

theorem verifyReject_images (i : Nat) : s.everyImage i Image.settled → (s.verifyReject n d c).everyImage i Image.settled :=
  (ends_images i fun _ _ _ _ h => h).verifyReject

theorem endTest_images (i : Nat) : s.everyImage i Image.settled → (s.endTest n v).everyImage i Image.settled := by
  unfold endTest
  dsimp only
  split
  · split
    · exact verifyReject_images i
    · have passes := requests_images (P := Image.settled) i fun _ _ _ _ h => h
      exact fun h => passes.stepDone (passes.leaveVerify (s := s.enterStep v.disc .verify) h)
  · exact id

/-- A STOP verify that meets a mismatch (R142). -/
theorem stopMismatch_ends (hr : t.disc v.disc = some r) (pending : r.verdict = .pending) :
    (t.stopMismatch n v).verifyOver n ∧ (t.stopMismatch n v).rejectedAt n v.disc .verifyFailed ∧
      ((t.stopMismatch n v).disc v.disc).map Disc.mismatches = some (r.mismatches + 1) ∧
      ((t.bay n).engine.phase = .reading → .bay n .readHalt ∈ (t.stopMismatch n v).sent) ∧
      ∀ i, t.everyImage i Image.settled → (t.stopMismatch n v).everyImage i Image.settled := by
  generalize hc : t.modDisc v.disc (Disc.mismatch (t.bay n).engine.comparePos 1) = c
  have stops : t.stopMismatch n v =
      (if (t.bay n).engine.phase = .reading then c.toBay n .readHalt else c).verifyReject n v.disc .verifyFailed := by
    rw [← hc]
    rfl
  have counted : c.disc v.disc = some (r.mismatch (t.bay n).engine.comparePos 1) := by
    rw [← hc]
    exact (disc_modDisc_self ..).trans (congrArg (Option.map _) hr)
  have images (i : Nat) (h : t.everyImage i Image.settled) : c.everyImage i Image.settled := by
    rw [← hc]
    exact h
  rw [stops]
  by_cases reading : (t.bay n).engine.phase = .reading
  · rw [if_pos reading]
    obtain ⟨idle, rejected, written⟩ := verifyReject_ends (s := c.toBay n .readHalt) (n := n) (c := .verifyFailed) counted pending
    refine ⟨idle, rejected, by rw [written]; rfl, fun _ => ?_, fun i h => verifyReject_images i (images i h)⟩
    exact (ends_sent.verifyReject (s := c.toBay n .readHalt)).subset (List.mem_append_right _ (List.mem_singleton.2 rfl))
  · rw [if_neg reading]
    obtain ⟨idle, rejected, written⟩ := verifyReject_ends (s := c) (n := n) (c := .verifyFailed) counted pending
    exact ⟨idle, rejected, by rw [written]; rfl, fun k => absurd k reading, fun i h => verifyReject_images i (images i h)⟩

/-- Deliveries to a bay in VERIFYING (R138, R142 to R146). -/
theorem verifyDelivery_of {ends : (State → Prop) → Prop} (h : ∀ bay ms, s.Delivers n (s.bay n) xs bay ms → out bay ms s)
    (hd : ∀ x bay ms d f, xs = [x] → (∀ t : State, t.feedView = s.feedView → t.bay n = s.bay n →
      t.deliverBlock n x.index x.data = (t.modDisc d f).acts n bay ms) → out bay ms (s.modDisc d f))
    (he : ∀ (x : FeedBlock) (after : State → Prop), xs = [x] → (∀ t : State, t.feedView = s.feedView → t.bay n = s.bay n →
      (∀ i, t.everyImage i Image.settled → (t.deliverBlock n x.index x.data).everyImage i Image.settled) ∧
        ∀ u, (t.deliverBlock n x.index x.data).ClosesAs n u → after u) → ends after) :
    s.verifyDelivery n xs out ends := by
  unfold verifyDelivery
  intro b pos
  refine ⟨fun state idle => h _ _ (delivers_of_idle state idle), fun v state hv hp dry two => ?_⟩
  intro next go judged sent
  have many (k : Nat) (hk : 1 ≤ k) : b.judgedMany v k xs = judged k := by
    unfold Bay.judgedMany Bay.went
    rw [if_neg (by omega)]
    dsimp only [judged]
    by_cases goes : b.engine.held = true ∧ b.engine.phase = .reading
    · rw [if_pos goes, if_pos goes, if_pos goes]
    · rw [if_neg goes, if_neg goes, if_neg goes]
  refine ⟨fun some_ matches_ more => ?matching, fun e rest x r single held at_ hr => ?single⟩
  case matching =>
    have d := delivers_of_matching hv state hp dry rfl two rfl
      (fun i e x lt he hx => matches_ i e x lt he hx) (.inr more)
    rw [if_neg (by omega), many _ some_] at d
    exact h _ _ d
  case single =>
    intro same counts counted
    subst single
    have room : rest.length < 2 := by
      rw [held] at two
      simp only [List.length_cons] at two
      omega
    have one : b.judgedTo v rest = judged 1 := by
      rw [← many 1 (le_refl 1), Bay.judgedMany_succ held, Bay.judgedMany_zero (Bay.judgedTo_kept v rest b).2.1,
        Bay.takesIn_nil]
    have view_disc (t : State) (view : t.feedView = s.feedView) : t.disc v.disc = some r := by
      have discs : t.discs = s.discs := congrArg (fun p => p.1) view
      rw [disc_congr discs, hr]
    refine ⟨fun differs mode more => ?counts, fun differs mode => ?retry, fun pending => ⟨fun differs mode => ?stop,
      fun whole last => ⟨fun differs mode => ?failed, fun equal => ?judged⟩⟩⟩
    case counts =>
      refine hd x (judged 1) sent v.disc (Disc.mismatch pos 1) rfl fun t view bay => ?_
      rw [deliverBlock_counts bay state ((verifyCtx_of_view view).trans hv) hp dry held at_ differs room mode,
        judgeWaiting_of_open bay_acts more, one]
      rfl
    case retry =>
      intro retry
      by_cases reading : b.engine.phase = .reading
      · rw [if_pos reading]
        refine h _ _ (.single fun t view bay => ?_)
        rw [deliverBlock_retries bay state ((verifyCtx_of_view view).trans hv) hp dry held at_ differs mode, if_pos reading]
        rfl
      · rw [if_neg reading]
        refine h _ _ (.single fun t view bay => ?_)
        rw [deliverBlock_retries bay state ((verifyCtx_of_view view).trans hv) hp dry held at_ differs mode, if_neg reading]
        rfl
    case stop =>
      refine he x _ rfl fun t view bay => ?_
      obtain ⟨idle, rejected, counts_, halted, images⟩ :=
        stopMismatch_ends (t := t.acts n (b.judging x rest) []) (n := n) (v := v) (view_disc t view) pending
      rw [deliverBlock_stops bay state ((verifyCtx_of_view view).trans hv) hp dry held at_ differs mode,
        judgeWaiting_of_empty idle.2.2.1]
      refine ⟨images, fun u c => ⟨c.verifyOver idle, c.rejectedAt rejected, by rw [disc_congr c.discs]; exact counts_,
        fun reading => c.sent.subset (halted (by rw [bay_acts]; exact reading))⟩⟩
    case failed =>
      refine he x _ rfl fun t view bay => ?_
      generalize hT : (t.modDisc v.disc (Disc.mismatch b.engine.comparePos 1)).acts n (b.judgedTo v rest) (b.goMsgs n) = T
      have bay' : T.bay n = b.judgedTo v rest := by rw [← hT, bay_acts]
      have entry : T.disc v.disc = some (r.mismatch b.engine.comparePos 1) := by
        rw [← hT]
        exact (disc_modDisc_self ..).trans (congrArg (Option.map _) (view_disc t view))
      have result : verifyResult v (r.mismatch b.engine.comparePos 1) = some .verifyFailed := if_pos (Nat.succ_ne_zero _)
      have ends_ := endTest_of_result (n := n) entry (by rw [bay', Bay.judgedTo_comparePos]; exact whole)
        (by rw [bay', Bay.judgedTo_holding]; exact last) result
      obtain ⟨idle, rejected, written⟩ := verifyReject_ends (n := n) (c := .verifyFailed) entry pending
      rw [deliverBlock_counts bay state ((verifyCtx_of_view view).trans hv) hp dry held at_ differs room mode, hT, ends_,
        judgeWaiting_of_empty idle.2.2.1]
      refine ⟨fun i k => verifyReject_images i ?_, fun u c => ⟨c.verifyOver idle, c.rejectedAt rejected, ?_⟩⟩
      · rw [← hT]
        exact k
      · rw [disc_congr c.discs, written]
        rfl
    case judged =>
      refine he x _ rfl fun t view bay => ?_
      generalize hT : t.acts n (b.judgedTo v rest) (b.goMsgs n) = T
      have bay' : T.bay n = b.judgedTo v rest := by rw [← hT, bay_acts]
      have entry : T.disc v.disc = some r := by
        rw [← hT]
        exact view_disc t view
      have ends_ := endTest_ends (n := n) entry (by rw [bay', Bay.judgedTo_comparePos]; exact whole)
        (by rw [bay', Bay.judgedTo_holding]; exact last) pending
      rw [deliverBlock_equal bay state ((verifyCtx_of_view view).trans hv) hp dry held at_ room
        ⟨equal.1.trans at_.symm, equal.2⟩, hT, judgeWaiting_of_empty ends_.1.2.2.1]
      refine ⟨fun i k => endTest_images i ?_, fun u c => c.verifyJudged (verifyJudged_congr ?_ ?_ ends_)⟩
      · rw [← hT]
        exact k
      · rw [← hT]
        exact congrArg (fun p => p.1) view
      · rw [← hT]
        exact congrArg (fun p => p.2.1.jobs) view

end State
end Sys2Proof.Machine
end

section
/-! PROOFS. A stream's re-read (O38) and its bursts (O37): what a delivery is, how it ends, and the bad block (R98 to R100). -/

namespace Sys2Proof.Machine

open State

namespace State
variable {s t u w e : State} {n m : BayId} {x y : Stream} {image : Nat} {blocks : List FeedBlock} {D : State}
  {run : Host.Outcome State Fault Refusal}

/-! ### How a delivery ends -/

theorem streamEnd_frame (n : BayId) (s : State) : ∃ f r ms bs, s.streamEnd n =
    { s with fdr := f, rgu := r, sent := s.sent ++ ms, bays := bs } := by
  unfold streamEnd
  split
  · split
    · obtain ⟨r, ms, bs, h⟩ := release_frame n (s.setStream n none)
      exact ⟨_, r, ms, bs, h⟩
    · exact ⟨s.fdr, s.rgu, [], s.bays, by simp⟩
  · exact ⟨s.fdr, s.rgu, [], s.bays, by simp⟩

theorem streamEnd_exceptSpeed : ((s.streamEnd n).bay m).exceptSpeed = (s.bay m).exceptSpeed := by
  unfold streamEnd
  split
  · split
    · exact release_exceptSpeed
    · rfl
  · rfl

/-- The end of a read leaves the records, the bay but for its speed exchange, and the messages sent (R98). -/
theorem readEnd_closes (live : w.everyImage image Image.settled) :
    w.ClosesAs n ((w.streamEnd n).readServed image) := by
  obtain ⟨f, r, ms, bs, ends⟩ := streamEnd_frame n w
  have images : (w.streamEnd n).everyImage image Image.settled := by
    rw [ends]
    exact live
  obtain ⟨c, k, left⟩ := readServed_frame images
  have bay := streamEnd_exceptSpeed (s := w) (n := n) (m := n)
  rw [left]
  refine ⟨?_, bay, ?_⟩
  · rw [ends]
  · rw [ends]
    exact List.prefix_append _ _

/-- The delivery of a stream's read: `D` is the state once the blocks are delivered (R98, R100). -/
theorem read_delivers (hr : run = .next ((D.streamEnd n).readServed image).settle)
    (many : ∀ bay ms, s.Delivers n (s.bay n) blocks bay ms → D = (s.begin.setStream n (some y)).acts n bay ms)
    (one : ∀ x, blocks = [x] → D = (s.begin.setStream n (some y)).deliverBlock n x.index x.data)
    (live : s.everyImage image Image.settled) (waits : y.ended = true → s.waits n = false) :
    s.burnDelivery n blocks (s.burstOut run n y.ended y) ∧
      s.verifyDelivery n blocks (s.burstOut run n y.ended y) (fun after => ∃ u : State, run = .next u.settle ∧ after u) := by
  have handed (bay : Bay) (ms : List OutMsg) (records : State)
      (hD : D = (({ s.begin with discs := records.discs } : State).setStream n (some y)).acts n bay ms) :
      s.burstOut run n y.ended y bay ms records := by
    have h : s.Handed D n y := by
      rw [hD]
      exact ⟨rfl, rfl, rfl, rfl, rfl, stream_setStream_self .., fun m ne => stream_setStream_ne ne _ _,
        fun m ne => bay_acts_ne ne⟩
    have ends := h.burstOut hr live waits
    rw [hD, bay_acts] at ends
    exact ends
  refine ⟨burnDelivery_of fun bay ms d => handed bay ms s (many bay ms d),
    verifyDelivery_of (fun bay ms d => handed bay ms s (many bay ms d))
      (fun x bay ms d f single acts => handed bay ms (s.modDisc d f) ((one x single).trans (acts _ rfl rfl)))
      fun x after single closes => ?_⟩
  obtain ⟨images, after_⟩ := closes (s.begin.setStream n (some y)) rfl rfl
  rw [← one x single] at images after_
  exact ⟨_, hr, after_ _ (readEnd_closes (images image live))⟩

end State

/-- Settles O38, by the damage of the block. -/
theorem aRereadDecidesTheBlock : Obligations.ARereadDecidesTheBlock := by
  intro s r n x y w serving user fate inside hx hy live last freed out ends block
  have readable : s.begin.readable r = true := by
    rw [readable, show s.begin.readInside r = true from inside]
    exact Bool.or_true _
  have served : s.begin.servedFate = .deliver := by
    rw [servedFate, show s.begin.smc.serving = some (.feed r) from serving]
    exact fate
  have ran : exec (.rereadDone w) s = .next (((s.begin.takeReread n r.image r.first w).readServed r.image).settle) := by
    change execRereadDone w s = _
    unfold execRereadDone
    dsimp only
    rw [show s.begin.smc.serving = some (.feed r) from serving]
    dsimp only
    rw [user]
    exact if_pos readable
  refine ⟨fun good waits => ?_, fun bad => ?_⟩
  · generalize hy' : ({ x with inFlight := x.inFlight - 1, reread := none } : Stream) = y'
    have over_ : y'.ended = last := by
      rw [← hy']
      unfold Stream.ended
      dsimp only [last]
      rw [Bool.eq_iff_iff]
      simp
      omega
    have delivered : s.begin.takeReread n r.image r.first w =
        ((s.begin.setStream n (some y')).deliverBlock n block.index block.data).streamEnd n := by
      unfold takeReread
      rw [served]
      dsimp only
      rw [if_pos (show blockGood w = true from blockGood_headD (ws := [w]) (by simpa using good)), modStream_of_some (s := s.begin) hx, hy']
      rfl
    rw [delivered] at ran
    have both := read_delivers (s := s) (n := n) (y := y') (blocks := [block]) ran
      (fun bay ms d => by
        cases d with
        | cons first rest =>
          cases rest
          rw [List.append_nil]
          exact first _ rfl rfl)
      (fun x single => by cases single; rfl)
      (fun z hz => by cases hy.symm.trans hz; exact live)
      (fun k => waits (over_ ▸ k))
    rw [over_] at both
    subst hy'
    exact both
  · rw [ran]
    refine congrArg (fun t : State => Host.Outcome.next (t.readServed r.image).settle) ?_
    unfold takeReread
    rw [served, bad]
    rfl

end Sys2Proof.Machine
end

section
/-! PROOFS. The bursts of a stream (O37): with no bad block, and with one (R98, R99). -/

namespace Sys2Proof.Machine

open State

namespace State
variable {s t : State} {n : BayId} {x : Stream} {image first count k : Nat} {ws : List WordDamage}

/-! ### A bad block and what comes after it (R99) -/

/-- The blocks of a burst are taken in turn. -/
theorem takeBlocks_add (m : Nat) : takeBlocks n image (k + m) first ws s =
    takeBlocks n image m (first + k) (ws.drop k) (takeBlocks n image k first ws s) := by
  induction k generalizing first ws s with
  | zero => rw [Nat.zero_add]; rfl
  | succ k ih =>
    rw [Nat.succ_add, takeBlocks, ih, Nat.add_assoc, Nat.add_comm 1 k, List.drop_drop, Nat.add_comm 1 k]
    rfl

theorem takeBlocks_one : takeBlocks n image 1 first ws s = s.takeBlock n image first (ws.headD .clean) := by
  rw [takeBlocks, takeBlocks]

/-- Blocks to be discarded with a refund give back 1,000 of credit each, up to 16,000 (R99). -/
theorem takeBlocks_of_refund (fate : s.servedFate = .refund) (hx : s.stream n = some x) :
    takeBlocks n image count first ws s = s.setStream n (some { x with
      inFlight := x.inFlight - count
      credit := if 0 < count then min 16000 (x.credit + 1000 * count) else x.credit }) := by
  induction count generalizing first ws s x with
  | zero =>
    rw [if_neg (by omega)]
    exact (setStream_self hx).symm
  | succ count ih =>
    have one : s.takeBlock n image first (ws.headD .clean) =
        s.setStream n (some { x with inFlight := x.inFlight - 1, credit := creditUp x.credit 1000 }) := by
      unfold takeBlock
      rw [fate]
      exact modStream_of_some hx
    unfold takeBlocks
    rw [one, ih (s := s.setStream n (some { x with inFlight := x.inFlight - 1, credit := creditUp x.credit 1000 })) fate
      (stream_setStream_self ..), setStream_setStream]
    refine congrArg (fun y => s.setStream n (some y)) ?_
    have credit : (if 0 < count then min 16000 (creditUp x.credit 1000 + 1000 * count) else creditUp x.credit 1000) =
        if 0 < count + 1 then min 16000 (x.credit + 1000 * (count + 1)) else x.credit := by
      rw [if_pos (Nat.succ_pos count)]
      unfold creditUp
      split <;> simp only [Config.creditCap] <;> omega
    dsimp only
    rw [credit, Nat.sub_sub, Nat.add_comm 1]

/-- The reads of a stream that are to be delivered are to be discarded with a refund (R99). -/
def refunds (n : BayId) (m : Smc) : Smc := m.setFate (fun r => r.user == .stream n && r.fate == .deliver) .refund

/-- A state whose stream has a bad block: its record, and its reads to be discarded (R99). -/
def rereads (n : BayId) (x : Stream) (s : State) : State := { s.setStream n (some x) with smc := refunds n s.smc }

theorem stream_rereads : (s.rereads n x).stream n = some x := stream_setStream_self n (some x) s

theorem stream_rereads_ne {m : BayId} (h : m ≠ n) : (s.rereads n x).stream m = s.stream m := stream_setStream_ne h (some x) s

/-- A bad block becomes the pending re-read, and the stream goes back to it (R99). -/
theorem takeBlock_of_bad (fate : s.servedFate = .deliver) (hx : s.stream n = some x) :
    s.takeBlock n image k .twoBits = s.rereads n { x with inFlight := x.inFlight - 1, reread := some k, next := k } := by
  unfold takeBlock
  rw [fate]
  dsimp only
  rw [show blockGood .twoBits = false from rfl, if_neg (by simp), badBlock, modStream_of_some hx]
  rfl

theorem servedFate_rereads {r : FeedRead} (serving : s.smc.serving = some (.feed r)) (user : r.user = .stream n)
    (fate : r.fate = .deliver) : (s.rereads n x).servedFate = .refund := by
  have marked : (s.rereads n x).smc.serving = some (.feed { r with fate := .refund }) := by
    change (refunds n s.smc).serving = _
    unfold refunds Smc.setFate
    dsimp only
    rw [serving]
    simp [user, fate]
  rw [servedFate, marked]

theorem mem_refunds {m : Smc} {q : FeedRead} (h : q ∈ (refunds n m).feedQueue) : q.user = .stream n → q.fate ≠ .deliver := by
  obtain ⟨q', -, rfl⟩ := List.mem_map.1 h
  dsimp only
  split
  · exact fun _ => by simp
  next other => exact fun user fate => other (by simp [user, fate])

theorem mem_take {m : Smc} {a : SmcSource} {c : Smc} {q : FeedRead} (h : m.take a = some c)
    (hq : q ∈ c.feedQueue ∨ c.serving = some (.feed q)) : q ∈ m.feedQueue := by
  cases a with
  | feed =>
    unfold Smc.take at h
    dsimp only at h
    split at h
    next r rest queue =>
      cases h
      rw [queue]
      refine hq.elim (fun k => List.mem_cons_of_mem _ k) fun k => ?_
      cases k
      exact List.mem_cons_self
    next => cases h
  | intake =>
    unfold Smc.take at h
    dsimp only at h
    split at h
    · cases h
      exact hq.resolve_right nofun
    · cases h
  | master =>
    unfold Smc.take at h
    dsimp only at h
    split at h
    · cases h
      exact hq.resolve_right nofun
    · cases h

/-- The reads that wait after the SMC has taken a request waited before (R69). -/
theorem mem_serve {m : Smc} {q : FeedRead} (free : m.serving = none)
    (hq : q ∈ m.serve.feedQueue ∨ m.serve.serving = some (.feed q)) : q ∈ m.feedQueue := by
  unfold Smc.serve at hq
  rw [free, if_neg (by simp)] at hq
  dsimp only at hq
  cases first : m.take m.turn.after with
  | some c =>
    rw [first] at hq
    exact mem_take first hq
  | none =>
    rw [first] at hq
    cases second : m.take m.turn.after.after with
    | some c =>
      rw [second] at hq
      exact mem_take second hq
    | none =>
      rw [second] at hq
      cases third : m.take m.turn with
      | some c =>
        rw [third] at hq
        exact mem_take third hq
      | none =>
        rw [third] at hq
        exact hq.resolve_right fun k => by cases free.symm.trans k

/-- The SMC takes the next request once a read is served (R69). -/
theorem readServed_smc {i : Nat} (h : ∀ x, s.image? i = some x → x.state ≠ .filling ∨ x.readDone = false) :
    (s.readServed i).smc = ({ s.smc with serving := none } : Smc).serve := by
  obtain ⟨c, hc⟩ := freeTest_frame i (s.served.modImage i (fun x => { x with accesses := x.accesses - 1 }))
  have still : (s.served.accessDone i).smc = (s.served.accessDown i).smc := by
    have kept := (decides_images i (P := Image.settled) fun _ _ _ _ h => h).freeTest
      (s := s.served.modImage i (fun x => { x with accesses := x.accesses - 1 })) (i := i)
      (everyImage_modImage (s := s.served) (P := Image.settled) (fun _ => rfl) (by exact fun _ k => k) h)
    exact congrArg State.smc (masterTest_of_other fun x hx => (kept x hx).imp id .inl)
  unfold readServed smcServe
  rw [still, accessDown, hc]
  rfl

/-- A burst with a bad block leaves its stream open (R99). -/
theorem read_of_bad {E : State} {run : Host.Outcome State Fault Refusal} (hr : run = .next ((E.streamEnd n).readServed image).settle)
    (hx : E.stream n = some x) (bad : x.reread.isNone = false) (due : E.due = {})
    (live : ∀ y, E.image? image = some y → y.state ≠ .filling ∨ y.readDone = false) :
    run = .next (E.readServed image) ∧ (E.readServed image).smc = ({ E.smc with serving := none } : Smc).serve ∧
      ∃ c m, E.readServed image = { E with cat := c, smc := m } := by
  have goes : E.streamEnd n = E := by
    unfold streamEnd
    rw [hx]
    exact if_neg (by simp [Stream.ended, bad])
  obtain ⟨c, m, left⟩ := readServed_frame live
  exact ⟨by rw [hr, goes, settle_of_due_none (by rw [left]; exact due)], readServed_smc live, c, m, left⟩

end State

/-- Settles O37, by the damage of the burst. -/
theorem aBurstReachesTheFifoInOrder : Obligations.ABurstReachesTheFifoInOrder := by
  intro s r n x y damage serving user fate inside hx hy live b blocks last freed out ends
  have readable : s.begin.readable r = true := by
    rw [readable, show s.begin.readInside r = true from inside]
    exact Bool.or_true _
  have served : s.begin.servedFate = .deliver := by
    rw [servedFate, show s.begin.smc.serving = some (.feed r) from serving]
    exact fate
  have ran : exec (.feedReadDone damage) s =
      .next ((((takeBlocks n r.image r.count r.first damage s.begin).streamEnd n).readServed r.image).settle) := by
    change execFeedReadDone damage s = _
    unfold execFeedReadDone
    dsimp only
    rw [show s.begin.smc.serving = some (.feed r) from serving]
    dsimp only
    rw [user]
    exact if_pos readable
  have images : ∀ z, s.image? r.image = some z → z.state ≠ .filling ∨ z.readDone = false := fun z hz => by
    cases hy.symm.trans hz
    exact live
  refine ⟨fun good waits => ?good, fun one bad => ?one, fun k lt bad before state below => ?bad⟩
  case good =>
    have good_ (i : Nat) : damage.getD i .clean ≠ .twoBits := by
      rw [List.getD_eq_getElem?_getD]
      cases h : damage[i]? with
      | none => simp
      | some w => exact good w (List.mem_of_getElem? h)
    have over_ : ({ x with inFlight := x.inFlight - r.count } : Stream).ended = last := by
      unfold Stream.ended
      dsimp only [last]
      rw [Bool.eq_iff_iff]
      simp [Nat.sub_eq_zero_iff_le, and_assoc]
    have both := read_delivers (s := s) (n := n) (y := { x with inFlight := x.inFlight - r.count })
      (blocks := blocks r.count) ran
      (fun bay ms d => takeBlocks_of_delivers (s := s) served (fun i _ => good_ i) d rfl rfl hx)
      (fun z single => by
        have count : r.count = 1 := by simpa [blocks] using congrArg List.length single
        have one : z = { index := r.first, data := s.loadBlock r.image r.first } := by
          have list : blocks 1 = [z] := count ▸ single
          cases list
          rfl
        rw [count, one]
        rw [takeBlocks_one]
        unfold takeBlock
        rw [served]
        dsimp only
        rw [if_pos (blockGood_headD good), modStream_of_some (s := s.begin) hx]
        rfl)
      images (fun k => waits (over_ ▸ k))
    rw [over_] at both
    exact both
  case one =>
    rw [one, bad, takeBlocks_one, List.headD_cons, takeBlock_of_bad (s := s.begin) served hx] at ran
    obtain ⟨run, -, c, m, left⟩ := read_of_bad ran stream_rereads rfl rfl images
    rw [left] at run
    rw [bad]
    exact ⟨_, run, rfl, rfl, fun m => rfl, stream_rereads (s := s.begin)⟩
  case bad =>
    have filled := takeBlocks_of_delivers (s := s) (t := s.begin) (image := r.image) (first := r.first) (ws := damage) served
      before (delivers_of_filling (s := s) (n := n) (b := b) (xs := s.blocksFrom r.image r.first k) state
        (by simpa [blocksFrom] using below)) rfl rfl hx
    have split : r.count = k + (1 + (r.count - (k + 1))) := by omega
    rw [split, takeBlocks_add, filled, takeBlocks_add, takeBlocks_one] at ran
    have worst : (damage.drop k).headD .clean = .twoBits := by
      rw [headD_eq_getD, ← bad]
      simp [List.getD_eq_getElem?_getD]
    generalize hf : (s.begin.setStream n (some { x with inFlight := x.inFlight - k })).acts n
      (b.takesIn (s.blocksFrom r.image r.first k)) [] = f at ran
    have stream : f.stream n = some { x with inFlight := x.inFlight - k } := by
      rw [← hf]
      exact stream_setStream_self ..
    have fate' : f.servedFate = .deliver := by rw [← hf]; exact served
    rw [worst, takeBlock_of_bad fate' stream] at ran
    have smc : f.smc = s.smc := by rw [← hf]; rfl
    generalize hy' : ({ x with inFlight := x.inFlight - k - 1, reread := some (r.first + k), next := r.first + k } : Stream) =
      y' at ran
    rw [takeBlocks_of_refund (servedFate_rereads (smc ▸ serving) user fate) stream_rereads] at ran
    generalize hz : ({ y' with
      inFlight := y'.inFlight - (r.count - (k + 1))
      credit := if 0 < r.count - (k + 1) then min 16000 (y'.credit + 1000 * (r.count - (k + 1))) else y'.credit } : Stream) =
      z at ran
    have record : z = { x with
        inFlight := x.inFlight - r.count, reread := some (r.first + k), next := r.first + k
        credit := if k + 1 < r.count then min 16000 (x.credit + 1000 * (r.count - (k + 1))) else x.credit } := by
      have flight : x.inFlight - k - 1 - (r.count - (k + 1)) = x.inFlight - r.count := by omega
      rw [← hz, ← hy']
      dsimp only
      rw [flight]
      by_cases more : k + 1 < r.count
      · rw [if_pos more, if_pos (by omega)]
      · rw [if_neg more, if_neg (by omega)]
    obtain ⟨run, took, c, m, left⟩ := read_of_bad ran (stream_setStream_self ..) (by rw [record]; rfl)
      (by change f.due = {}; rw [← hf]; rfl)
      (by
        have cat : f.cat = s.cat := by rw [← hf]; rfl
        intro z' hz'
        exact images z' (by rwa [image?, show ((f.rereads n y').setStream n (some z)).cat = s.cat from cat] at hz'))
    have feeds : ((f.rereads n y').setStream n (some z)).smc = refunds n s.smc := congrArg (refunds n) smc
    rw [left] at run took
    refine ⟨_, run, ?_, ?_, ?_, ?_, ?_, ?_⟩
    · change f.mem = s.mem
      rw [← hf]
      rfl
    · change f.sent = []
      rw [← hf]
      rfl
    · change f.bay n = _
      rw [← hf, bay_acts]
      rfl
    · rw [← record]
      exact stream_setStream_self n (some z) (f.rereads n y')
    · intro q hq
      refine mem_refunds (m := s.smc) (q := q) ?_
      rw [show m = _ from took, feeds] at hq
      exact mem_serve (m := { refunds n s.smc with serving := none }) rfl hq
    · intro i ne
      refine ⟨?_, ?_⟩
      · change f.bay i = _
        rw [← hf]
        exact bay_acts_ne ne
      · refine (stream_setStream_ne ne (some z) (f.rereads n y')).trans ((stream_rereads_ne ne).trans ?_)
        rw [← hf]
        exact stream_setStream_ne ne _ s.begin

end Sys2Proof.Machine
end

section
/-! PROOFS. What treating one record of a drained job leaves as it is (R35): the discs and the bays at other places, the
station, the freight of the arm and of the transport queue, and the job's own drain. -/

namespace Sys2Proof.Machine

open State

/-! ### The job that drains (R26, R34) -/

/-- The terminal state of a job that a drain ends (R26). -/
def DrainKind.ends : DrainKind → JobState
  | .fail => .failed
  | .soft | .hard => .cancelled

/-- A job drains by a kind; if the drain is its own state too, it is DRAINING, or has ended with no record left (R26). -/
def State.winds (j : Nat) (k : DrainKind) (own : Prop) (s : State) : Prop :=
  ∃ x, s.job? j = some x ∧ x.drain = some k ∧
    (own → x.state = .draining ∨ (x.state = k.ends ∧ ∀ d r, s.disc d = some r → r.job ≠ some j))

namespace State
variable {s t : State} {n : BayId} {c d : DiscId} {j : Nat} {k : DrainKind} {own : Prop} {m : Move} {r : Disc}

theorem hasRecords_eq_false_iff : s.hasRecords j = false ↔ ∀ d r, s.disc d = some r → r.job ≠ some j := by
  unfold hasRecords
  rw [List.any_eq_false]
  constructor
  · intro h d r hr e
    exact h d (ascends_allDiscs d).2 (by simp [hr, e])
  · intro h d _ w
    cases hr : s.disc d with
    | none => simp [hr] at w
    | some r => exact h d r hr (by simpa [hr] using w)

theorem winds_of_jobs (jobs : t.jsc.jobs = s.jsc.jobs)
    (records : ∀ d x, t.disc d = some x → ∃ y, s.disc d = some y ∧ (x.job = y.job ∨ x.job = none)) :
    s.winds j k own → t.winds j k own := by
  rintro ⟨x, hx, hk, hs⟩
  refine ⟨x, by rw [job?, jobs]; exact hx, hk, fun o => (hs o).imp_right fun ⟨e, none_⟩ => ⟨e, fun d z hz => ?_⟩⟩
  obtain ⟨y, hy, same | gone⟩ := records d z hz
  · rw [same]
    exact none_ d y hy
  · simp [gone]

theorem winds_of_discs (jobs : t.jsc.jobs = s.jsc.jobs) (discs : t.discs = s.discs) : s.winds j k own → t.winds j k own :=
  winds_of_jobs jobs fun _ x hx => ⟨x, (disc_congr discs).symm.trans hx, .inl rfl⟩

theorem winds_modDisc {f : Disc → Disc} (hf : ∀ r, (f r).job = r.job ∨ (f r).job = none) :
    s.winds j k own → (s.modDisc c f).winds j k own :=
  winds_of_jobs rfl fun d x hx => by
    by_cases e : d = c
    · subst e
      rw [disc_modDisc_self] at hx
      obtain ⟨y, hy, rfl⟩ := Option.map_eq_some_iff.1 hx
      exact ⟨y, hy, hf y⟩
    · exact ⟨x, (disc_modDisc_ne e _ s).symm.trans hx, .inl rfl⟩

/-- A change of a job that keeps its drain kind, and its state where the drain is. -/
theorem winds_modJob {i : Nat} {f : Job → Job} (number : ∀ x, (f x).number = x.number)
    (drain : ∀ x, (f x).drain = x.drain)
    (state : ∀ x, own → i = j → s.job? j = some x → x.drain = some k → x.state = .draining ∨ x.state = k.ends →
      (f x).state = x.state ∨ ((f x).state = k.ends ∧ ∀ d r, s.disc d = some r → r.job ≠ some j)) :
    s.winds j k own → (s.modJob i f).winds j k own := by
  rintro ⟨x, hx, hk, hs⟩
  by_cases e : j = i
  · subst e
    refine ⟨f x, job?_modJob_self number hx, (drain x).trans hk, fun o => ?_⟩
    rcases state x o rfl hx hk ((hs o).imp_right And.left) with same | ended
    · rw [same]
      exact hs o
    · exact .inr ended
  · exact ⟨x, (job?_modJob_ne number e).trans hx, hk, hs⟩

theorem not_live_of_winding {x : Job} (h : x.state = .draining ∨ x.state = k.ends) : x.live = false := by
  rcases h with h | h
  · simp [Job.live, h]
  · cases k <;> simp [Job.live, h, DrainKind.ends, JobState.terminal]

/-- A job that a drain ends has no record left, and takes the terminal state of its drain (R26). -/
theorem terminalOf_winding {x : Job} {y : JobState} (hx : s.job? j = some x) (hk : x.drain = some k)
    (w : x.state = .draining ∨ x.state = k.ends) (h : s.terminalOf x = some y) :
    y = k.ends ∧ ∀ d r, s.disc d = some r → r.job ≠ some j := by
  have number := (job?_mem hx).2
  unfold terminalOf at h
  rw [number] at h
  split at h
  · cases h
  next none_ =>
    refine ⟨?_, hasRecords_eq_false_iff.1 (Bool.eq_false_iff.2 none_)⟩
    rcases w with w | w
    · rw [w, hk] at h
      dsimp only at h
      split at h
      · cases k <;> exact (Option.some.inj h).symm
      · cases h
    · rw [w] at h
      cases k <;> cases h

/-- The drain of a job goes on through verdicts, the moves of the arm and the ends of other jobs (R26). -/
theorem moves_winds (j : Nat) (k : DrainKind) (own : Prop) : Moves (fun s t => s.winds j k own → t.winds j k own) where
  refl _ h := h
  trans h i w := i (h w)
  other e := winds_of_discs (congrArg (fun w => w.2.1.1) e) (congrArg (fun w => w.1.1) e)
  emit _ _ h := h
  cleared _ _ h := h
  unreserve _ _ _ h := h
  retire _ _ _ h := h
  deliver _ _ h := h
  account _ _ v _ := winds_modJob (fun _ => by cases v <;> rfl) (fun _ => by cases v <;> rfl)
    fun _ _ _ _ _ _ => .inl (by cases v <;> rfl)
  hold _ _ _ := winds_modJob (fun _ => rfl) (fun _ => rfl) fun _ _ _ _ _ _ => .inl rfl
  live hx live := winds_modJob (fun _ => rfl) (fun _ => rfl) fun y _ e hy _ w => by
    subst e
    cases hx.symm.trans hy
    simp [not_live_of_winding w] at live
  terminal {n x y s} hx ended := winds_modJob (fun _ => rfl) (fun _ => rfl) fun z _ e hz hk w => by
    subst e
    cases hx.symm.trans hz
    exact .inr (terminalOf_winding hx hk w ended)
  loads _ _ := winds_modJob (fun _ => rfl) (fun _ => rfl) fun _ _ _ _ _ _ => .inl rfl
  image _ _ _ h := h
  freed _ _ h := h
  masters _ _ h := h
  unreserved _ h := h
  ungranted _ _ h := h
  unwaited _ _ h := h
  scan s := by
    obtain ⟨r, ms, bs, e⟩ := s.scan_frame
    exact winds_of_discs (by rw [e]) (by rw [e])
  closed _ _ _ h := h
  withdrawn _ h := h
  unspared _ _ h := h
  queue _ _ h := h
  decide v _ _ _ := winds_modDisc fun r => .inl (by cases v <;> rfl)
  tsq _ _ h := h
  shut _ _ _ h := h
  opens _ _ _ h := h
  aim _ _ _ := winds_modDisc fun _ => .inl rfl

end State
end Sys2Proof.Machine
end

section
/-! PROOFS. The treatment of one record by a drain (R35): what stands elsewhere stays as it is. -/

namespace Sys2Proof.Machine

open State

/-- The LOADs that are queued, and the disc that the arm's move carries. -/
def State.freight (s : State) : List Entry × Option (Option DiscId) :=
  (s.tsq.queue.filter (fun e => e.cls == .load), s.tsq.arm.move.map (fun m => m.entry.disc))

/-- Whether the station is PRINTING, and whether it is LOADED with a disc that is stalled. -/
def State.pressing (s : State) : Bool × Bool :=
  (s.psc.state == .printing,
    s.psc.state == .loaded && (s.psc.step == some .stalledSerial || s.psc.step == some .stalledArtwork))

/-- The record at the arm is that of the arm's move. -/
def State.Carried (s : State) : Prop :=
  ∀ c x m, s.disc c = some x → x.location = .arm → s.tsq.arm.move = some m → m.entry.disc = some c

/-- A record at a place, or at none, has been treated: what stands elsewhere stays as it is. -/
structure State.Treated (l : Option Location) (s t : State) : Prop where
  places : s.keepsField Disc.location t
  freight : t.freight = s.freight
  discs : s.Carried → ∀ d r, s.disc d = some r → l ≠ some r.location → t.disc d = some r
  bays (n : BayId) : l ≠ some (.bay n) → ¬ (s.bay n).state.vacant → (t.bay n).state = (s.bay n).state
  station : l ≠ some .printer → t.pressing = s.pressing
  winds (j : Nat) (k : DrainKind) (own : Prop) : s.winds j k own → t.winds j k own

namespace State
variable {s t u : State} {n : BayId} {c d : DiscId} {l : Option Location} {m : Move} {r : Disc}

/-! ### What the operations of a treatment keep -/

theorem pressing_unreserved (s : State) : ({ s with
    psc.reservedFor := none, psc.state := if s.psc.state = .reserved then .vacant else s.psc.state } : State).pressing =
      s.pressing := by
  by_cases h : s.psc.state = .reserved
  · simp [pressing, h, show (StationState.vacant == .loaded) = false from rfl, show (StationState.reserved == .loaded) = false from rfl]
  · simp [pressing, h]

theorem moves_pressing : Moves (fun s t => t.pressing = s.pressing) where
  refl _ := rfl
  trans h k := k.trans h
  other e := by
    have psc := congrArg (fun w => w.2.2.1) e
    exact congrArg (fun p : Psc => (p.state == .printing,
      p.state == .loaded && (p.step == some .stalledSerial || p.step == some .stalledArtwork))) psc
  emit _ _ := rfl
  cleared _ _ := rfl
  unreserve _ _ _ := rfl
  retire _ _ _ := rfl
  deliver _ _ := rfl
  account _ _ _ _ := rfl
  hold _ _ _ := rfl
  live _ _ := rfl
  terminal _ _ := rfl
  loads _ _ := rfl
  image _ _ _ := rfl
  freed _ _ := rfl
  masters _ _ := rfl
  unreserved := pressing_unreserved
  ungranted _ _ := rfl
  unwaited _ _ := rfl
  scan s := by
    obtain ⟨r, ms, bs, e⟩ := s.scan_frame
    rw [e]
    rfl
  closed _ _ _ := rfl
  withdrawn _ := rfl
  unspared _ _ := rfl
  queue _ _ := rfl
  decide _ _ _ _ := rfl
  tsq _ _ := rfl
  shut _ _ _ := rfl
  opens _ _ _ := rfl
  aim _ _ _ := rfl

/-- A bay keeps its state through verdicts and the moves of the arm, unless it is one that they vacate or fill. -/
theorem moves_state (n : BayId) {x : BayState} (hx : ¬ x.vacant) : Moves (fun s t => (s.bay n).state = x → (t.bay n).state = x) where
  toDecides := decides_state n hx
  tsq _ _ h := h
  shut m s _ h := by
    by_cases e : n = m
    · subst e
      rw [moveTray, bay_modBay_self]
      exact h
    · rwa [moveTray, bay_modBay_ne e]
  opens m s ready h := by
    have ne : n ≠ m := by
      rintro rfl
      refine hx ?_
      rw [placeable, Bool.or_eq_true, Bool.and_eq_true, beq_iff_eq, beq_iff_eq] at ready
      rw [← h]
      exact ready.elim (fun e => .inr (.inl e)) fun e => .inl e.1
    rwa [openToPlace, bay_modBay_ne ne, moveTray, bay_modBay_ne ne]
  aim _ _ _ h := h

/-- The moves of the arm carry no record away. -/
theorem moves_places : Moves (State.keepsField Disc.location) where
  toDecides := judges_places.toDecides
  tsq _ _ := keepsField_of_discs rfl
  shut _ _ _ := keepsField_of_discs rfl
  opens _ _ _ := keepsField_of_discs rfl
  aim _ _ s := keepsField_modDisc s fun _ => rfl

namespace Treated

theorem refl (l : Option Location) (s : State) : s.Treated l s :=
  ⟨fun _ => rfl, rfl, fun _ _ _ h _ => h, fun _ _ _ => rfl, fun _ => rfl, fun _ _ _ h => h⟩

theorem carried (h : s.Treated l t) (hs : s.Carried) : t.Carried := fun c x m hx at_ hm => by
  have loc := (h.places c).symm
  rw [hx, Option.map_some, at_] at loc
  obtain ⟨y, hy, hl⟩ := Option.map_eq_some_iff.1 loc
  have move : t.tsq.arm.move.map (fun m => m.entry.disc) = s.tsq.arm.move.map (fun m => m.entry.disc) :=
    congrArg (fun f => f.2) h.freight
  rw [hm, Option.map_some] at move
  obtain ⟨v, hv, e⟩ := Option.map_eq_some_iff.1 move.symm
  exact e.symm.trans (hs c y v hy hl hv)

theorem trans (h : s.Treated l t) (k : t.Treated l u) : s.Treated l u where
  places d := (k.places d).trans (h.places d)
  freight := k.freight.trans h.freight
  discs hs d r hr hl := k.discs (h.carried hs) d r (h.discs hs d r hr hl) hl
  bays n hl hv := by
    have same := h.bays n hl hv
    exact (k.bays n hl (by rwa [same])).trans same
  station hl := (k.station hl).trans (h.station hl)
  winds j i own w := k.winds j i own (h.winds j i own w)

/-- Quiet operations treat no record, if they leave the freight. -/
theorem of_mild (h : ∀ {R}, Mild R → R s t) (freight : t.freight = s.freight) : s.Treated l t where
  places := h (quiet_field _).toMild
  freight := freight
  discs _ _ _ hr _ := (disc_congr (h quiet_discs.toMild)).trans hr
  bays n _ hv := h (decides_state n hv).toMild rfl
  station _ := h moves_pressing.toMild
  winds j k own := h (moves_winds j k own).toMild

theorem of_plain (h : ∀ {R}, Plain R → R s t) : s.Treated l t :=
  of_mild (fun m => h m.toPlain) (by rw [State.freight, h writes_tsq.toPlain]; rfl)

theorem of_frame (discs : t.discs = s.discs) (freight : t.freight = s.freight) (bays : t.bays = s.bays) (psc : t.psc = s.psc)
    (jobs : t.jsc.jobs = s.jsc.jobs) : s.Treated l t where
  places := keepsField_of_discs discs
  freight := freight
  discs _ _ _ hr _ := (disc_congr discs).trans hr
  bays n _ _ := by rw [bay, bay, bays]
  station _ := by rw [pressing, psc]; rfl
  winds _ _ _ := winds_of_discs jobs discs

theorem modBay {f : Bay → Bay} : s.Treated (some (.bay n)) (s.modBay n f) where
  places := keepsField_of_discs rfl
  freight := rfl
  discs _ _ _ hr _ := hr
  bays m hl _ := by rw [bay_modBay_ne fun e => hl (by rw [e])]
  station _ := rfl
  winds _ _ _ h := h

theorem modDisc {f : Disc → Disc} (at_ : (s.disc c).map Disc.location = l) (place : ∀ r, (f r).location = r.location)
    (job : ∀ r, (f r).job = r.job ∨ (f r).job = none) : s.Treated l (s.modDisc c f) where
  places := keepsField_modDisc s place
  freight := rfl
  discs _ d r hr hl := by
    refine (disc_modDisc_ne (fun e => hl ?_) _ s).trans hr
    rw [← at_, ← e, hr]
    rfl
  bays _ _ _ := rfl
  station _ := rfl
  winds _ _ _ := winds_modDisc job

theorem setStation {x : Psc} : s.Treated (some .printer) { s with psc := x } where
  places := keepsField_of_discs rfl
  freight := rfl
  discs _ _ _ hr _ := hr
  bays _ _ _ := rfl
  station h := absurd rfl h
  winds _ _ _ h := h

/-! ### The queue -/

theorem loads_append {q : List Entry} {e : Entry} (h : e.cls = .clear) :
    (q ++ [e]).filter (fun e => e.cls == .load) = q.filter (fun e => e.cls == .load) := by
  simp [List.filter_append, h]

theorem queueClear {src : Source} {dest : Dest} : s.Treated l (s.queueClear src c dest) := by
  unfold State.queueClear
  split
  · exact .refl l s
  · exact .of_frame rfl (congrArg (fun q => (q, _)) (loads_append rfl)) rfl rfl rfl

theorem clearFromBay : s.Treated l (s.clearFromBay n) := by
  unfold State.clearFromBay
  split
  · split
    · exact queueClear
    · exact .refl l s
  · exact .refl l s

theorem clearFromPrinter : s.Treated l s.clearFromPrinter := by
  unfold State.clearFromPrinter
  split
  · exact .refl l s
  · split
    · split
      · exact queueClear
      · exact .refl l s
    · exact .refl l s

theorem loads_reroute (c : DiscId) (q : List Entry) :
    (q.map (fun (e : Entry) => if e.disc = some c ∧ e.cls = .clear then { e with dest := .rej } else e)).filter
      (fun e => e.cls == .load) = q.filter (fun e => e.cls == .load) := by
  induction q with
  | nil => rfl
  | cons e q ih =>
    rw [List.map_cons]
    by_cases h : e.disc = some c ∧ e.cls = .clear
    · rw [if_pos h, List.filter_cons_of_neg (by simp [h.2]), List.filter_cons_of_neg (by simp [h.2])]
      exact ih
    · rw [if_neg h, List.filter_cons, List.filter_cons, ih]

theorem rerouteQueued : s.Treated l (s.rerouteQueued c) :=
  .of_frame rfl (congrArg (fun q => (q, s.tsq.arm.move.map (fun m => m.entry.disc))) (loads_reroute c s.tsq.queue)) rfl rfl rfl

/-! ### The block that holds the record -/

theorem writeVerdict {x : RejectCause} (hx : x.raisesFaults = false) (at_ : (s.disc c).map Disc.location = l) :
    s.Treated l (s.writeVerdict c (some x)) where
  places := judges_places.writeVerdict hx
  freight := by rw [State.freight, writes_tsq.writeVerdict_of_raised fun _ _ _ e w => by cases e; simp [hx] at w]; rfl
  discs _ d r hr hl := by
    refine (disc_writeVerdict_ne fun e => hl ?_).trans hr
    rw [← at_, ← e, hr]
    rfl
  bays n _ hv := (decides_state n hv).writeVerdict hx rfl
  station _ := moves_pressing.writeVerdict hx
  winds j k own := (moves_winds j k own).writeVerdict hx

theorem hold : s.Treated (some (.bay n)) (s.hold n) := modBay.trans clearFromBay

theorem endEarly {abort : Bool} : s.Treated (some (.bay n)) (s.endEarly n abort) := by
  have sends : s.Treated (some (.bay n)) (if abort && (s.bay n).state.working then s.toBay n .abort else s) := by
    split
    · exact .of_frame rfl rfl rfl rfl rfl
    · exact .refl _ s
  unfold State.endEarly State.teardown
  exact ((sends.trans (.of_plain fun h => h.withdraw)).trans modBay).trans hold

theorem bayOnReject : s.Treated (some (.bay n)) (s.bayOnReject n c) := by
  unfold State.bayOnReject
  split
  case h_9 => exact rerouteQueued
  case h_10 => exact clearFromBay
  case h_11 => exact .refl _ s
  all_goals exact endEarly

theorem stationOnReject : s.Treated (some .printer) (s.stationOnReject c) := by
  have leaves (s : State) : s.Treated (some .printer) s.stationLeaves :=
    (setStation (x := { s.psc with state := .loaded, step := some .leaving })).trans clearFromPrinter
  have stops : s.Treated (some .printer) s.stopArtwork :=
    (setStation (x := { s.psc with timer := none })).trans (.of_plain fun h => h.withdrawArtwork)
  unfold State.stationOnReject
  split
  · exact stops.trans (leaves _)
  · exact stops.trans (leaves _)
  · exact leaves s
  · exact leaves s
  · exact rerouteQueued
  · exact rerouteQueued
  · exact clearFromPrinter
  all_goals exact .refl _ s

end Treated

/-! ### The arm -/

theorem freight_of_unmoved (h : t.unmoved = s.unmoved) : t.freight = s.freight := by
  have queue : t.tsq.queue = s.tsq.queue := congrArg (fun w => w.2.2.1.1) h
  have core : t.tsq.arm.move.map Move.core = s.tsq.arm.move.map Move.core := congrArg (fun w => w.2.2.2) h
  have disc : t.tsq.arm.move.map (fun m => m.entry.disc) = s.tsq.arm.move.map (fun m => m.entry.disc) := by
    have := congrArg (fun w => w.map (fun c => c.1.disc)) core
    simpa [Option.map_map, Function.comp_def, Move.core] using this
  rw [freight, queue, disc]
  rfl

theorem freight_modMove {f : Move → Move} (hf : ∀ v, (f v).entry.disc = v.entry.disc) : (s.modMove f).freight = s.freight := by
  refine congrArg (fun c => (_, c)) ?_
  change (s.tsq.arm.move.map f).map _ = _
  rw [Option.map_map]
  exact congrFun (congrArg Option.map (funext hf)) _

theorem freight_reroute : (s.reroute m).freight = s.freight := by
  have dropped : (s.dropMoveRes m).freight = s.freight := by
    unfold dropMoveRes
    dsimp only
    split
    · rfl
    · rfl
    · rfl
    · split
      · rw [freight, dueSelect]
        dsimp only
        rw [writes_tsq.unreserveStation]
        rfl
      · rfl
    · rfl
    · rfl
  have closed : ((s.dropMoveRes m).closeDest m).freight = (s.dropMoveRes m).freight := by
    unfold closeDest
    split
    · split
      · exact freight_of_unmoved unmoved_closeTray
      · rfl
    · rfl
  unfold reroute
  dsimp only
  rw [freight_modMove fun _ => by rfl]
  refine Eq.trans ?_ (closed.trans dropped)
  split <;> rfl

theorem freight_travel : s.travel.freight = s.freight := by
  unfold travel
  split
  next m _ =>
    have turned : (if s.mustReroute m then s.reroute m else s).freight = s.freight := by
      split
      · exact freight_reroute
      · rfl
    dsimp only
    split
    · exact (freight_of_unmoved unmoved_goOn).trans turned
    · exact turned
  · rfl

namespace Treated

theorem travel (hx : s.disc c = some r) (at_ : r.location = .arm) : s.Treated (some .arm) s.travel where
  places := moves_places.travel
  freight := freight_travel
  discs hs d x hd away := by
    have ne : d ≠ c := by
      rintro rfl
      cases hx.symm.trans hd
      exact away (by rw [at_])
    cases hm : s.tsq.arm.move with
    | none =>
      unfold State.travel
      rw [hm]
      exact hd
    | some m => exact ((disc_travel hm (hs c r m hx at_ hm) hx).2 d ne).trans hd
  bays n _ hv := (moves_state n hv).travel rfl
  station _ := moves_pressing.travel
  winds j k own := (moves_winds j k own).travel

theorem holderOnReject (at_ : (s.disc c).map Disc.location = l) : s.Treated l (s.holderOnReject c) := by
  subst at_
  unfold State.holderOnReject
  split
  next n e =>
    rw [e]
    exact bayOnReject
  next e =>
    rw [e]
    exact stationOnReject
  next e =>
    rw [e]
    obtain ⟨r, hr, at_⟩ := Option.map_eq_some_iff.1 e
    unfold State.armOnReject
    split
    · split
      · exact travel hr at_
      · exact .refl _ s
    · exact .refl _ s
  · exact .refl _ s

theorem cancelDisc (at_ : (s.disc c).map Disc.location = l) : s.Treated l (s.cancelDisc c) := by
  unfold State.cancelDisc
  split
  · have written := writeVerdict (s := s) (x := .cancelled) rfl at_
    exact written.trans (holderOnReject ((written.places c).trans at_))
  · exact .refl l s

theorem endSpareHold : s.Treated (some (.bay n)) (s.endSpareHold n) := by
  have held : s.Treated (some (.bay n)) (s.setSpareHold n none) := .of_plain fun h => h.unspared n s
  unfold State.endSpareHold
  dsimp only
  split
  next d hd =>
    obtain ⟨r, hr, at_⟩ := discAt_eq_some hd
    split
    · exact held.trans (cancelDisc (by rw [hr, Option.map_some, at_]))
    · exact held
  · exact held

theorem bayToSpare : s.Treated (some (.bay n)) (s.bayToSpare n) := by
  have turned : s.Treated (some (.bay n)) (s.bayTo n .spare) := modBay
  unfold State.bayToSpare State.spareOffline
  refine Treated.trans ?_ (.of_plain fun h => h.dueBoth)
  split
  · exact turned.trans endSpareHold
  · exact turned

theorem makeSpare (at_ : (s.disc c).map Disc.location = some (.bay n)) :
    s.Treated (some (.bay n)) (s.makeSpare c n) := by
  have turned : s.Treated (some (.bay n))
      (s.modDisc c (fun r => { r with purpose := .spare, job := none, attempt := none })) :=
    modDisc at_ (fun _ => rfl) fun _ => .inr rfl
  have held (x : Timer) (u : State) : u.Treated (some (.bay n)) (u.setSpareHold n x) := .of_frame rfl rfl rfl rfl rfl
  have stops (u : State) : u.Treated (some (.bay n)) ((u.stopForSpare n).bayToSpare n) := by
    have stopped : u.Treated (some (.bay n)) (u.stopForSpare n) := Treated.trans (.of_plain fun h => h.withdraw) modBay
    exact stopped.trans bayToSpare
  have begun := turned.trans (held (some Config.spareHoldMs) _)
  unfold State.makeSpare
  dsimp only
  split
  · refine Treated.trans ?_ (.of_plain fun h => h.trans h.terminalTest h.dueBoth)
    split
    · exact begun.trans (stops _)
    · exact begun.trans (stops _)
    · exact begun
  · refine Treated.trans ?_ (.of_plain fun h => h.dueBoth)
    split
    · exact begun.trans (stops _)
    · exact begun.trans (stops _)
    · exact begun

/-- A drain treats one record (R35): what stands elsewhere stays as it is. -/
theorem drainDisc {hard : Bool} (hr : s.disc c = some r) :
    s.Treated (some r.location) (s.drainDisc hard c) := by
  have at_ : (s.disc c).map Disc.location = some r.location := by rw [hr]; rfl
  unfold State.drainDisc
  rw [hr]
  dsimp only
  split
  · split
    · split
      · exact cancelDisc at_
      · exact .refl _ s
    · split
      · exact .refl _ s
      · split
        · exact cancelDisc at_
        · exact .refl _ s
    next n hl =>
      rw [hl] at at_ ⊢
      split
      · exact makeSpare at_
      · split
        · exact cancelDisc at_
        · exact .refl _ s
  · exact .refl _ s

end Treated
end State
end Sys2Proof.Machine
end

section
/-! PROOFS. The drain of a job record by record (O23): each is treated by its position, and the others stay (R34, R35). -/

namespace Sys2Proof.Machine

open State

/-- A record stands alone at its place, and the record at the arm is that of the move. -/
structure State.Stands (d : DiscId) (r : Disc) (s : State) : Prop where
  found : s.disc d = some r
  carried : s.Carried
  alone (c : DiscId) (x : Disc) : c ≠ d → s.disc c = some x → x.location ≠ r.location

/-- The place of a record stays as it is, and what was sent stays sent. -/
structure State.Aside (r : Disc) (s t : State) : Prop where
  bay (n : BayId) : r.location = .bay n → ¬ (s.bay n).state.vacant → (t.bay n).state = (s.bay n).state
  station : r.location = .printer → t.pressing = s.pressing

/-- A record is rejected CANCELLED. -/
def State.cancelledAt (d : DiscId) (s : State) : Prop :=
  (s.disc d).map Disc.verdict = some .reject ∧ (s.disc d).bind Disc.cause = some .cancelled

/-- A record is a spare, and no job's. -/
def State.spareAt (d : DiscId) (s : State) : Prop :=
  (s.disc d).map Disc.purpose = some .spare ∧ (s.disc d).bind Disc.job = none

/-- A drain's treatment of a PENDING or final record by its position, from the state `s` to the state `u` (R35, R184). -/
def State.treats (s : State) (hard : Prop) (d : DiscId) (r : Disc) (u : State) : Prop :=
  let kept := u.disc d = some r
  let blank := r.steps.isEmpty = true
  let stalled := s.psc.state = .loaded ∧ (s.psc.step = some .stalledSerial ∨ s.psc.step = some .stalledArtwork)
  (r.verdict ≠ .pending → kept) ∧
  (r.verdict = .pending →
    (r.location = .arm → (blank ∨ ¬hard → kept) ∧ (¬blank → hard → u.cancelledAt d)) ∧
    (r.location = .printer →
      (s.psc.state = .printing → kept) ∧
      (s.psc.state ≠ .printing → blank ∨ hard ∨ stalled → u.cancelledAt d) ∧
      (s.psc.state ≠ .printing → ¬blank → ¬hard → ¬stalled → kept)) ∧
    (∀ n, r.location = .bay n →
      let st := (s.bay n).state
      let working := st = .writing ∨ st = .closing ∨ st = .verifying
      (blank → st = .trayOut ∨ st = .probing ∨ st = .grantWait ∨ st = .prefill → u.spareAt d) ∧
      (¬blank ∨ working → (¬hard → kept) ∧ (hard → u.cancelledAt d)) ∧
      (working → hard → .bay n .abort ∈ u.sent)))

namespace State
variable {s t u v : State} {n : BayId} {c d : DiscId} {m : Move} {r r' : Disc} {hard : Prop} {j : Nat} {k : DrainKind}

/-! ### One record -/

theorem upsets_cancelled (d : DiscId) : Upsets (fun s t => s.cancelledAt d → t.cancelledAt d) := by
  have keeps (s t : State) (e : t.discs = s.discs) (h : s.cancelledAt d) : t.cancelledAt d := by
    rwa [cancelledAt, disc_congr e]
  have mods (s : State) (c : DiscId) (f : Disc → Disc) (hf : s.cancelledAt d → c = d →
      ∀ r, s.disc d = some r → (f r).verdict = r.verdict ∧ (f r).cause = r.cause) (h : s.cancelledAt d) :
      (s.modDisc c f).cancelledAt d := by
    by_cases e : d = c
    · subst e
      cases hd : s.disc d with
      | none => simp [cancelledAt, hd] at h
      | some r =>
        obtain ⟨verdict, cause⟩ := hf h rfl r hd
        rw [cancelledAt, hd] at h
        rw [cancelledAt, disc_modDisc_self, hd, Option.map_some, Option.map_some, Option.bind_some, verdict, cause]
        exact h
    · rwa [cancelledAt, disc_modDisc_ne e]
  have fixed {s : State} {c : DiscId} {r : Disc} (hr : s.disc c = some r) (hp : r.verdict = .pending)
      (h : s.cancelledAt d) (e : c = d) : False := by
    subst e
    simp [cancelledAt, hr, hp] at h
  have quiet : Quiet (fun s t => s.cancelledAt d → t.cancelledAt d) := .of_discs keeps fun h k w => k (h w)
  exact
    { toMild := quiet.toMild
      loaded := fun _ h => h
      tsq := fun _ _ h => h
      account := fun _ _ _ _ h => h
      decide := fun {c r} _ {s} hr hp => mods s c _ fun h e => (fixed hr hp h e).elim
      settle := fun _ _ _ _ h => h
      spare := fun {c r s} hr hp => mods s c _ fun h e => (fixed hr hp h e).elim
      spared := fun _ _ h => h
      operate := fun _ _ _ _ h => h
      emptied := fun _ _ h => h
      shut := fun _ _ _ h => h
      opens := fun _ _ _ h => h
      halt := fun _ _ _ h => h
      aim := fun c x s => mods s c _ fun _ _ _ _ => ⟨rfl, rfl⟩
      lose := fun {_ _} _ {_} _ _ h => h
      ready := fun {i x s} _ _ h => h
      done := fun _ _ h => h }

theorem cancelDisc_of_pending (hr : s.disc d = some r) (hp : r.verdict = .pending) :
    s.cancelDisc d = (s.writeVerdict d (some .cancelled)).holderOnReject d := by
  rw [cancelDisc, hr, Option.any_some, hp]
  rfl

theorem cancelDisc_cancelled (hr : s.disc d = some r) (hp : r.verdict = .pending) : (s.cancelDisc d).cancelledAt d := by
  rw [cancelDisc_of_pending hr hp]
  refine (upsets_cancelled d).holderOnReject ?_
  rw [cancelledAt, disc_writeVerdict hr hp]
  exact ⟨rfl, rfl⟩

/-- The cancellation of a disc at a bay that works stops its drive (R119). -/
theorem abort_mem_cancelDisc (hr : s.disc d = some r) (hp : r.verdict = .pending) (at_ : r.location = .bay n)
    (working : (s.bay n).state = .writing ∨ (s.bay n).state = .closing ∨ (s.bay n).state = .verifying) :
    .bay n .abort ∈ (s.cancelDisc d).sent := by
  have works : (s.bay n).state.working = true := by rcases working with e | e | e <;> rw [e] <;> rfl
  have state : ((s.writeVerdict d (some .cancelled)).bay n).state = (s.bay n).state :=
    (decides_state n (BayState.not_vacant_of_operates (by rw [BayState.operates, works]; rfl))).writeVerdict rfl rfl
  have place : ((s.writeVerdict d (some .cancelled)).disc d).map Disc.location = some (.bay n) := by
    rw [disc_writeVerdict hr hp, Option.map_some, ← at_]
    rfl
  rw [cancelDisc_of_pending hr hp]
  unfold holderOnReject
  rw [place]
  have ended : (s.writeVerdict d (some .cancelled)).bayOnReject n d = (s.writeVerdict d (some .cancelled)).endEarly n true := by
    unfold bayOnReject
    rcases working with e | e | e <;> rw [state, e]
  change _ ∈ ((s.writeVerdict d (some .cancelled)).bayOnReject n d).sent
  rw [ended]
  exact abort_mem_endEarly (by rw [state]; exact works)

/-- A blank that becomes a spare is one, and no job's (R8). -/
theorem makeSpare_spare (hr : s.disc d = some r) : (s.makeSpare d n).spareAt d := by
  have made := (judges_field (f := fun r => (r.purpose, r.job)) fun v _ => by cases v <;> rfl).spareMade
    (s := s) (d := d) (n := n) d
  have turned : ((s.modDisc d (fun r => { r with purpose := .spare, job := none, attempt := none })).setSpareHold n
      (some Config.spareHoldMs)).disc d = some { r with purpose := .spare, job := none, attempt := none } :=
    (disc_modDisc_self ..).trans (congrArg _ hr)
  rw [turned] at made
  obtain ⟨x, hx, e⟩ := Option.map_eq_some_iff.1 made
  rw [spareAt, hx]
  exact ⟨congrArg (fun p : Purpose × Option Nat => some p.1) e, congrArg (fun p : Purpose × Option Nat => p.2) e⟩

theorem isPrinting_eq (h : r.location = .printer) : v.isPrinting r = (v.psc.state == .printing) := by
  rw [isPrinting, h]
  rfl

theorem isBlank_of_away (h : r.location ≠ .printer) : v.isBlank r = r.steps.isEmpty := by
  have no : (r.location == .printer) = false := beq_eq_false_iff_ne.2 h
  rw [isBlank, isPrinting, no]
  simp

theorem drainDisc_of_final {b : Bool} (hr : v.disc d = some r) (final : r.verdict ≠ .pending) : v.drainDisc b d = v := by
  rw [drainDisc, hr]
  exact if_neg final

theorem drainDisc_of_arm {b : Bool} (hr : v.disc d = some r) (hp : r.verdict = .pending) (at_ : r.location = .arm) :
    v.drainDisc b d = if b && !r.steps.isEmpty then v.cancelDisc d else v := by
  rw [drainDisc, hr]
  dsimp only
  rw [if_pos hp, at_]
  dsimp only
  rw [isBlank_of_away (by simp [at_])]

theorem drainDisc_of_printer {b : Bool} (hr : v.disc d = some r) (hp : r.verdict = .pending) (at_ : r.location = .printer) :
    v.drainDisc b d = if v.pressing.1 then v else if b || r.steps.isEmpty || v.pressing.2 then v.cancelDisc d else v := by
  have prints : v.isPrinting r = v.pressing.1 := isPrinting_eq at_
  have stalls : v.isStalled r = v.pressing.2 := by
    rw [isStalled, at_]
    rfl
  rw [drainDisc, hr]
  dsimp only
  rw [if_pos hp, at_]
  dsimp only
  rw [isBlank, prints, stalls]
  split
  · rfl
  next no => rw [Bool.eq_false_iff.2 no, Bool.not_false, Bool.and_true]

theorem drainDisc_of_bay {b : Bool} (hr : v.disc d = some r) (hp : r.verdict = .pending) (at_ : r.location = .bay n) :
    v.drainDisc b d = if r.steps.isEmpty && (v.bay n).state.beforeWriting then v.makeSpare d n
      else if b then v.cancelDisc d else v := by
  rw [drainDisc, hr]
  dsimp only
  rw [if_pos hp, at_]
  dsimp only
  rw [isBlank_of_away (by simp [at_])]

/-- The treatment of a record by its position, by the place as it stood when the drain began (R35). -/
theorem drainDisc_treats [Decidable hard] (hr : v.disc d = some r) (same : s.Aside r v) :
    s.treats hard d r (v.drainDisc (decide hard) d) := by
  refine ⟨fun final => by rwa [drainDisc_of_final hr final], fun hp => ⟨fun at_ => ?arm, fun at_ => ?printer, fun n at_ => ?bay⟩⟩
  case arm =>
    rw [drainDisc_of_arm hr hp at_]
    refine ⟨fun stays => ?_, fun blank hard => ?_⟩
    · rw [if_neg (by rcases stays with e | e <;> simp [e])]
      exact hr
    · rw [if_pos (by simp [blank, hard])]
      exact cancelDisc_cancelled hr hp
  case printer =>
    have pressing := same.station at_
    rw [drainDisc_of_printer hr hp at_, pressing]
    refine ⟨fun prints => ?_, fun idle ends => ?_, fun idle blank soft live => ?_⟩
    · rw [if_pos (by simp [State.pressing, prints])]
      exact hr
    · rw [if_neg (by simp [State.pressing, idle]), if_pos (by rcases ends with e | e | e <;> simp [e, State.pressing])]
      exact cancelDisc_cancelled hr hp
    · rw [if_neg (by simp [State.pressing, idle]), if_neg (by simp [blank, soft, State.pressing]; exact fun l => not_or.1 fun e => live ⟨l, e⟩)]
      exact hr
  case bay =>
    have state (x : BayState) (e : (s.bay n).state = x) (hx : ¬ x.vacant) : (v.bay n).state = x :=
      (same.bay n at_ (by rwa [e])).trans e
    rw [drainDisc_of_bay hr hp at_]
    intro st working
    have works (w : working) : (v.bay n).state.beforeWriting = false ∧
        ((v.bay n).state = .writing ∨ (v.bay n).state = .closing ∨ (v.bay n).state = .verifying) := by
      rcases w with e | e | e <;> rw [state _ e (by simp [BayState.vacant])] <;> simp [BayState.beforeWriting]
    have on (h : ¬ r.steps.isEmpty = true ∨ working) : (r.steps.isEmpty && (v.bay n).state.beforeWriting) = false := by
      rcases h with e | w
      · simp [e]
      · simp [(works w).1]
    refine ⟨fun blank before => ?_, fun h => ⟨fun soft => ?_, fun hard => ?_⟩, fun w hard => ?_⟩
    · have early : (v.bay n).state.beforeWriting = true := by
        rcases before with e | e | e | e <;> rw [state _ e (by simp [BayState.vacant])] <;> rfl
      rw [if_pos (by simp [blank, early])]
      exact makeSpare_spare hr
    · rw [on h, if_neg (by simp), if_neg (by simp [soft])]
      exact hr
    · rw [on h, if_neg (by simp), if_pos (by simp [hard])]
      exact cancelDisc_cancelled hr hp
    · rw [on (.inr w), if_neg (by simp), if_pos (by simp [hard])]
      exact abort_mem_cancelDisc hr hp at_ (works w).2

end State
end Sys2Proof.Machine
end

section
/-! PROOFS. CANCEL-JOB (O23): a drain begins or is hardened, record by record (R34 to R36, R26). -/

namespace Sys2Proof.Machine

open State

namespace State
variable {s t u v : State} {n : BayId} {c d : DiscId} {r r' : Disc} {hard : Prop} {j : Nat} {k : DrainKind} {own : Prop}

/-! ### All records of a job -/

theorem Aside.refl (r : Disc) (s : State) : s.Aside r s := ⟨fun _ _ _ => rfl, fun _ => rfl⟩

theorem Aside.trans (h : s.Aside r t) (k : t.Aside r u) : s.Aside r u where
  bay n at_ hv := by
    have same := h.bay n at_ hv
    exact (k.bay n at_ (by rwa [same])).trans same
  station at_ := (k.station at_).trans (h.station at_)

theorem Treated.aside {l : Option Location} (h : s.Treated l t) (away : l ≠ some r.location) : s.Aside r t where
  bay n at_ := h.bays n (by rwa [← at_])
  station at_ := h.station (by rwa [← at_])

/-- A record that stands alone goes on standing so when one at another place is treated. -/
theorem Stands.treated {l : Option Location} (hs : s.Stands d r) (h : s.Treated l t) (found : t.disc d = some r')
    (same : r'.location = r.location) : t.Stands d r' where
  found := found
  carried := h.carried hs.carried
  alone c x ne hx := by
    have place := (h.places c).symm
    rw [hx, Option.map_some] at place
    obtain ⟨y, hy, e⟩ := Option.map_eq_some_iff.1 place
    rw [same, ← e]
    exact hs.alone c y ne hy

/-- One record's turn in the drain of a job (R35). -/
def drainTurn (j : Nat) (b : Bool) (d : DiscId) (s : State) : State :=
  if (s.disc d).any (fun r => r.job == some j) then s.drainDisc b d else s

theorem drainDiscs_eq {b : Bool} : s.drainDiscs j b = forEach allDiscs (drainTurn j b) s := rfl

theorem drainTurn_treated {b : Bool} : ∃ l, s.Treated l (drainTurn j b c s) ∧ l = (s.disc c).map Disc.location := by
  unfold drainTurn
  cases hc : s.disc c with
  | none => exact ⟨none, .refl _ s, rfl⟩
  | some x =>
    refine ⟨some x.location, ?_, rfl⟩
    rw [Option.any_some]
    split
    · exact .drainDisc hc
    · exact .refl _ s

/-- The turns of other records leave a record that stands alone, and its place, as they are. -/
theorem Stands.turns {b : Bool} (cs : List DiscId) (others : d ∉ cs) (hs : s.Stands d r) :
    (forEach cs (drainTurn j b) s).Stands d r ∧ s.Aside r (forEach cs (drainTurn j b) s) := by
  induction cs generalizing s with
  | nil => exact ⟨hs, .refl r s⟩
  | cons c cs ih =>
    rw [List.mem_cons, not_or] at others
    obtain ⟨l, treated, hl⟩ := drainTurn_treated (j := j) (b := b) (s := s) (c := c)
    have away : l ≠ some r.location := fun e => by
      obtain ⟨x, hx, at_⟩ := Option.map_eq_some_iff.1 (hl.symm.trans e)
      exact hs.alone c x (Ne.symm others.1) hx at_
    obtain ⟨stands, aside⟩ := ih others.2 (hs.treated treated (treated.discs hs.carried d r hs.found away) rfl)
    rw [forEach_cons]
    exact ⟨stands, (treated.aside away).trans aside⟩

theorem upsets_turns {R : State → State → Prop} (h : Upsets R) {b : Bool} (cs : List DiscId) (s : State) :
    R s (forEach cs (drainTurn j b) s) := h.each cs s fun _ _ => h.ite h.drainDisc

/-- In the drain of its job a record has one turn, at its place as it stood (R35). -/
theorem drainDiscs_turn {b : Bool} (hs : s.Stands d r) (mine : r.job = some j) :
    ∃ v, v.disc d = some r ∧ s.Aside r v ∧ (s.drainDiscs j b).disc d = (v.drainDisc b d).disc d ∧
      (v.drainDisc b d).sent <+: (s.drainDiscs j b).sent := by
  have listed : d ∈ allDiscs := (ascends_allDiscs d).2
  obtain ⟨before, after, split⟩ := List.append_of_mem listed
  have once : allDiscs.Nodup := by decide
  rw [split, List.nodup_append] at once
  obtain ⟨-, own, apart⟩ := once
  have notBefore : d ∉ before := fun h => apart d h d (List.mem_cons_self ..) rfl
  have notAfter : d ∉ after := (List.nodup_cons.1 own).1
  obtain ⟨stands, aside⟩ := hs.turns (j := j) (b := b) before notBefore
  generalize hv : forEach before (drainTurn j b) s = v at stands aside
  have turn : drainTurn j b d v = v.drainDisc b d := by
    rw [drainTurn, stands.found, Option.any_some, mine, beq_self_eq_true]
    rfl
  have all : s.drainDiscs j b = forEach after (drainTurn j b) (v.drainDisc b d) := by
    rw [drainDiscs_eq, split, ← turn, ← hv]
    exact List.foldl_append ..
  have treated := Treated.drainDisc (hard := b) stands.found
  have place := treated.places d
  rw [stands.found, Option.map_some] at place
  obtain ⟨x, hx, at_⟩ := Option.map_eq_some_iff.1 place
  have kept := ((stands.treated treated hx at_).turns (j := j) (b := b) after notAfter).1.found
  refine ⟨v, stands.found, aside, ?_, ?_⟩
  · rw [all, kept, hx]
  · rw [all]
    exact upsets_turns upsets_sent after _

theorem treats_congr (discs : u.disc d = v.disc d) (sent : v.sent <+: u.sent) (h : s.treats hard d r v) :
    s.treats hard d r u := by
  unfold treats at h ⊢
  rw [cancelledAt, spareAt] at h ⊢
  rw [discs]
  obtain ⟨final, pending⟩ := h
  refine ⟨final, fun hp => ?_⟩
  obtain ⟨arm, printer, bay⟩ := pending hp
  refine ⟨arm, printer, fun n at_ => ?_⟩
  obtain ⟨blank, on, aborts⟩ := bay n at_
  exact ⟨blank, on, fun w hard => sent.mem (aborts w hard)⟩

/-- What quiet operations leave of a record that stands alone. -/
theorem Stands.mild (hs : s.Stands d r) (h : ∀ {R}, Mild R → R s t) : t.Stands d r ∧ s.Aside r t := by
  have place : t.place = s.place := h mild_place
  have discs : t.discs = s.discs := congrArg (fun p => p.1) place
  have arm : t.tsq.arm = s.tsq.arm := congrArg (fun p => p.2.1) place
  refine ⟨⟨(disc_congr discs).trans hs.found, fun c x m hx at_ hm => ?_, fun c x ne hx => ?_⟩,
    fun n _ hv => h (decides_state n hv).toMild rfl, fun _ => h moves_pressing.toMild⟩
  · exact hs.carried c x m ((disc_congr discs).symm.trans hx) at_ (by rwa [arm] at hm)
  · exact hs.alone c x ne ((disc_congr discs).symm.trans hx)

/-! ### A drain begins, or is hardened -/

/-- The job begins to drain, and its LOADs leave the queue (R34, R36). -/
def drainBegun (j : Nat) (k : DrainKind) (s : State) : State :=
  let t := s.modJob j (fun x => { x with drain := some k, state := .draining })
  forEach (t.loadsOf j) dropLoad t

theorem startDrain_eq : s.startDrain j k =
    ((((s.drainBegun j k).drainDiscs j (decide (k = .hard))).terminalTest j).duePass) := rfl

/-- The drain of a job treats each of its records by its position (R35). -/
theorem drained_treats [Decidable hard] (mine : r.job = some j) (begun : t.Stands d r ∧ s.Aside r t)
    (discs : u.discs = (t.drainDiscs j (decide hard)).discs) (sent : (t.drainDiscs j (decide hard)).sent <+: u.sent) :
    s.treats hard d r u := by
  obtain ⟨stands, aside⟩ := begun
  obtain ⟨v, hv, near, same, told⟩ := drainDiscs_turn (b := decide hard) stands mine
  exact treats_congr ((disc_congr discs).trans same) (told.trans sent) (drainDisc_treats hv (aside.trans near))

theorem startDrain_treats (hs : s.Stands d r) (mine : r.job = some j) :
    s.treats (k = .hard) d r (s.startDrain j k) := by
  have marked : (s.modJob j (fun x => { x with drain := some k, state := .draining })).Stands d r :=
    ⟨hs.found, hs.carried, hs.alone⟩
  obtain ⟨stands, aside⟩ := marked.mild (t := s.drainBegun j k) fun h => h.each _ _ fun _ _ => h.dropLoad
  refine drained_treats mine ⟨stands, aside.bay, aside.station⟩ ?_ ?_
  · rw [startDrain_eq]
    exact quiet_discs.trans quiet_discs.terminalTest quiet_discs.duePass
  · rw [startDrain_eq]
    exact upsets_sent.trans upsets_sent.terminalTest upsets_sent.duePass

theorem hardenDrain_treats (hs : s.Stands d r) (mine : r.job = some j) : s.treats True d r (s.hardenDrain j) := by
  have begun : (s.modJob j (fun x => { x with drain := some .hard })).Stands d r ∧
      s.Aside r (s.modJob j (fun x => { x with drain := some .hard })) :=
    ⟨⟨hs.found, hs.carried, hs.alone⟩, fun _ _ _ => rfl, fun _ => rfl⟩
  generalize ht : s.modJob j (fun x => { x with drain := some .hard }) = t at begun
  have all : s.hardenDrain j = (t.drainDiscs j true).terminalTest j := by rw [← ht]; rfl
  rw [all]
  refine drained_treats (hard := True) mine begun ?_ ?_
  · rw [decide_true]
    exact quiet_discs.terminalTest
  · rw [decide_true]
    exact upsets_sent.terminalTest

/-! ### The job -/

theorem drainDiscs_treated {b : Bool} (cs : List DiscId) (P : State → State → Prop) (refl : ∀ s, P s s)
    (trans : ∀ s t u, P s t → P t u → P s u) (one : ∀ l s t, Treated l s t → P s t) :
    P s (forEach cs (drainTurn j b) s) := by
  induction cs generalizing s with
  | nil => exact refl s
  | cons c cs ih =>
    obtain ⟨l, treated, -⟩ := drainTurn_treated (j := j) (s := s) (b := b) (c := c)
    exact trans _ _ _ (one l _ _ treated) ih

theorem drainDiscs_winds {b : Bool} (h : s.winds j k own) : (s.drainDiscs j b).winds j k own :=
  drainDiscs_treated (j := j) (b := b) allDiscs (fun s t => s.winds j k own → t.winds j k own) (fun _ h => h)
    (fun _ _ _ h i w => i (h w)) (fun _ _ _ h => h.winds j k own) h

theorem drainDiscs_freight {b : Bool} : (s.drainDiscs j b).freight = s.freight :=
  drainDiscs_treated (j := j) (b := b) allDiscs (fun s t => t.freight = s.freight) (fun _ => rfl)
    (fun _ _ _ h i => i.trans h) fun _ _ _ h => h.freight

theorem mild_winds (h : ∀ {R}, Mild R → R s t) : s.winds j k own → t.winds j k own := h (moves_winds j k own).toMild

theorem startDrain_winds {x : Job} (hx : s.job? j = some x) : ((s.drainBegun j k).drainDiscs j (decide (k = .hard))).winds j k True := by
  refine drainDiscs_winds (mild_winds (fun h => h.each _ _ fun _ _ => h.dropLoad) ?_)
  exact ⟨_, job?_modJob_self (fun _ => rfl) hx, rfl, fun _ => .inl rfl⟩

theorem hardenDrain_drain {x : Job} (hx : s.job? j = some x) : ((s.hardenDrain j).job? j).map Job.drain = some (some .hard) := by
  have marked : (s.modJob j (fun x => { x with drain := some .hard })).winds j .hard False :=
    ⟨_, job?_modJob_self (fun _ => rfl) hx, rfl, False.elim⟩
  obtain ⟨y, hy, hk, -⟩ := (moves_winds j .hard False).terminalTest (k := j) (drainDiscs_winds (b := true) marked)
  change ((s.hardenDrain j).job? j) = some y at hy
  rw [hy, Option.map_some, hk]

theorem dropRef_jobs {i : Nat} : (s.dropRef i).jsc = s.jsc := by
  obtain ⟨c, e⟩ := freeTest_frame i (s.modImage i (fun x => { x with refs := x.refs - 1 }))
  rw [dropRef, e]
  rfl

theorem terminalTest_of_none {x : Job} (hx : s.job? j = some x) (h : s.terminalOf x = none) : s.terminalTest j = s := by
  rw [terminalTest, hx]
  dsimp only
  rw [h]

/-- A job that has reached a terminal state takes it (R26). -/
theorem terminalTest_of_some {x : Job} {y : JobState} (hx : s.job? j = some x) (h : s.terminalOf x = some y) :
    (s.terminalTest j).job? j = some { x with state := y } := by
  have drops (is : List Nat) (t : State) : (forEach is State.dropRef t).jsc = t.jsc := by
    induction is generalizing t with
    | nil => rfl
    | cons i is ih => rw [forEach_cons, ih, dropRef_jobs]
  have jobs : (s.terminalTest j).jsc = (s.modJob j (fun x => { x with state := y })).jsc := by
    rw [terminalTest, hx]
    dsimp only
    rw [h]
    exact (drops _ _).trans (drops _ _)
  rw [job?, jobs]
  exact job?_modJob_self (fun _ => rfl) hx

/-- A drained job is CANCELLED once no record of it is left and no load is pending (R26). -/
theorem startDrain_cancelled {x : Job} (hx : s.job? j = some x) (kind : k.ends = .cancelled)
    (none_ : ∀ d r, (s.startDrain j k).disc d = some r → r.job ≠ some j)
    (loads : ((s.startDrain j k).job? j).map Job.loads = some 0) :
    ((s.startDrain j k).job? j).map Job.state = some .cancelled := by
  generalize hw : (s.drainBegun j k).drainDiscs j (decide (k = .hard)) = w
  obtain ⟨y, hy, hk, state⟩ : w.winds j k True := hw ▸ startDrain_winds hx
  have all : s.startDrain j k = (w.terminalTest j).duePass := by rw [startDrain_eq, hw]
  rw [all] at none_ loads ⊢
  change ((w.terminalTest j).job? j).map Job.loads = some 0 at loads
  change ((w.terminalTest j).job? j).map Job.state = some .cancelled
  have discs : (w.terminalTest j).duePass.discs = w.discs := quiet_discs.trans quiet_discs.terminalTest quiet_discs.duePass
  have ended := state trivial
  cases ht : w.terminalOf y with
  | some z =>
    have at_ := (terminalOf_winding hy hk (ended.imp_right And.left) ht).1
    rw [terminalTest_of_some hy ht, Option.map_some, at_, kind]
  | none =>
    rw [terminalTest_of_none hy ht, hy] at loads ⊢
    rcases ended with draining | done
    · have gone : w.hasRecords j = false :=
        hasRecords_eq_false_iff.2 fun d r hr => none_ d r ((disc_congr discs).trans hr)
      have zero : y.loads = 0 := by simpa using loads
      rw [terminalOf, (job?_mem hy).2, gone, draining, hk] at ht
      cases k <;> simp [zero] at ht
    · rw [Option.map_some, done.1, kind]

/-- A job that has begun to drain is DRAINING while a record of it is left (R26). -/
theorem startDrain_state {x : Job} (hx : s.job? j = some x) : (s.startDrain j k).winds j k True :=
  (moves_winds j k True).trans (moves_winds j k True).terminalTest (moves_winds j k True).duePass (startDrain_winds hx)

/-! ### The queue (R36) -/

theorem dropLoad_queue {e : Entry} : (s.dropLoad e).tsq.queue = s.tsq.queue.filter (fun x => x != e) := by
  unfold dropLoad
  dsimp only
  split
  · refine (congrArg Tsq.queue (writes_tsq.trans (writes_tsq.trans writes_tsq.dropCopyRes writes_tsq.loadGone)
      rfl)).trans ?_
    rfl
  · rfl

theorem dropLoads_queue (es : List Entry) :
    (forEach es dropLoad s).tsq.queue = s.tsq.queue.filter (fun x => !es.contains x) := by
  induction es generalizing s with
  | nil => exact (List.filter_eq_self.2 fun _ _ => rfl).symm
  | cons e es ih =>
    rw [forEach_cons, ih, dropLoad_queue, List.filter_filter]
    refine List.filter_congr fun x _ => ?_
    rw [List.contains_cons, Bool.not_or, Bool.and_comm]
    rfl

theorem loads_of_freight (h : t.freight = s.freight) {e : Entry} (load : e.cls = .load) :
    e ∈ t.tsq.queue ↔ e ∈ s.tsq.queue := by
  have same : t.tsq.queue.filter (fun e => e.cls == .load) = s.tsq.queue.filter (fun e => e.cls == .load) :=
    congrArg (fun f : List Entry × Option (Option DiscId) => f.1) h
  have here (q : List Entry) : e ∈ q ↔ e ∈ q.filter (fun e => e.cls == .load) := by simp [List.mem_filter, load]
  rw [here, same, ← here]

theorem mem_drainBegun_loads {e : Entry} (load : e.cls = .load) :
    e ∈ (s.drainBegun j k).tsq.queue ↔ e ∈ s.tsq.queue ∧ e.job ≠ some j := by
  unfold drainBegun
  generalize ht : s.modJob j (fun x => { x with drain := some k, state := .draining }) = t
  have queue : t.tsq.queue = s.tsq.queue := by rw [← ht]; rfl
  dsimp only
  rw [dropLoads_queue, List.mem_filter, queue]
  refine and_congr_right fun listed => ?_
  simp [loadsOf, load, queue, listed]

theorem mem_startDrain_loads {e : Entry} (load : e.cls = .load) :
    e ∈ (s.startDrain j k).tsq.queue ↔ e ∈ s.tsq.queue ∧ e.job ≠ some j := by
  have kept : (s.startDrain j k).freight = (s.drainBegun j k).freight := by
    have ended (w : State) : ((w.terminalTest j).duePass).freight = w.freight := by
      rw [State.freight, show ((w.terminalTest j).duePass).tsq = w.tsq from writes_tsq.terminalTest]
      rfl
    exact (ended _).trans drainDiscs_freight
  exact (loads_of_freight kept load).trans (mem_drainBegun_loads load)

end State

/-- Settles O23, by the records of the job in turn: what stands elsewhere keeps its place until its own turn comes. -/
theorem cancellingAJob : Obligations.CancellingAJob := by
  intro s p tag job code k j hj acts alive kind held treated
  have found : s.begin.job? job = some j := hj
  have may : s.begin.actsFor p j = true := actsFor_iff.2 acts
  have drains : k.ends = .cancelled := by
    unfold drainOf ofCode at kind
    split at kind
    · cases kind
    · have : k = .soft ∨ k = .hard := by simpa using List.mem_of_getElem? kind
      rcases this with rfl | rfl <;> rfl
  have owned (u : State) (h : s.begin.cancel job j.drain k = u) :
      ownCancelJob p job code s.begin = (u, .good (u.stateBytes job)) := by
    rw [ownCancelJob, found, kind]
    simp only [may, alive, Bool.not_true, Bool.false_eq_true, if_false]
    rw [h]
  have stands (carried : ∀ c x m, s.disc c = some x → x.location = .arm → s.tsq.arm.move = some m → m.entry.disc = some c)
      (d : DiscId) (r : Disc) (hr : s.disc d = some r)
      (alone : ∀ c x, c ≠ d → s.disc c = some x → x.location ≠ r.location) : s.begin.Stands d r := ⟨hr, carried, alone⟩
  refine ⟨fun fresh => ?begins, fun was hard => ?hardens, fun done => ?stays⟩
  case begins =>
    have winds : (s.begin.startDrain job k).winds job k True := startDrain_state found
    have cancels := startDrain_cancelled found drains
    have loads {e : Entry} (load : e.cls = .load) :=
      mem_startDrain_loads (s := s.begin) (j := job) (k := k) load
    have each (d : DiscId) (r : Disc) (hs : s.begin.Stands d r) (mine : r.job = some job) :=
      startDrain_treats (k := k) hs mine
    have owns := owned (s.begin.startDrain job k) (by rw [fresh]; rfl)
    generalize s.begin.startDrain job k = u at winds cancels loads each owns
    intro u
    refine ⟨congrArg _ (requestNow_settles held owns), ?_, fun ⟨d, r, hr, mine⟩ => ?_, cancels,
      fun e he load => ((loads load).1 he).2, fun e he load other => (loads load).2 ⟨he, other⟩,
      fun carried d r hr mine alone => each d r (stands carried d r hr alone) mine⟩
    · obtain ⟨x, hx, hk, -⟩ := winds
      rw [hx, Option.map_some, hk]
    · obtain ⟨x, hx, -, state⟩ := winds
      rcases state trivial with draining | ⟨-, none_⟩
      · rw [hx, Option.map_some, draining]
      · exact absurd mine (none_ d r hr)
  case hardens =>
    have drain := hardenDrain_drain found
    have each (d : DiscId) (r : Disc) (hs : s.begin.Stands d r) (mine : r.job = some job) := hardenDrain_treats hs mine
    have owns := owned (s.begin.hardenDrain job) (by rcases was with e | e <;> rw [e, hard] <;> rfl)
    generalize s.begin.hardenDrain job = u at drain each owns
    intro u
    exact ⟨congrArg _ (requestNow_settles held owns), drain,
      fun carried d r hr mine alone => each d r (stands carried d r hr alone) mine⟩
  case stays =>
    refine congrArg _ (requestNow_answers held ((owned s.begin ?_).trans ?_) rfl)
    · rcases done with e | ⟨some_, rfl⟩
      · rw [e]
        cases k <;> rfl
      · obtain ⟨was, e⟩ := Option.isSome_iff_exists.1 some_
        rw [e]
        cases was <;> rfl
    · rw [stateBytes, found]
      rfl

end Sys2Proof.Machine
end

section
/-! PROOFS. What a step ends with, for any relation closed under its primitive changes: the sweep's answer, the assignment
pass and the selection. -/

namespace Sys2Proof.Machine

open State

/-- A relation closed under all that a step ends with: verdicts, requests for grants, the moves of the arm, new records, the
changes of the station and the counts of a job's copies. -/
structure Settles (R : State → State → Prop) : Prop extends Requests R, Moves R where
  slot (d : DiscId) (x : Option Disc) (s : State) : R s { s with discs := s.discs.set d x }
  station (x : Psc) (s : State) : R s { s with psc := x }
  copies (n a l : Nat) (more : Bool) (s : State) :
    R s (s.modJob n (fun y => { y with attempts := a, loads := if more then y.loads + l else y.loads }))

namespace Settles
variable {R : State → State → Prop} {s t : State} {n : BayId} {d : DiscId} {m : Move} {j : Job} {e : Entry}

/-! ### The sweep (R172) -/

theorem reconcile (h : Settles R) {l : Location} {present : Bool} (elsewhere : l ≠ .arm) : R s (s.reconcile l present) :=
  reconcile_decides h.toDecides elsewhere h.slot

theorem bayAnswered (h : Settles R) {present : Bool} : R s (s.bayAnswered n present) := by
  have settled (u : State) : R u (u.settleBay n) := by
    unfold State.settleBay
    split
    · exact h.trans h.offlineCheck h.dueBoth
    · exact h.trans h.offlineCheck h.dueBoth
    · exact h.trans h.offlineCheck h.dueBoth
    · split
      · exact h.bayTo rfl
      · exact h.idleBay
  exact h.trans (h.trans (h.bay n s (by exact Bay.steady_of_eq fun _ => rfl)) (h.reconcile (by simp))) (settled _)

theorem startSense (h : Settles R) : R s (s.startSense n) := by
  unfold State.startSense
  split
  · exact h.refl s
  · exact h.trans (h.calmBay (by simp) (by simp)) (h.bay n _ (by exact Bay.steady_of_eq fun _ => rfl))
  · exact h.trans h.moveTray (h.bay n _ (by exact Bay.steady_of_eq fun _ => rfl))

theorem sensePrinter (h : Settles R) : R s s.sensePrinter := by
  have asked (u : State) : R u u.proceedSense := by
    unfold State.proceedSense
    split
    · exact h.trans (h.station { u.psc with sense := some .sweep, timer := some Config.printMs } u) h.toPrinter
    · exact h.refl u
  exact h.trans (h.station { s.psc with sense := if s.psc.sense = some .service then s.psc.sense else some .sweep } s)
    (asked _)

theorem sweepBays (h : Settles R) (ns : List BayId) : R s (Machine.sweepBays ns s) := by
  have goes (x : SweepAt) (u : State) : R u (u.sweepTo x) := h.tsq _ u
  induction ns generalizing s with
  | nil => exact h.trans (goes _ _) h.sensePrinter
  | cons n ns ih =>
    unfold Machine.sweepBays
    dsimp only
    split
    · exact h.trans (goes _ _) (h.trans h.bayAnswered ih)
    · exact h.trans (goes _ _) h.startSense

theorem sweepPoke (h : Settles R) : R s s.sweepPoke := by
  unfold State.sweepPoke
  split
  next n _ =>
    split
    · unfold State.senseAnswer
      split
      · exact h.trans h.bayAnswered (h.sweepBays _)
      · exact h.bay n s (by exact Bay.steady_of_eq fun _ => rfl)
    · exact h.refl s
  · exact h.refl s

/-! ### The assignment pass (R40) -/

theorem joinQueue (h : Settles R) : R s (s.joinQueue e) := h.trans (h.queue _ s) h.dueSelect

theorem reserveBay (h : Settles R) {r : BayRes} : R s (s.reserveBay n r) :=
  h.trans (h.trans h.setBayRes (h.bayTo rfl)) h.dueSelect

theorem reserveStation (h : Settles R) {r : StationRes} : R s (s.reserveStation r) :=
  h.trans (h.station { s.psc with state := .reserved, reservedFor := some r } s) h.dueSelect

theorem assignMaster (h : Settles R) {q : MasterReq} (ht : s.assignMaster q = some t) : R s t := by
  unfold State.assignMaster at ht
  split at ht
  · split at ht
    next n _ =>
      cases ht
      refine h.trans (h.trans (h.trans (h.reserveBay (n := n) (r := .master q.image)) (h.masters _ fun x hx => ?_))
        (h.image q.image _ fun x => ?_)) h.joinQueue
      · obtain ⟨o, ho, rfl⟩ := List.mem_map.1 hx
        refine ⟨o, ho, ?_⟩
        split <;> rfl
      · exact ⟨x.refs, x.accesses, .master (some n), rfl⟩
    · cases ht
  · cases ht

theorem takeSpare (h : Settles R) : R s (s.takeSpare j n) := by
  unfold State.takeSpare
  split
  next d _ =>
    have counted : R s (s.modJob j.number (fun x => { x with attempts := j.attempts + 1 })) :=
      h.copies j.number (j.attempts + 1) 0 false s
    have taken (u : State) (f : Disc → Disc) : R u (u.modDisc d f) := h.slot d _ u
    exact h.trans (h.trans (h.trans counted (taken _ _)) (h.unspared n _)) h.towardGrant
  · exact h.refl s

theorem queueCopy (h : Settles R) {x : Spindle} {dest : Dest} : R s (s.queueCopy j x dest) :=
  h.trans (h.copies j.number (j.attempts + 1) 1 true s) h.joinQueue

theorem assignCopy (h : Settles R) (ht : s.assignCopy j = some t) : R s t := by
  have bay {n : BayId} {r : BayRes} {x : Spindle} : R s ((s.reserveBay n r).queueCopy j x (.bay n)) :=
    h.trans h.reserveBay h.queueCopy
  have both {n : BayId} {r : BayRes} {k : StationRes} {x : Spindle} :
      R s (((s.reserveBay n r).reserveStation k).queueCopy j x .printer) :=
    h.trans (h.trans h.reserveBay h.reserveStation) h.queueCopy
  have station {k : StationRes} {x : Spindle} : R s ((s.reserveStation k).queueCopy j x .printer) :=
    h.trans h.reserveStation h.queueCopy
  unfold State.assignCopy at ht
  split at ht
  · dsimp only at ht
    split at ht
    case h_3 =>
      split at ht
      · cases ht
        exact both
      · cases ht
    case h_4 =>
      split at ht
      · cases ht
        exact station
      · cases ht
    all_goals
      split at ht
      · cases ht
        exact h.takeSpare
      · split at ht
        · cases ht
          exact bay
        · cases ht
  · cases ht

theorem assignOne (h : Settles R) (ht : s.assignOne = some t) : R s t := by
  unfold State.assignOne at ht
  cases hm : s.jsc.masterOrder.findSome? (fun q => s.assignMaster q) with
  | some u =>
    rw [hm] at ht
    cases ht
    obtain ⟨q, -, hq⟩ := List.exists_of_findSome?_eq_some hm
    exact h.assignMaster hq
  | none =>
    rw [hm] at ht
    obtain ⟨j, -, hj⟩ := List.exists_of_findSome?_eq_some ht
    exact h.assignCopy hj

theorem assignMany (h : Settles R) (k : Nat) : R s (Machine.assignMany k s) := by
  induction k generalizing s with
  | zero => exact h.refl s
  | succ k ih =>
    unfold Machine.assignMany
    split
    next found => exact h.trans (h.assignOne found) ih
    next => exact h.refl s

theorem pass (h : Settles R) : R s s.pass := by
  unfold State.pass
  split
  · exact h.refl s
  · exact h.assignMany _

/-! ### The selection (R152) -/

theorem askPick (h : Settles R) : R s (s.askPick n) := by
  unfold State.askPick
  dsimp only
  split
  · exact h.tsq _ s
  · split
    · exact h.refl s
    · exact h.openToPick

theorem toSource (h : Settles R) : R s (s.toSource m) := by
  unfold State.toSource
  split
  next p _ =>
    have going : R s (({ s with tsq.arm.state := .toSource, tsq.arm.trayReady := false } : State).sendMotion (.goto p)) :=
      h.trans (h.tsq _ s) h.sendMotion
    dsimp only
    split
    · exact h.trans going h.askPick
    · exact going
  next => exact h.travel

theorem reserveFor (h : Settles R) : R s (s.reserveFor e).2 := by
  unfold State.reserveFor
  split
  · exact h.refl s
  · split
    · split
      · exact h.reserveStation
      · exact h.refl s
    · exact h.refl s
  · exact h.tsq _ s
  · exact h.tsq _ s

theorem startMove (h : Settles R) : R s (s.startMove e) := by
  have taken (u : State) (m : Move) : R u
      { u with tsq.queue := u.tsq.queue.erase e, tsq.arm.move := some m, tsq.arm.trayReady := false }.duePass :=
    h.trans (h.tsq _ u) h.duePass
  have aimed (u : State) (d : DiscId) (f : Disc → Disc) : R u (u.modDisc d f) := h.slot d _ u
  unfold State.startMove
  dsimp only
  split
  · split
    · exact h.trans (h.trans (h.trans h.reserveFor (taken _ _)) (aimed _ _ _)) h.travel
    · exact h.trans (h.trans h.reserveFor (taken _ _)) h.travel
  · exact h.trans (h.trans h.reserveFor (taken _ _)) h.toSource

theorem noticeFull (h : Settles R) (es : List Entry) : R s (Machine.noticeFull es s) := by
  refine h.each es s fun e u => ?_
  split
  · split
    · exact h.refl u
    · exact h.reportFull
  · split
    · exact h.refl u
    · exact h.reportFull
  · exact h.refl u

theorem select (h : Settles R) : R s s.select := by
  have byAge (u : State) : R u u.selectByAge := by
    unfold State.selectByAge
    dsimp only
    split
    · exact h.trans (h.noticeFull _) h.startMove
    · split
      · exact h.trans (h.noticeFull _) h.startMove
      · exact h.noticeFull _
  unfold State.select
  split
  · dsimp only
    split
    · exact h.trans (h.tsq _ s) h.startMove
    · exact h.trans (h.tsq _ s) (byAge _)
  · exact h.refl s

theorem nudgeArm (h : Settles R) : R s s.nudgeArm := by
  unfold State.nudgeArm
  split
  · split
    · exact h.travel
    · split
      · split
        · exact h.trans h.modMove h.openToPlace
        · exact h.refl s
      · exact h.refl s
  · exact h.refl s

/-! ### The end of a step -/

theorem settle (h : Settles R) : R s s.settle := by
  have swept (u : State) : R u u.sweepIfDue := by
    unfold State.sweepIfDue
    split
    · exact h.sweepPoke
    · exact h.refl u
  have passed (u : State) : R u u.passIfDue := by
    unfold State.passIfDue
    split
    · exact h.trans (t := { u with due.pass := false }) (h.other rfl) h.pass
    · exact h.refl u
  have selected (u : State) : R u u.selectIfDue := by
    unfold State.selectIfDue
    split
    · exact h.trans (t := { u with due.select := false }) (h.other rfl) (h.trans h.nudgeArm h.select)
    · exact h.refl u
  exact h.trans (h.trans (h.trans (h.trans (h.trans (swept s) (passed _)) (selected _)) (passed _)) (selected _))
    (h.other rfl)

end Settles
end Sys2Proof.Machine
end

section
/-! PROOFS. The completion of a write (O35): the block is stored, and the bay that reads its image frees a slot (R63, R68,
R125). -/

namespace Sys2Proof.Machine

open State

/-- The end of a step leaves the intake port as it is. -/
theorem settles_ipt : Settles (fun s t => t.ipt = s.ipt) where
  refl _ := rfl
  trans h k := k.trans h
  other e := congrArg (fun w => w.2.2.2.2.2.1) e
  emit _ _ := rfl
  cleared _ _ := rfl
  unreserve _ _ _ := rfl
  retire _ _ _ := rfl
  deliver _ _ := rfl
  account _ _ _ _ := rfl
  hold _ _ _ := rfl
  live _ _ := rfl
  terminal _ _ := rfl
  loads _ _ := rfl
  image _ _ _ := rfl
  freed _ _ := rfl
  masters _ _ := rfl
  unreserved _ := rfl
  ungranted _ _ := rfl
  unwaited _ _ := rfl
  scan s := by
    obtain ⟨r, ms, bs, e⟩ := s.scan_frame
    rw [e]
  closed _ _ _ := rfl
  withdrawn _ := rfl
  unspared _ _ := rfl
  queue _ _ := rfl
  bay _ _ _ := rfl
  rest _ _ _ := rfl
  request _ _ := rfl
  decide _ _ _ _ := rfl
  tsq _ _ := rfl
  shut _ _ _ := rfl
  opens _ _ _ := rfl
  aim _ _ _ := rfl
  slot _ _ _ := rfl
  station _ _ := rfl
  copies _ _ _ _ _ := rfl

namespace State
variable {s t u : State} {n : BayId} {d : DiscId} {i k : Nat} {w : BlockWrite} {x : Image} {e : Nat}

/-! ### The operations of a completed write -/

theorem refreshNaming_frame (i : Nat) (s : State) :
    ∃ (js : List Job) (u : Due), s.refreshNaming i = { s with jsc.jobs := js, due := u } := by
  have each (ns : List Nat) (t : State) : ∃ (js : List Job) (u : Due), forEach ns refreshJob t = { t with jsc.jobs := js, due := u } := by
    induction ns generalizing t with
    | nil => exact ⟨t.jsc.jobs, t.due, rfl⟩
    | cons n ns ih =>
      obtain ⟨js, u, h⟩ := ih (t.refreshJob n)
      obtain ⟨js', u', h'⟩ := t.refreshJob_frame (n := n)
      exact ⟨js, u, by rw [forEach_cons, h, h']⟩
  exact each _ s

/-- What a completed write leaves of a state: all but the images, the jobs and what is due. -/
theorem ingest_frame (i : Nat) (s : State) : ∃ (c : Cat) (js : List Job) (u : Due),
    s.ingest i = { s with cat := c, jsc.jobs := js, due := u } := by
  unfold ingest
  split
  · obtain ⟨js, u, h⟩ := refreshNaming_frame i (s.modImage i (fun x => { x with ingested := x.ingested + 1 }))
    exact ⟨_, js, u, h⟩
  · exact ⟨s.cat, s.jsc.jobs, s.due, rfl⟩

/-- The image of a completed write keeps all but its ingested count. -/
theorem image?_ingest (h : s.image? i = some x) : ∃ k, (s.ingest i).image? i = some { x with ingested := k } := by
  unfold ingest
  split
  · obtain ⟨js, u, e⟩ := refreshNaming_frame i (s.modImage i (fun x => { x with ingested := x.ingested + 1 }))
    rw [e]
    have raised : (s.modImage i (fun x => { x with ingested := x.ingested + 1 })).image? i =
        some { x with ingested := x.ingested + 1 } := by
      rw [image?_modImage_self fun _ => by rfl, h]
      rfl
    exact ⟨_, raised⟩
  · exact ⟨x.ingested, h⟩

theorem image?_freeTest (h : s.image? i = some x) : (s.freeTest i).image? i = some x ∨ (s.freeTest i).image? i = none := by
  unfold freeTest
  rw [h]
  dsimp only
  split
  · refine .inr ?_
    unfold image?
    rw [List.find?_filter]
    exact List.find?_eq_none.2 fun y _ => by simp
  · exact .inl h

/-- A write whose image's read is not reported complete, or has another access outstanding, leaves the read unjudged. -/
theorem accessDone_eq (h : s.image? i = some x) (unjudged : x.state ≠ .filling ∨ x.readDone = false ∨ 1 < x.accesses) :
    s.accessDone i = s.accessDown i := by
  have lowered : (s.modImage i (fun x => { x with accesses := x.accesses - 1 })).image? i =
      some { x with accesses := x.accesses - 1 } := by
    rw [image?_modImage_self fun _ => by rfl, h]
    rfl
  unfold accessDone masterTest
  rcases image?_freeTest lowered with kept | gone
  · rw [show (s.accessDown i).image? i = _ from kept]
    dsimp only
    exact if_neg fun ⟨filling, read, none_⟩ => by
      rcases unjudged with e | e | e
      · exact e filling
      · simp [e] at read
      · omega
  · rw [show (s.accessDown i).image? i = _ from gone]

theorem accessDown_frame (i : Nat) (s : State) : ∃ c, s.accessDown i = { s with cat := c } := by
  obtain ⟨c, h⟩ := freeTest_frame i (s.modImage i (fun x => { x with accesses := x.accesses - 1 }))
  exact ⟨c, h⟩

/-- A block is stored at its place (R50, R70). -/
theorem storeBlock_eq (hx : s.image? w.image = some x) (he : x.extents[w.index / 4096]? = some e) :
    s.storeBlock w = some { s with mem := s.mem.writeBlock ((e * 4096 + w.index % 4096) * 2048) w.data } := by
  have place : x.address w.index = some ((e * 4096 + w.index % 4096) * 2048) := congrArg (Option.map _) he
  rw [storeBlock, addressOf, hx, Option.bind_some, place, Option.map_some]

/-! ### An intake write -/

theorem imageReady_kept (hx : s.image? i = some x) :
    (s.imageReady i).ipt = s.ipt ∧ (s.imageReady i).image? i = some { x with state := .ready } := by
  unfold imageReady
  obtain ⟨js, u, e⟩ := refreshNaming_frame i ((s.modImage i (fun x => { x with state := .ready })).deliver
    { kind := .imageReady, subject := .image i, detail := .none })
  rw [e]
  have ready : (s.modImage i (fun x => { x with state := .ready })).image? i = some { x with state := .ready } := by
    rw [image?_modImage_self fun _ => by rfl, hx]
    rfl
  exact ⟨rfl, ready⟩

theorem readyTest_kept (hx : s.image? i = some x) :
    (s.readyTest i).ipt = s.ipt ∧ ∃ y, (s.readyTest i).image? i = some y ∧ y.readDone = x.readDone := by
  unfold readyTest
  split
  · obtain ⟨ipt, image⟩ := imageReady_kept hx
    exact ⟨ipt, _, image, rfl⟩
  · exact ⟨rfl, x, hx, rfl⟩

theorem intakeIssue_fifo : s.intakeIssue.ipt.fifo = s.ipt.fifo := by
  unfold intakeIssue
  split
  · rfl
  · split <;> rfl

/-- A completed intake write of an image whose read is not reported takes the head block from the FIFO (R63). -/
theorem intakeDone_fifo (hx : s.image? w.image = some x) (open_ : x.readDone = false) :
    (s.intakeDone w).ipt.fifo = s.ipt.fifo.drop 1 := by
  have head : s.intakeHeadDone.image? w.image = some x := hx
  obtain ⟨k, ingested⟩ := image?_ingest head
  obtain ⟨c, js, u, frame⟩ := ingest_frame w.image s.intakeHeadDone
  have fifo : (s.intakeHeadDone.ingest w.image).ipt.fifo = s.ipt.fifo.drop 1 := by rw [frame]; rfl
  change (((((s.intakeHeadDone.ingest w.image).recountAccepted w.image).readyTest w.image).accessDone
    w.image).intakeIssue).ipt.fifo = _
  rw [intakeIssue_fifo]
  generalize s.intakeHeadDone.ingest w.image = a at ingested fifo ⊢
  obtain ⟨y, recounted, read⟩ : ∃ y, (a.recountAccepted w.image).image? w.image = some y ∧ y.readDone = false := by
    refine ⟨_, (image?_modImage_self fun y => ?_).trans (congrArg _ ingested), ?_⟩
    · split <;> rfl
    · beta_reduce
      split <;> exact open_
  obtain ⟨ipt, z, tested, same⟩ := readyTest_kept recounted
  obtain ⟨c', down⟩ := accessDown_frame w.image ((a.recountAccepted w.image).readyTest w.image)
  have judged := accessDone_eq tested (.inr (.inl (same.trans read)))
  rw [judged, down]
  exact (congrArg Ipt.fifo ipt).trans fifo

/-! ### A master write -/

/-- The bay whose master's read a block belongs to. -/
def readsFor (s : State) (i : Nat) (x : Image) (n : BayId) : Prop :=
  x.source = .master (some n) ∧ (s.bay n).state = .masterRead ∧ s.masterImageAt n = some i

theorem masterSlot_of_other (h : ¬ ((s.bay n).state = .masterRead ∧ s.masterImageAt n = some i)) :
    s.masterSlot i k n = s := by
  unfold masterSlot
  exact if_neg h

/-- A written block frees a slot of the bay that reads its image, and a drive that is held goes on (R125). -/
theorem masterSlot_of_reader (h : (s.bay n).state = .masterRead ∧ s.masterImageAt n = some i) :
    let left := (s.bay n).holding.filter (fun (b : HeldBlock) => b.index != k)
    let go := (s.bay n).masterHeld = true ∧ left.length < 2
    (s.masterSlot i k n).bay n = { s.bay n with holding := left, masterHeld := if go then false else (s.bay n).masterHeld } ∧
      (s.masterSlot i k n).sent = s.sent ++ (if go then [.bay n .readGo] else []) ∧
      ∀ m, m ≠ n → (s.masterSlot i k n).bay m = s.bay m := by
  intro left go
  let freed : State := s.modBay n (fun b => { b with holding := b.holding.filter (fun (e : HeldBlock) => e.index != k) })
  have slot : freed.bay n = { s.bay n with holding := left } := bay_modBay_self ..
  have others (m : BayId) (ne : m ≠ n) : freed.bay m = s.bay m := bay_modBay_ne ne _ _
  have test : ((freed.bay n).masterHeld = true ∧ (freed.bay n).holding.length < Config.holdingBlocks) ↔ go := by
    rw [slot]
    rfl
  have cases : s.masterSlot i k n =
      if (freed.bay n).masterHeld = true ∧ (freed.bay n).holding.length < Config.holdingBlocks then
        (freed.toBay n .readGo).modBay n (fun b => { b with masterHeld := false }) else freed := if_pos h
  by_cases g : go
  · rw [cases, if_pos (test.2 g), if_pos g, if_pos g]
    refine ⟨?_, rfl, fun m ne => (bay_modBay_ne ne _ _).trans (others m ne)⟩
    rw [bay_modBay_self]
    exact congrArg (fun b : Bay => { b with masterHeld := false }) slot
  · rw [cases, if_neg (fun c => g (test.1 c)), if_neg g, if_neg g]
    exact ⟨slot, (List.append_nil _).symm, others⟩

theorem masterBay_eq_some (hx : s.image? i = some x) : s.masterBay i = some n ↔ x.source = .master (some n) := by
  rw [masterBay, hx, Option.map_some]
  cases x.source with
  | intake => simp
  | master o => simp

theorem masterSlot_image (k : Nat) : (s.masterSlot i k n).image? i = s.image? i := by
  unfold masterSlot
  dsimp only
  split
  · split <;> rfl
  · rfl

/-- What the completion of a master write does to the holding buffers, before its access is done (R125). -/
def slotFreed (w : BlockWrite) (s : State) : State :=
  match s.masterBay w.image with
  | some n => s.masterSlot w.image w.index n
  | none => s

theorem slotFreed_image : (s.slotFreed w).image? w.image = s.image? w.image := by
  unfold slotFreed
  split
  · exact masterSlot_image w.index
  · rfl

theorem slotFreed_of_none (hx : s.image? w.image = some x) (h : ∀ n, ¬ s.readsFor w.image x n) : s.slotFreed w = s := by
  unfold slotFreed
  split
  next n hn => exact masterSlot_of_other fun reads => h n ⟨(masterBay_eq_some hx).1 hn, reads⟩
  next => rfl

theorem slotFreed_of_reader (hx : s.image? w.image = some x) (h : s.readsFor w.image x n) :
    s.slotFreed w = s.masterSlot w.image w.index n := by
  rw [slotFreed, (masterBay_eq_some hx).2 h.1]

/-- At most one bay reads an image. -/
theorem readsFor_unique {m : BayId} (h : s.readsFor i x n) (h' : s.readsFor i x m) : m = n := by
  have := h'.1.symm.trans h.1
  simpa using this

/-- What a completed master write does to the bays: the reader of its image frees a slot, and no other bay changes (R125,
R126). -/
theorem masterDone_bays (hx : s.image? w.image = some x)
    (unjudged : x.state ≠ .filling ∨ x.readDone = false ∨ 1 < x.accesses) (quiet : s.sent = []) :
    (∀ n, s.readsFor w.image x n →
      let left := (s.bay n).holding.filter (fun (b : HeldBlock) => b.index != w.index)
      let go := (s.bay n).masterHeld = true ∧ left.length < 2
      (s.masterDone w).bay n = { s.bay n with holding := left, masterHeld := if go then false else (s.bay n).masterHeld } ∧
        (s.masterDone w).sent = if go then [.bay n .readGo] else []) ∧
    (∀ n, ¬ s.readsFor w.image x n → (s.masterDone w).bay n = s.bay n) ∧
    ((∀ n, ¬ s.readsFor w.image x n) → (s.masterDone w).sent = []) := by
  obtain ⟨k, ingested⟩ := image?_ingest (s := s.served) hx
  obtain ⟨c, js, u, frame⟩ := ingest_frame w.image s.served
  have bays (n : BayId) : (s.served.ingest w.image).bay n = s.bay n := by rw [frame]; rfl
  have sent : (s.served.ingest w.image).sent = [] := by rw [frame]; exact quiet
  have at_ (n : BayId) : (s.served.ingest w.image).masterImageAt n = s.masterImageAt n := by rw [frame]; rfl
  have all : s.masterDone w = (((s.served.ingest w.image).slotFreed w).accessDone w.image).smcServe := rfl
  rw [all]
  generalize s.served.ingest w.image = v at ingested bays sent at_ ⊢
  have reads (n : BayId) : v.readsFor w.image { x with ingested := k } n ↔ s.readsFor w.image x n := by
    rw [readsFor, readsFor, bays, at_]
  obtain ⟨c', down⟩ := accessDown_frame w.image (v.slotFreed w)
  have done : (v.slotFreed w).accessDone w.image = { v.slotFreed w with cat := c' } :=
    (accessDone_eq (slotFreed_image.trans ingested) unjudged).trans down
  rw [done]
  refine ⟨fun n h => ?_, fun n h => ?_, fun h => ?_⟩
  · have reader := (reads n).2 h
    obtain ⟨bay, told, -⟩ := masterSlot_of_reader (k := w.index) reader.2
    rw [← slotFreed_of_reader ingested reader, bays] at bay
    rw [← slotFreed_of_reader ingested reader, sent, bays, List.nil_append] at told
    exact ⟨bay, told⟩
  · by_cases any : ∃ m, s.readsFor w.image x m
    · obtain ⟨m, hm⟩ := any
      have reader := (reads m).2 hm
      obtain ⟨-, -, others⟩ := masterSlot_of_reader (k := w.index) reader.2
      rw [← slotFreed_of_reader ingested reader] at others
      exact (others n fun e => h (e ▸ hm)).trans (bays n)
    · rw [slotFreed_of_none ingested fun m hm => any ⟨m, (reads m).1 hm⟩]
      exact bays n
  · rw [slotFreed_of_none ingested fun m hm => h m ((reads m).1 hm)]
    exact sent

end State

/-- Settles O35, by the frames of the operations that follow a stored block. -/
theorem aWriteStoresItsBlock : Obligations.AWriteStoresItsBlock := by
  intro s w x e hx he
  have stored : s.begin.storeBlock w = some { s.begin with
      mem := s.mem.writeBlock ((e * 4096 + w.index % 4096) * 2048) w.data } := storeBlock_eq (s := s.begin) hx he
  have intake (h : s.smc.serving = some (.intake w)) : exec .intakeWriteDone s = .next
      (({ s.begin with mem := s.mem.writeBlock ((e * 4096 + w.index % 4096) * 2048) w.data } : State).intakeDone w).settle := by
    change execIntakeWriteDone s = _
    rw [execIntakeWriteDone]
    dsimp only
    rw [show s.begin.smc.serving = some (.intake w) from h]
    dsimp only
    rw [stored]
  have master (h : s.smc.serving = some (.master w)) : exec .masterWriteDone s = .next
      (({ s.begin with mem := s.mem.writeBlock ((e * 4096 + w.index % 4096) * 2048) w.data } : State).masterDone w).settle := by
    change execMasterWriteDone s = _
    rw [execMasterWriteDone]
    dsimp only
    rw [show s.begin.smc.serving = some (.master w) from h]
    dsimp only
    rw [stored]
  generalize ht : ({ s.begin with mem := s.mem.writeBlock ((e * 4096 + w.index % 4096) * 2048) w.data } : State) = t at intake master
  have mem : t.mem = s.mem.writeBlock ((e * 4096 + w.index % 4096) * 2048) w.data := by rw [← ht]
  have image : t.image? w.image = some x := by rw [← ht]; exact hx
  refine ⟨fun serving open_ => ⟨_, intake serving, ?_, ?_⟩, fun serving => ⟨⟨_, master serving, ?_⟩, fun unjudged => ⟨_, master serving, ?_⟩⟩⟩
  · exact ((intakeDone_keeps.trans settle_keeps').mem).trans mem
  · have fifo := congrArg Ipt.fifo (settles_ipt.settle (s := t.intakeDone w))
    refine fifo.trans ((intakeDone_fifo image open_).trans ?_)
    rw [← ht]
    rfl
  · exact ((masterDone_keeps.trans settle_keeps').mem).trans mem
  · have done := masterDone_bays image unjudged (by rw [← ht]; rfl)
    have bays (n : BayId) : t.bay n = s.bay n := by rw [← ht]; rfl
    have at_ (n : BayId) : t.masterImageAt n = s.masterImageAt n := by rw [← ht]; rfl
    have reads (n : BayId) : t.readsFor w.image x n ↔ s.readsFor w.image x n := by
      rw [readsFor, readsFor, bays, at_]
    generalize t.masterDone w = u at done ⊢
    obtain ⟨reader, others, silent⟩ := done
    refine ⟨fun n h => ?_, fun n h => ?_, fun h => silent fun n hn => h n ((reads n).1 hn)⟩
    · have := reader n ((reads n).2 h)
      rwa [bays] at this
    · exact (others n fun hn => h ((reads n).1 hn)).trans (bays n)

end Sys2Proof.Machine
end

section
/-! PROOFS. What outlasts the loss of an image and the end of a step: the intake port, streams that are closed, requests that
have gone, the account of a lost image, the holds of jobs and the notices of ports. -/

namespace Sys2Proof.Machine

open State

/-- A job is held by a cause, or has ended so. -/
def Job.heldBy (c : HoldCause) (j : Job) : Prop := j.holds.has c = true ∧ (j.state = .held ∨ j.state.terminal = true)

/-- What lasts of a job: its hold set once it is no longer live, and a cause that no spindle takes back, with its state. -/
structure Job.Lasts (j v : Job) : Prop where
  still : j.live = false → v.live = false ∧ v.holds = j.holds
  held (c : HoldCause) : ¬c.ofSpindle → j.heldBy c → v.heldBy c

/-- What lasts of a port: its bookings, its notices and its overflow flag. -/
structure Port.Lasts (p q : Port) : Prop where
  bookings : q.bookings = p.bookings
  notices : p.notices <+: q.notices
  overflow : p.overflow = true → q.overflow = true

/-- A property of an image that its accounts do not touch. -/
structure Image.AccountFree (P : Image → Prop) : Prop where
  accounts (x : Image) (r a : Nat) (o : ImageSource) : P x → P { x with refs := r, accesses := a, source := o }

/-- What lasts of a state. -/
structure State.Lasts (s t : State) : Prop where
  ipt : t.ipt = s.ipt
  streams (n : BayId) (y : Stream) : t.stream n = some y → s.stream n = some y
  masters (q : MasterReq) : q ∈ t.jsc.masters → ∃ o ∈ s.jsc.masters, o.image = q.image
  images (i : Nat) (P : Image → Prop) : Image.AccountFree P → s.everyImage i P → t.everyImage i P
  jobs (k : Nat) (j : Job) : s.job? k = some j → ∃ v, t.job? k = some v ∧ j.Lasts v
  ports (p : PortId) : (s.port p).Lasts (t.port p)

theorem HoldSet.has_put_ne {h : HoldSet} {c c' : HoldCause} {b : Bool} (ne : c' ≠ c) : (h.put c b).has c' = h.has c' := by
  cases c <;> cases c' <;> first | rfl | exact absurd rfl ne

namespace Job.Lasts
variable {j v w : Job}

theorem refl (j : Job) : j.Lasts j := ⟨fun h => ⟨h, rfl⟩, fun _ _ h => h⟩

theorem trans (h : j.Lasts v) (k : v.Lasts w) : j.Lasts w where
  still e := by
    obtain ⟨live, holds⟩ := h.still e
    obtain ⟨live', holds'⟩ := k.still live
    exact ⟨live', holds'.trans holds⟩
  held c hc e := k.held c hc (h.held c hc e)

/-- A change that keeps the state and the hold set. -/
theorem of_same (state : v.state = j.state) (holds : v.holds = j.holds) : j.Lasts v where
  still h := ⟨by rwa [Job.live, state], holds⟩
  held c _ h := by rwa [heldBy, state, holds]

theorem of_live (live : j.live = true) (held : ∀ c, ¬c.ofSpindle → j.heldBy c → v.heldBy c) : j.Lasts v where
  still h := by simp [live] at h
  held := held

end Job.Lasts

namespace Port.Lasts
variable {p q r : Port}

theorem refl (p : Port) : p.Lasts p := ⟨rfl, List.prefix_refl _, id⟩

theorem trans (h : p.Lasts q) (k : q.Lasts r) : p.Lasts r :=
  ⟨k.bookings.trans h.bookings, h.notices.trans k.notices, fun e => k.overflow (h.overflow e)⟩

theorem joined (xs : List Notice) (p : Port) : p.Lasts (xs.foldl Port.join p) := by
  rw [Port.foldl_join]
  exact ⟨rfl, List.prefix_append .., fun e => by simp [e]⟩

theorem delivered (e : Event) (p : Port) : p.Lasts (p.deliver e) := by
  rw [Port.deliver_eq]
  exact joined _ p

end Port.Lasts

namespace State.Lasts
variable {s t u : State} {n : BayId} {i : Nat}

theorem of_frame (ipt : t.ipt = s.ipt) (streams : t.fdr.streams = s.fdr.streams) (jobs : t.jsc.jobs = s.jsc.jobs)
    (masters : t.jsc.masters = s.jsc.masters) (images : t.cat.images = s.cat.images) (ports : t.ports = s.ports) :
    s.Lasts t where
  ipt := ipt
  streams n y h := by rwa [stream, streams] at h
  masters q h := ⟨q, by rwa [masters] at h, rfl⟩
  images _ _ _ := everyImage_of_images images
  jobs _ j h := ⟨j, by rwa [job?, jobs], .refl j⟩
  ports p := by
    rw [port, port, ports]
    exact .refl _

theorem refl (s : State) : s.Lasts s := .of_frame rfl rfl rfl rfl rfl rfl

theorem trans (h : s.Lasts t) (k : t.Lasts u) : s.Lasts u where
  ipt := k.ipt.trans h.ipt
  streams n y e := h.streams n y (k.streams n y e)
  masters q hq := by
    obtain ⟨o, ho, e⟩ := k.masters q hq
    obtain ⟨o', ho', e'⟩ := h.masters o ho
    exact ⟨o', ho', e'.trans e⟩
  images i P hP w := k.images i P hP (h.images i P hP w)
  jobs m j hj := by
    obtain ⟨v, hv, lasts⟩ := h.jobs m j hj
    obtain ⟨w, hw, lasts'⟩ := k.jobs m v hv
    exact ⟨w, hw, lasts.trans lasts'⟩
  ports p := (h.ports p).trans (k.ports p)

theorem modJob {f : Job → Job} (number : ∀ x, (f x).number = x.number)
    (lasts : ∀ x, s.job? i = some x → x.Lasts (f x)) : s.Lasts (s.modJob i f) where
  ipt := rfl
  streams _ _ h := h
  masters q h := ⟨q, h, rfl⟩
  images _ _ _ h := h
  jobs k j h := by
    by_cases e : k = i
    · subst e
      exact ⟨f j, job?_modJob_self number h, lasts j h⟩
    · exact ⟨j, (job?_modJob_ne number e).trans h, .refl j⟩
  ports _ := .refl _

theorem modJob_same {f : Job → Job} (number : ∀ x, (f x).number = x.number) (state : ∀ x, (f x).state = x.state)
    (holds : ∀ x, (f x).holds = x.holds) : s.Lasts (s.modJob i f) :=
  modJob number fun x _ => .of_same (state x) (holds x)

theorem modImage {f : Image → Image} (accounts : Image.accounts f) : s.Lasts (s.modImage i f) where
  ipt := rfl
  streams _ _ h := h
  masters q h := ⟨q, h, rfl⟩
  images k P hP h := by
    have number (x : Image) : (f x).number = x.number := by
      obtain ⟨r, a, o, e⟩ := accounts x
      rw [e]
    refine everyImage_modImage number (fun x hx => ?_) h
    obtain ⟨r, a, o, e⟩ := accounts x
    rw [e]
    exact hP.accounts x r a o hx
  jobs _ j h := ⟨j, h, .refl j⟩
  ports _ := .refl _

theorem delivered (e : Event) : s.Lasts (s.deliver e) where
  ipt := rfl
  streams _ _ h := h
  masters q h := ⟨q, h, rfl⟩
  images _ _ _ h := h
  jobs _ j h := ⟨j, h, .refl j⟩
  ports p := by
    rw [port_deliver]
    exact .delivered e _

theorem removed (i : Nat) (s : State) :
    s.Lasts { s with cat.images := s.cat.images.filter (fun y => y.number != i) } where
  ipt := rfl
  streams _ _ h := h
  masters q h := ⟨q, h, rfl⟩
  images _ _ _ h y hy := h y (image?_of_freed hy)
  jobs _ j h := ⟨j, h, .refl j⟩
  ports _ := .refl _

theorem mastersKept {q : List MasterReq} (h : ∀ x ∈ q, ∃ o ∈ s.jsc.masters, o.image = x.image) :
    s.Lasts { s with jsc.masters := q } where
  ipt := rfl
  streams _ _ h := h
  masters := h
  images _ _ _ h := h
  jobs _ j h := ⟨j, h, .refl j⟩
  ports _ := .refl _

theorem streamClosed (n : BayId) (k : Vector Nat 12) (s : State) :
    s.Lasts { s with fdr.streams := s.fdr.streams.set n none, fdr.draining := k } where
  ipt := rfl
  streams m y h := by
    by_cases e : m = n
    · subst e
      exact absurd (h.symm.trans (Vector.getElem_set_self ..)) (by simp)
    · exact (Vector.getElem_set_ne n.isLt m.isLt fun w => e (Fin.ext w.symm)).symm.trans h
  masters q h := ⟨q, h, rfl⟩
  images _ _ _ h := h
  jobs _ j h := ⟨j, h, .refl j⟩
  ports _ := .refl _

/-- A hold that is given, or that a spindle takes back, leaves every cause that no spindle takes back. -/
theorem held {k : Nat} {j : Job} {c : HoldCause} {b : Bool} (hj : s.job? k = some j) (live : j.live = true)
    (hc : b = true ∨ c.ofSpindle) : s.Lasts (s.modJob k (fun x => { x with holds := x.holds.put c b })) := by
  refine modJob (fun _ => rfl) fun x hx => ?_
  cases hj.symm.trans hx
  refine .of_live live fun c' stays ⟨has, state⟩ => ⟨?_, state⟩
  by_cases e : c' = c
  · subst e
    rw [hc.resolve_right stays]
    exact HoldSet.has_put ..
  · exact (HoldSet.has_put_ne e).trans has

theorem refreshed {k : Nat} {j : Job} (hj : s.job? k = some j) (live : j.live = true) :
    s.Lasts (s.modJob k (fun x => { x with state := s.liveState j })) := by
  refine modJob (fun _ => rfl) fun x hx => ?_
  cases hj.symm.trans hx
  exact .of_live live fun _ _ ⟨has, _⟩ => ⟨has, .inl (liveState_held_iff.2 (HoldSet.nonempty_of_has has))⟩

theorem ended {k : Nat} {j : Job} {x : JobState} (h : s.terminalOf j = some x) :
    s.Lasts (s.modJob k (fun y => { y with state := x })) := by
  have final := terminalOf_terminal h
  refine modJob (fun _ => rfl) fun y _ => ⟨fun _ => ⟨?_, rfl⟩, fun _ _ ⟨has, _⟩ => ⟨has, .inr final⟩⟩
  simp [Job.live, final]

end State.Lasts

/-- A relation closed under the loss of an image, once it is marked, and under all that a step ends with. -/
structure Concludes (R : State → State → Prop) : Prop extends Treats R, Settles R

/-- What lasts, lasts through the hand-offs of a lost image and the end of the step. -/
theorem concludes_lasts : Concludes State.Lasts where
  refl := .refl
  trans := .trans
  other e := .of_frame (congrArg (fun w => w.2.2.2.2.2.1) e) (congrArg (fun w => w.2.2.2.1.streams) e)
    (congrArg (fun w => w.2.1.1) e) (congrArg (fun w => w.2.1.2.1) e) (congrArg (fun w => w.1.2.1.images) e)
    (congrArg (fun w => w.2.1.2.2.1) e)
  emit _ _ := .of_frame rfl rfl rfl rfl rfl rfl
  cleared _ _ := .of_frame rfl rfl rfl rfl rfl rfl
  unreserve _ _ _ := .of_frame rfl rfl rfl rfl rfl rfl
  retire _ _ _ := .of_frame rfl rfl rfl rfl rfl rfl
  deliver e _ := .delivered e
  account _ _ v _ := .modJob_same (fun _ => by cases v <;> rfl) (fun _ => by cases v <;> rfl) (fun _ => by cases v <;> rfl)
  hold := .held
  live := .refreshed
  terminal _ := .ended
  loads _ _ := .modJob_same (fun _ => rfl) (fun _ => rfl) fun _ => rfl
  image _ _ := .modImage
  freed := .removed
  masters _ := .mastersKept
  unreserved _ := .of_frame rfl rfl rfl rfl rfl rfl
  loaded _ := .of_frame rfl rfl rfl rfl rfl rfl
  ungranted _ _ := .of_frame rfl rfl rfl rfl rfl rfl
  unwaited _ _ := .of_frame rfl rfl rfl rfl rfl rfl
  scan s := by
    obtain ⟨r, ms, bs, e⟩ := s.scan_frame
    rw [e]
    exact .of_frame rfl rfl rfl rfl rfl rfl
  closed := .streamClosed
  withdrawn _ := .of_frame rfl rfl rfl rfl rfl rfl
  unspared _ _ := .of_frame rfl rfl rfl rfl rfl rfl
  queue _ _ := .of_frame rfl rfl rfl rfl rfl rfl
  bay _ _ _ := .of_frame rfl rfl rfl rfl rfl rfl
  rest _ _ _ := .of_frame rfl rfl rfl rfl rfl rfl
  settle _ _ _ _ := .of_frame rfl rfl rfl rfl rfl rfl
  spare _ _ := .of_frame rfl rfl rfl rfl rfl rfl
  spared _ _ := .of_frame rfl rfl rfl rfl rfl rfl
  request _ _ := .of_frame rfl rfl rfl rfl rfl rfl
  decide _ _ _ _ := .of_frame rfl rfl rfl rfl rfl rfl
  tsq _ _ := .of_frame rfl rfl rfl rfl rfl rfl
  shut _ _ _ := .of_frame rfl rfl rfl rfl rfl rfl
  opens _ _ _ := .of_frame rfl rfl rfl rfl rfl rfl
  aim _ _ _ := .of_frame rfl rfl rfl rfl rfl rfl
  operate _ _ _ _ := .of_frame rfl rfl rfl rfl rfl rfl
  emptied _ _ := .of_frame rfl rfl rfl rfl rfl rfl
  halt _ _ _ := .of_frame rfl rfl rfl rfl rfl rfl
  slot _ _ _ := .of_frame rfl rfl rfl rfl rfl rfl
  station _ _ := .of_frame rfl rfl rfl rfl rfl rfl
  copies _ _ _ _ _ := .modJob_same (fun _ => rfl) (fun _ => rfl) fun _ => rfl

end Sys2Proof.Machine
end

section
/-! PROOFS. Abandoning and deleting an image (O20): the mark of the loss, its hand-offs, and what lasts (R54, R58, R59). -/

namespace Sys2Proof.Machine

open State

namespace State
variable {s t u v : State} {n : BayId} {i k : Nat} {x : Image} {j : Job} {e : Event} {why : LossReason}

/-! ### Hand-offs in turn -/

/-- A run of steps of which each lets the state last, split at a member: what the members before it leave, and what lasts of
its own step. -/
theorem forEach_turn {α : Type} [DecidableEq α] {f : α → State → State} {Q : State → Prop} {a : α} (xs : List α)
    (listed : a ∈ xs) (lasts : ∀ y s, State.Lasts s (f y s)) (keeps : ∀ y s, y ≠ a → Q s → Q (f y s)) (hs : Q s) :
    ∃ w, s.Lasts w ∧ Q w ∧ (f a w).Lasts (forEach xs f s) := by
  have all (ys : List α) (t : State) : t.Lasts (forEach ys f t) := concludes_lasts.each ys t fun _ _ => lasts _ _
  induction xs generalizing s with
  | nil => cases listed
  | cons y ys ih =>
    rw [forEach_cons]
    by_cases e : y = a
    · subst e
      exact ⟨s, .refl s, hs, all ys _⟩
    · have rest : a ∈ ys := (List.mem_cons.1 listed).resolve_left (Ne.symm e)
      obtain ⟨w, before, hw, after⟩ := ih rest (keeps y s e hs)
      exact ⟨w, (lasts y s).trans before, hw, after⟩

/-! ### Notices that are told -/

/-- An event that is delivered is told to every booking that stands till then (R197). -/
theorem told_deliver (h : ∀ q, (t.port q).bookings = (s.port q).bookings) : s.told (t.deliver e) e := by
  intro q b hb matches_
  have booked : (t.port q).booked = (s.port q).booked := by rw [Port.booked, Port.booked, h q]
  rw [port_deliver, Port.deliver_eq, booked, Port.foldl_join]
  have listed : e.notice b ∈ ((s.port q).booked.filter (fun b => b.matchesEvent e)).map e.notice :=
    List.mem_map_of_mem (List.mem_filter.2 ⟨hb, matches_⟩)
  generalize ((s.port q).booked.filter (fun b => b.matchesEvent e)).map e.notice = xs at listed
  by_cases room : (t.port q).notices.length + xs.length ≤ 16
  · left
    refine List.mem_append_right _ ?_
    rw [List.take_of_length_le (by omega)]
    exact listed
  · right
    have some_ : xs.isEmpty = false := by
      cases xs with
      | nil => cases listed
      | cons _ _ => rfl
    refine ⟨by simp [some_, show 16 < (t.port q).notices.length + xs.length by omega], ?_⟩
    simp only [List.length_append, List.length_take]
    omega

theorem told_lasts (h : s.told t e) (lasts : t.Lasts u) : s.told u e := by
  intro q b hb matches_
  obtain ⟨-, notices, overflow⟩ := lasts.ports q
  rcases h q b hb matches_ with there | ⟨full, count⟩
  · exact .inl (notices.mem there)
  · exact .inr ⟨overflow full, count.trans notices.length_le⟩

/-! ### The mark -/

theorem removeImage_eq (x : Ipt) : x.removeImage i = { x with
    fifo := x.fifo.take (if x.writing then 1 else 0) ++
      (x.fifo.drop (if x.writing then 1 else 0)).filter (fun b => b.image != i) } := by
  unfold Ipt.removeImage
  split
  next h => rw [h, List.take_nil, List.drop_nil, List.filter_nil, List.nil_append, ← h]
  next b rest h w => rw [h, w]; rfl
  next h w _ => rw [w]; rfl

/-- What the mark says of the image: LOST for its reason, and the accepted count of an intake image (R54, R62). -/
def lostAs (x : Image) (why : LossReason) (n : Nat) (y : Image) : Prop :=
  y.state = .lost ∧ y.loss = some why ∧ (x.source = .intake → y.accepted = x.ingested + n)

theorem lostAs_accountFree {n : Nat} : Image.AccountFree (lostAs x why n) := ⟨fun _ _ _ _ h => h⟩

theorem marked_lostAs (hx : s.image? i = some x) :
    (s.marked i why).everyImage i (lostAs x why ((s.ipt.removeImage i).fifo.countP (fun b => b.image == i))) := by
  intro y hy
  unfold marked recountAccepted at hy
  rw [image?_modImage_self (recount_number _)] at hy
  obtain ⟨z, hz, rfl⟩ := Option.map_eq_some_iff.1 hy
  have lost : (s.modImage i (fun y => { y with state := .lost, loss := some why })).image? i = some z := hz
  rw [image?_modImage_self (by exact fun _ => rfl), hx] at lost
  cases lost
  by_cases intake : x.source = .intake
  · rw [if_pos ⟨rfl, intake⟩]
    exact ⟨rfl, rfl, fun _ => rfl⟩
  · rw [if_neg fun h => intake h.2]
    exact ⟨rfl, rfl, fun h => absurd h intake⟩

/-! ### The hand-offs (R54) -/

theorem job?_addHold_ne {c : HoldCause} {m : Nat} (h : k ≠ m) : (s.addHold c m).job? k = s.job? k := by
  have refreshed (u : State) : (u.refreshJob m).job? k = u.job? k := by
    unfold refreshJob
    split
    · split
      · dsimp only
        split <;> exact job?_modJob_ne (fun _ => rfl) h
      · rfl
    · rfl
  unfold addHold
  split
  · split
    · rw [job?_deliver, refreshed]
      exact job?_modJob_ne (fun _ => rfl) h
    · rfl
  · rfl

/-- A job that has not a cause is told of it and HELD; one that has is HELD already (R27). -/
theorem addHold_heldBy {c : HoldCause} (hj : s.job? k = some j) (live : j.live = true) (agrees : j.agrees) :
    (∃ v, (s.addHold c k).job? k = some v ∧ v.heldBy c) ∧
      (j.holds.has c = false → ∀ r : State, (∀ q, (s.port q).bookings = (r.port q).bookings) →
        r.told (s.addHold c k) { kind := .jobHeld, subject := .job k, detail := .hold c }) := by
  by_cases old : j.holds.has c = true
  · rw [addHold_of_has hj old]
    have held := (agrees live).2 (HoldSet.nonempty_of_has old)
    exact ⟨⟨j, hj, old, .inl held⟩, fun new => by simp [old] at new⟩
  · rw [addHold_of_new hj live (Bool.eq_false_iff.2 old)]
    exact ⟨⟨_, job?_modJob_self (fun _ => rfl) hj, HoldSet.has_put .., .inl rfl⟩, fun _ r bookings => told_deliver bookings⟩

/-- Of the jobs that gain a cause, each live one is HELD with it and told of it (R27). -/
theorem addHolds_heldBy {c : HoldCause} (stays : ¬c.ofSpindle) (hj : s.job? k = some j) (live : j.live = true)
    (agrees : j.agrees) (ks : List Nat) (listed : k ∈ ks) :
    let t := forEach ks (State.addHold c) s
    (∃ v, t.job? k = some v ∧ v.heldBy c) ∧
      (j.holds.has c = false → s.told t { kind := .jobHeld, subject := .job k, detail := .hold c }) := by
  obtain ⟨w, before, found, after⟩ := forEach_turn (f := State.addHold c) (Q := fun s => s.job? k = some j) ks listed
    (fun _ _ => concludes_lasts.addHold) (fun y s ne h => (job?_addHold_ne (Ne.symm ne)).trans h) hj
  obtain ⟨⟨v, hv, held⟩, told⟩ := addHold_heldBy (c := c) found live agrees
  obtain ⟨v', hv', lasts⟩ := after.jobs k v hv
  exact ⟨⟨v', hv', lasts.held c stays held⟩,
    fun new => told_lasts (told new s fun q => (before.ports q).bookings) after⟩

theorem mem_naming (hj : s.job? k = some j) (names : j.discImage = some i ∨ j.labelImage = some i) : k ∈ s.naming i := by
  obtain ⟨mem, number⟩ := job?_mem hj
  refine List.mem_map.2 ⟨j, List.mem_filter.2 ⟨mem, ?_⟩, number⟩
  rcases names with e | e <;> simp [e]

/-- The master-read request of a lost image leaves the queue (R45, R54). -/
theorem loseMasterRequest_masters : ∀ q ∈ (s.loseMasterRequest i).jsc.masters, q.image ≠ i := by
  unfold loseMasterRequest
  split
  · intro q hq
    simpa using (List.mem_filter.1 hq).2
  next none_ =>
    intro q hq e
    exact none_ (List.any_eq_true.2 ⟨q, hq, by simp [e]⟩)

/-- A stream of a lost image is closed (R101). -/
theorem abortStream_stream (only : ∀ y, s.stream n = some y → y.image = i) : (s.abortStream i n).stream n = none := by
  unfold abortStream
  split
  next y hy =>
    rw [if_pos (only y hy)]
    have closed : (s.closeStream n).stream n = none := by
      unfold closeStream
      rw [hy]
      exact Vector.getElem_set_self ..
    cases he : ((s.closeStream n).release n).stream n with
    | none => rfl
    | some z =>
      have lasts : (s.closeStream n).Lasts ((s.closeStream n).release n) := concludes_lasts.release
      exact absurd ((lasts.streams n z he).symm.trans closed) (by simp)
  next h => exact h

theorem abortStreams_stream (only : ∀ y, s.stream n = some y → y.image = i) :
    (forEach allBays (State.abortStream i) s).stream n = none := by
  obtain ⟨w, before, -, after⟩ := forEach_turn (f := State.abortStream i) (Q := fun _ => True) allBays (mem_allBays n)
    (fun _ _ => concludes_lasts.abortStream) (fun _ _ _ _ => trivial) trivial (s := s)
  have closed := abortStream_stream (s := w) (n := n) (i := i) fun y hy => only y (before.streams n y hy)
  cases he : (forEach allBays (State.abortStream i) s).stream n with
  | none => rfl
  | some z => exact absurd ((after.streams n z he).symm.trans closed) (by simp)

/-- What the loss of an image leaves once it has been handed over (R54). -/
structure Bereft (s : State) (i : Nat) (why : LossReason) (x : Image) (u : State) : Prop where
  ipt : u.ipt = s.ipt.removeImage i
  image : u.everyImage i (lostAs x why ((s.ipt.removeImage i).fifo.countP (fun b => b.image == i)))
  held (k : Nat) (j : Job) : s.job? k = some j → j.agrees → (j.discImage = some i ∨ j.labelImage = some i) → j.live = true →
    (∃ v, u.job? k = some v ∧ v.heldBy .imageLost) ∧
      (j.holds.imageLost = false → s.told u { kind := .jobHeld, subject := .job k, detail := .hold .imageLost })
  still (k : Nat) (j : Job) : s.job? k = some j → j.live = false → ∃ v, u.job? k = some v ∧ v.live = false ∧ v.holds = j.holds
  streams (n : BayId) (y : Stream) : x.kind = .disc → s.stream n = some y → y.image = i → u.stream n = none
  masters (q : MasterReq) : q ∈ u.jsc.masters → q.image ≠ i
  told : s.told u { kind := .imageLost, subject := .image i, detail := .loss why }

theorem Bereft.lasts (h : s.Bereft i why x u) (k : u.Lasts v) : s.Bereft i why x v where
  ipt := k.ipt.trans h.ipt
  image := k.images i _ lostAs_accountFree h.image
  held m j hj agrees names live := by
    obtain ⟨⟨w, hw, lost⟩, told⟩ := h.held m j hj agrees names live
    obtain ⟨w', hw', lasts⟩ := k.jobs m w hw
    exact ⟨⟨w', hw', lasts.held _ (by rintro (h | h) <;> cases h) lost⟩, fun new => told_lasts (told new) k⟩
  still m j hj live := by
    obtain ⟨w, hw, dead, holds⟩ := h.still m j hj live
    obtain ⟨w', hw', lasts⟩ := k.jobs m w hw
    obtain ⟨dead', same⟩ := lasts.still dead
    exact ⟨w', hw', dead', same.trans holds⟩
  streams n y disc hy at_ := by
    cases he : v.stream n with
    | none => rfl
    | some z => exact absurd ((k.streams n z he).symm.trans (h.streams n y disc hy at_)) (by simp)
  masters q hq := by
    obtain ⟨o, ho, e⟩ := k.masters q hq
    exact e ▸ h.masters o ho
  told := told_lasts h.told k

/-- The Feeder and the bays, or the station, take the loss by the image's kind (R54). -/
def lossTaken (kind : ImageKind) (i : Nat) (s : State) : State :=
  match kind with
  | .disc => s.discImageLost i
  | .label => s.labelImageLost i

theorem imageLost_taken (hx : s.image? i = some x) (live : x.state ≠ .lost) : s.imageLost i why =
    (((((forEach ((s.marked i why).naming i) (State.addHold .imageLost) (s.marked i why)).loseMasterRequest i).lossTaken
      x.kind i).deliver { kind := .imageLost, subject := .image i, detail := .loss why }).freeTest i) := by
  rw [imageLost_eq hx live]
  cases x.kind <;> rfl

theorem imageLost_bereft (hx : s.image? i = some x) (live : x.state ≠ .lost) :
    s.Bereft i why x (s.imageLost i why) := by
  rw [imageLost_taken hx live]
  have image := marked_lostAs (why := why) hx
  have ipt : (s.marked i why).ipt = s.ipt.removeImage i := rfl
  have jobs (k : Nat) : (s.marked i why).job? k = s.job? k := rfl
  have streams (n : BayId) : (s.marked i why).stream n = s.stream n := rfl
  have ports (u : State) (e : Event) : (s.marked i why).told u e → s.told u e := id
  generalize s.marked i why = a at image ipt jobs streams ports
  generalize hb : forEach (a.naming i) (State.addHold .imageLost) a = b
  have ab : a.Lasts b := hb ▸ concludes_lasts.each _ a fun _ _ => concludes_lasts.addHold
  have bc : b.Lasts (b.loseMasterRequest i) := concludes_lasts.loseMasterRequest
  have masters := loseMasterRequest_masters (s := b) (i := i)
  generalize b.loseMasterRequest i = c at bc masters
  have disc : c.Lasts (c.discImageLost i) ∧
      ∀ n y, s.stream n = some y → y.image = i → (c.discImageLost i).stream n = none := by
    have closes : c.Lasts (forEach allBays (State.abortStream i) c) := concludes_lasts.each _ c fun _ _ => concludes_lasts.abortStream
    have rest : (forEach allBays (State.abortStream i) c).Lasts (c.discImageLost i) :=
      concludes_lasts.trans (concludes_lasts.each _ _ fun _ _ => concludes_lasts.discTold) concludes_lasts.masterOutcome
    refine ⟨closes.trans rest, fun n y hy at_ => ?_⟩
    have closed : (forEach allBays (State.abortStream i) c).stream n = none := abortStreams_stream fun z hz => by
      have first := (ab.trans bc).streams n z hz
      rw [streams, hy] at first
      cases first
      exact at_
    cases he : (c.discImageLost i).stream n with
    | none => rfl
    | some z => exact absurd ((rest.streams n z he).symm.trans closed) (by simp)
  have label : c.Lasts (c.labelImageLost i) := concludes_lasts.labelImageLost
  have cd : c.Lasts (c.lossTaken x.kind i) ∧
      ∀ n y, x.kind = .disc → s.stream n = some y → y.image = i → (c.lossTaken x.kind i).stream n = none := by
    cases x.kind with
    | disc => exact ⟨disc.1, fun n y _ => disc.2 n y⟩
    | label => exact ⟨label, fun n y e => by cases e⟩
  generalize c.lossTaken x.kind i = d at cd
  have ad := (ab.trans bc).trans cd.1
  have told : a.told (d.deliver { kind := .imageLost, subject := .image i, detail := .loss why })
      { kind := .imageLost, subject := .image i, detail := .loss why } := told_deliver fun q => (ad.ports q).bookings
  have before : s.Bereft i why x (d.deliver { kind := .imageLost, subject := .image i, detail := .loss why }) := by
    have end_ : d.Lasts (d.deliver { kind := .imageLost, subject := .image i, detail := .loss why }) := .delivered _
    have all := ad.trans end_
    refine ⟨all.ipt.trans ipt, all.images i _ lostAs_accountFree image, fun k j hj agrees names alive => ?_,
      fun k j hj dead => ?_, fun n y kind hy at_ => ?_, fun q hq => ?_, ports _ _ told⟩
    · have found : a.job? k = some j := (jobs k).trans hj
      obtain ⟨⟨v, hv, held⟩, told⟩ := addHolds_heldBy (c := .imageLost) (by rintro (h | h) <;> cases h) found alive
        agrees (a.naming i) (mem_naming found names)
      rw [hb] at hv told
      have later := (bc.trans cd.1).trans end_
      obtain ⟨w, hw, lasts⟩ := later.jobs k v hv
      exact ⟨⟨w, hw, lasts.held _ (by rintro (h | h) <;> cases h) held⟩, fun new => ports _ _ (told_lasts (told new) later)⟩
    · obtain ⟨w, hw, lasts⟩ := all.jobs k j ((jobs k).trans hj)
      obtain ⟨dead', same⟩ := lasts.still dead
      exact ⟨w, hw, dead', same⟩
    · cases he : (d.deliver { kind := .imageLost, subject := .image i, detail := .loss why }).stream n with
      | none => rfl
      | some z => exact absurd ((end_.streams n z he).symm.trans (cd.2 n y kind hy at_)) (by simp)
    · obtain ⟨o, ho, e⟩ := (cd.1.trans end_).masters q hq
      exact e ▸ masters o ho
  exact before.lasts concludes_lasts.freeTest

/-! ### The answers -/

theorem answer_lasts {p : PortId} {kind tag : Nat} {r : Answer} : s.Lasts (s.answer p kind tag r) where
  ipt := rfl
  streams _ _ h := h
  masters q h := ⟨q, h, rfl⟩
  images _ _ _ h := h
  jobs _ j h := ⟨j, h, .refl j⟩
  ports q := by
    by_cases e : q = p
    · subst e
      rw [answer, port_modPort_self]
      exact ⟨rfl, List.prefix_refl _, id⟩
    · rw [answer, port_modPort_ne e]
      exact .refl _

/-- A change of an image that is then removed is no change. -/
theorem removed_modImage {f : Image → Image} (number : ∀ x, (f x).number = x.number) :
    ({ s.modImage i f with cat.images := (s.modImage i f).cat.images.filter (fun y => y.number != i) } : State) =
      { s with cat.images := s.cat.images.filter (fun y => y.number != i) } := by
  have same : (s.modImage i f).cat.images.filter (fun y => y.number != i) = s.cat.images.filter (fun y => y.number != i) := by
    change (s.cat.images.map _).filter _ = _
    induction s.cat.images with
    | nil => rfl
    | cons x xs ih =>
      rw [List.map_cons]
      by_cases e : x.number = i
      · rw [if_pos e, List.filter_cons_of_neg (by simp [number, e]), List.filter_cons_of_neg (by simp [e])]
        exact ih
      · rw [if_neg e, List.filter_cons_of_pos (by simp [e]), List.filter_cons_of_pos (by simp [e]), ih]
  rw [same]
  rfl

theorem image?_removed : ({ s with cat.images := s.cat.images.filter (fun y => y.number != i) } : State).image? i = none := by
  unfold image?
  rw [List.find?_filter]
  exact List.find?_eq_none.2 fun y _ => by simp

theorem freeTest_of_free (hx : s.image? i = some x) (free : (x.state = .doomed ∨ x.state = .lost) ∧ x.refs = 0 ∧ x.accesses = 0) :
    s.freeTest i = { s with cat.images := s.cat.images.filter (fun y => y.number != i) } := by
  rw [freeTest, hx]
  exact if_pos free

theorem freeTest_of_used (hx : s.image? i = some x) (used : ¬ (x.refs = 0 ∧ x.accesses = 0)) : s.freeTest i = s := by
  rw [freeTest, hx]
  exact if_neg fun h => used h.2

/-! ### A delete (R59) -/

theorem ownDeleteImage_of_ready {p : PortId} (hx : s.image? i = some x) (may : x.mayRemove p = true) (ready : x.state = .ready) :
    ownDeleteImage p i s = ((s.modImage i (fun y => { y with state := .doomed })).freeTest i,
      .good (((s.modImage i (fun y => { y with state := .doomed })).freeTest i).afterDelete i)) := by
  rw [ownDeleteImage, hx]
  dsimp only
  rw [may, if_neg (by decide), ready]

theorem ownDeleteImage_of_lost {p : PortId} (hx : s.image? i = some x) (may : x.mayRemove p = true) (lost : x.state = .lost)
    (unused : x.refs = 0) : ownDeleteImage p i s = (s.freeTest i, .good ((s.freeTest i).afterDelete i)) := by
  rw [ownDeleteImage, hx]
  dsimp only
  rw [may, if_neg (by decide), lost]
  exact if_neg (by omega)

end State

/-- Settles O20: an abandon by what lasts of the mark of the loss, a delete by the state of the image. -/
theorem removingAnImage : Obligations.RemovingAnImage := by
  intro s p tag i x hx owns
  have found : s.begin.image? i = some x := hx
  have may : x.mayRemove p = true := by
    rcases owns with e | e <;> simp [Image.mayRemove, e]
  refine ⟨fun filling held => ?abandon, fun held => ⟨fun ready used => ?doomed, fun ends refs accesses => ?freed,
    fun lost refs accesses => ?kept, fun lost refs => ?inUse, fun busy => ?wrong⟩⟩
  case abandon =>
    have owned : ownAbandonImage p i s.begin =
        (s.begin.imageLost i .abandoned, .good (flag ((s.begin.imageLost i .abandoned).image? i).isNone)) := by
      rw [ownAbandonImage, found]
      dsimp only
      rw [may, if_neg (by decide), if_neg (by simp [filling])]
    have runs : exec (.abandonImage p tag i) s = .next _ := congrArg Host.Outcome.next (requestNow_settles held owned)
    refine ⟨runs, _, runs, ?_⟩
    have bereft : s.begin.Bereft i .abandoned x (s.begin.imageLost i .abandoned) :=
      imageLost_bereft found (by simp [filling])
    have all := (bereft.lasts answer_lasts).lasts (concludes_lasts.toSettles.settle (s := (s.begin.imageLost i .abandoned).answer p 3 tag
      (.good (flag ((s.begin.imageLost i .abandoned).image? i).isNone))))
    generalize (((s.begin.imageLost i .abandoned).answer p 3 tag
      (.good (flag ((s.begin.imageLost i .abandoned).image? i).isNone))).settle) = u at all ⊢
    intro naming kept
    refine ⟨all.ipt.trans (removeImage_eq s.ipt), fun y hy => ?_, fun k j safe hj names alive => ?_, fun k j hj dead => ?_,
      all.streams, all.masters, all.told⟩
    · obtain ⟨lost, why, count⟩ := all.image y hy
      exact ⟨lost, why, fun intake => by rw [all.ipt]; exact count intake⟩
    · exact all.held k j hj ((jobsSafe_iff.1 safe).2 j (job?_mem hj).1) names alive
    · obtain ⟨v, hv, -, holds⟩ := all.still k j hj dead
      exact ⟨v, hv, holds⟩
  all_goals
    have answers (t : State) (r : Answer) (due : t.due = {}) (h : ownDeleteImage p i s.begin = (t, r)) :
        exec (.deleteImage p tag i) s = .next (t.answer p 4 tag r) := congrArg _ (requestNow_answers held h due)
  case doomed =>
    have doomed : (s.begin.modImage i (fun y => { y with state := .doomed })).image? i = some { x with state := .doomed } := by
      rw [image?_modImage_self fun _ => by rfl, found]
      rfl
    refine answers _ _ rfl ?_
    rw [ownDeleteImage_of_ready found may ready, freeTest_of_used doomed (by simpa [← not_and_or] using used), afterDelete, doomed]
    rfl
  case freed =>
    refine answers _ _ rfl ?_
    rcases ends with ready | lost
    · have doomed : (s.begin.modImage i (fun y => { y with state := .doomed })).image? i = some { x with state := .doomed } := by
        rw [image?_modImage_self fun _ => by rfl, found]
        rfl
      rw [ownDeleteImage_of_ready found may ready, freeTest_of_free doomed ⟨.inl rfl, refs, accesses⟩,
        removed_modImage fun _ => by rfl, afterDelete, image?_removed]
      rfl
    · rw [ownDeleteImage_of_lost found may lost refs, freeTest_of_free found ⟨.inr lost, refs, accesses⟩, afterDelete,
        image?_removed]
      rfl
  case kept =>
    refine answers _ _ rfl ?_
    rw [ownDeleteImage_of_lost found may lost refs, freeTest_of_used found fun h => accesses h.2, afterDelete, found,
      Option.map_some, lost]
    rfl
  case inUse =>
    refine answers _ _ rfl ?_
    rw [ownDeleteImage, found]
    dsimp only
    rw [may, if_neg (by decide), lost]
    exact if_pos refs
  case wrong =>
    refine answers _ _ rfl ?_
    rw [ownDeleteImage, found]
    dsimp only
    rw [may, if_neg (by decide)]
    rcases busy with e | e <;> rw [e] <;> rfl

end Sys2Proof.Machine
end

section
/-! PROOFS. What CLEAR-TOWER leaves alone once the feeds are empty and the operations of the bays have ended (R171): a relation
that each of its remaining parts keeps. -/

namespace Sys2Proof.Machine

open State

/-- The state that a bay comes to once the tower is cleared (R130, R127); `disc` says whether the bay has one. -/
def Bay.resting (disc : Bool) (b : Bay) : BayState :=
  match b.state with
  | .absent | .offline | .holding => b.state
  | .fault => if disc = false ∧ b.offline.isSome then .offline else .fault
  | _ => if disc then .holding else if b.offline.isSome then .offline else .empty

/-- A bay that was as `b` has no operation left: its buffers, counts, flags and timers, but for that of the tray (R119,
R130). -/
def Bay.stripped (b u : Bay) : Prop :=
  u.fifo = [] ∧ u.holding = [] ∧ u.engine = {} ∧ u.wantCredit = 0 ∧ u.sentBlocks = 0 ∧ u.refillHold = false ∧
    u.speedPending = false ∧ u.imageLostMark = false ∧ u.errand = .none ∧ u.faults = b.faults ∧
    (u.state ≠ .offline → u.timers = { tray := b.timers.tray } ∧ u.offline = b.offline)

/-- A bay that was as `b` is on its way to rest, stripped of its operation. -/
structure Bay.ClearedFrom (b : Bay) (disc : Bool) (u : Bay) : Prop where
  resting : u.resting disc = b.resting disc
  stripped : b.state ≠ .absent → b.stripped u

/-- A bay is in a state that CLEAR-TOWER leaves. -/
def Bay.restful (disc : Bool) (b : Bay) : Prop :=
  b.state = .absent ∨ b.state = .offline ∨ b.state = .holding ∨ b.state = .fault ∨ (b.state = .empty ∧ disc = false)

/-- A pending offline of a bay that is idle waits for the JSC alone (R127). -/
def State.waitsAt (s : State) (n : BayId) : Prop :=
  s.bayRes n = none → (s.bay n).offline ≠ none → s.discAt (.bay n) = none →
    ¬((s.bay n).state = .empty ∨ (s.bay n).state = .fault ∧ (s.bay n).errand = .none)

/-- A bay is at rest, and its pending offline has been tested. -/
def State.restsAt (s : State) (n : BayId) : Prop := (s.bay n).restful (s.discAt (.bay n)).isSome ∧ s.waitsAt n

/-- What a tower that is being cleared keeps of a job. -/
structure Job.Clears (j v : Job) : Prop where
  good : v.good = j.good
  budget : v.budgetRejects = j.budgetRejects
  drain : v.drain = j.drain
  live : v.live = j.live
  cleared : v.holds.cleared = j.holds.cleared
  still : j.live = false → v.holds = j.holds

/-- The station without its reservation (R175). -/
def Psc.unreserved (x : Psc) : Psc :=
  { x with reservedFor := none, state := if x.state = .reserved then .vacant else x.state }

/-- What was sent, the feeds, and the transport but for its queue. -/
def State.apart (s : State) := (s.sent, s.rgu, s.fdr.streams, { s.tsq with queue := [] })

/-- What the relation speaks of. -/
def State.clearing (s : State) :=
  ((s.discs, s.bays, s.jsc.bayRes, s.jsc.jobs), s.psc, s.ports, s.sent, s.rgu, s.fdr.streams, s.tsq)

/-- What a tower that is being cleared keeps, whatever becomes of the station. -/
structure State.Spares (s t : State) : Prop where
  apart : t.apart = s.apart
  places : s.keepsField Disc.location t
  final (d : DiscId) (r : Disc) : s.disc d = some r → r.verdict ≠ .pending → t.disc d = some r
  bays (n : BayId) (b : Bay) : b.ClearedFrom (s.discAt (.bay n)).isSome (s.bay n) →
    b.ClearedFrom (s.discAt (.bay n)).isSome (t.bay n)
  restful (n : BayId) : (s.bay n).restful (s.discAt (.bay n)).isSome → (t.bay n).restful (s.discAt (.bay n)).isSome
  rests (n : BayId) : s.restsAt n → t.restsAt n
  jobs (k : Nat) (j : Job) : s.job? k = some j → ∃ v, t.job? k = some v ∧ j.Clears v
  reserved (n : BayId) : s.bayRes n = none → t.bayRes n = none
  ports (p : PortId) : (s.port p).Lasts (t.port p)
  loads : (∀ e ∈ s.tsq.queue, e.cls = .clear) → ∀ e ∈ t.tsq.queue, e.cls = .clear

/-- What a tower that is being cleared keeps; `L` says of which images the loss is left out. -/
structure State.Clears (s : State) (L : Nat → Prop) (t : State) : Prop extends State.Spares s t where
  images (i : Nat) : ¬L i → t.image? i = s.image? i
  station : t.psc = s.psc ∨ t.psc = s.psc.unreserved

/-! ### Bays -/

namespace Bay
variable {b u : Bay} {disc : Bool}

theorem ClearedFrom.goesOffline (h : b.ClearedFrom disc u) (pending : u.offline ≠ none) (gone : disc = false)
    (idle : u.state = .empty ∨ u.state = .fault ∧ u.errand = .none) : b.ClearedFrom disc u.goesOffline where
  resting := by
    have pends : u.offline.isSome := Option.isSome_iff_ne_none.2 pending
    rw [← h.resting, Bay.resting, Bay.resting, gone]
    rcases idle with e | ⟨e, -⟩ <;> simp [e, pends, Bay.goesOffline]
  stripped at_ := by
    obtain ⟨fifo, holding, engine, want, sent, refill, speed, mark, -, faults, -⟩ := h.stripped at_
    exact ⟨fifo, holding, engine, want, sent, refill, speed, mark, rfl, faults, fun k => absurd rfl k⟩

/-- A change of state that comes to the same rest. -/
theorem ClearedFrom.to (h : b.ClearedFrom disc u) {x : BayState} (before : u.state ≠ .offline)
    (same : ({ u with state := x } : Bay).resting disc = u.resting disc) : b.ClearedFrom disc { u with state := x } where
  resting := same.trans h.resting
  stripped at_ := by
    obtain ⟨fifo, holding, engine, want, sent, refill, speed, mark, errand, faults, kept⟩ := h.stripped at_
    exact ⟨fifo, holding, engine, want, sent, refill, speed, mark, errand, faults, fun _ => kept before⟩

theorem ClearedFrom.unreserve (h : b.ClearedFrom disc u) (at_ : u.state = .reserved) :
    b.ClearedFrom disc { u with state := .empty } :=
  h.to (by simp [at_]) (by rw [Bay.resting, Bay.resting, at_])

/-- The end of a master read, at a bay that is at rest (R126). -/
theorem ClearedFrom.settled (h : b.ClearedFrom disc u) : b.ClearedFrom disc u.settled where
  resting := h.resting
  stripped at_ := by
    obtain ⟨fifo, holding, engine, want, sent, refill, speed, mark, errand, faults, kept⟩ := h.stripped at_
    refine ⟨fifo, rfl, engine, want, sent, refill, speed, mark, errand, faults, fun k => ?_⟩
    obtain ⟨timers, offline⟩ := kept k
    exact ⟨by rw [Bay.settled, timers], offline⟩

end Bay

/-! ### Jobs -/

namespace Job.Clears
variable {j v w : Job}

theorem refl (j : Job) : j.Clears j := ⟨rfl, rfl, rfl, rfl, rfl, fun _ => rfl⟩

theorem trans (h : j.Clears v) (k : v.Clears w) : j.Clears w where
  good := k.good.trans h.good
  budget := k.budget.trans h.budget
  drain := k.drain.trans h.drain
  live := k.live.trans h.live
  cleared := k.cleared.trans h.cleared
  still e := (k.still (h.live.trans e)).trans (h.still e)

/-- A reject that does not count against the budget (R32). -/
theorem account {r : Disc} {c : RejectCause} (free : c.counts = false) : j.Clears (j.account r (some c)) :=
  ⟨rfl, by simp [Job.account, free], rfl, rfl, rfl, fun _ => rfl⟩

/-- A hold other than CLEARED. -/
theorem hold {c : HoldCause} (live : j.live = true) (other : c ≠ .cleared) :
    j.Clears { j with holds := j.holds.put c true, state := .held } :=
  ⟨rfl, rfl, rfl, by rw [live]; rfl, HoldSet.has_put_ne (c' := .cleared) other.symm, fun k => by simp [live] at k⟩

end Job.Clears

namespace State
variable {s t u : State} {n m : BayId} {d : DiscId} {r r' : Disc} {k i : Nat} {L : Nat → Prop} {c : RejectCause}

theorem Clears.of_frame (h : t.clearing = s.clearing) (images : ∀ i, ¬L i → t.image? i = s.image? i) : s.Clears L t := by
  have discs : t.discs = s.discs := congrArg (fun w => w.1.1) h
  have bays : t.bays = s.bays := congrArg (fun w => w.1.2.1) h
  have bayRes : t.jsc.bayRes = s.jsc.bayRes := congrArg (fun w => w.1.2.2.1) h
  have jobs : t.jsc.jobs = s.jsc.jobs := congrArg (fun w => w.1.2.2.2) h
  have ports : t.ports = s.ports := congrArg (fun w => w.2.2.1) h
  have tsq : t.tsq = s.tsq := congrArg (fun w => w.2.2.2.2.2.2) h
  have bay (n : BayId) : t.bay n = s.bay n := by rw [State.bay, State.bay, bays]
  have res (n : BayId) : t.bayRes n = s.bayRes n := by rw [State.bayRes, State.bayRes, bayRes]
  have places := keepsField_of_discs (f := Disc.location) discs
  exact
    { apart := by
        rw [State.apart, State.apart, tsq]
        exact congrArg (fun w => (w.2.2.2.1, w.2.2.2.2.1, w.2.2.2.2.2.1, { s.tsq with queue := [] })) h
      places
      final _ _ hd _ := (disc_congr discs).trans hd
      bays n b hb := by rwa [bay]
      restful n h := by rwa [bay]
      rests n := by
        intro rests
        rwa [restsAt, waitsAt, bay, places.discAt, res]
      jobs k j hj := ⟨j, by rwa [job?, jobs], .refl j⟩
      station := .inl (congrArg (fun w => w.2.1) h)
      reserved n free := (res n).trans free
      ports p := by
        rw [port, port, ports]
        exact .refl _
      loads h := by rwa [tsq]
      images }

theorem Spares.trans (h : s.Spares t) (k : t.Spares u) : s.Spares u where
  apart := k.apart.trans h.apart
  places d := (k.places d).trans (h.places d)
  final d r hd hv := k.final d r (h.final d r hd hv) hv
  bays n b hb := by
    have same := h.places.discAt (.bay n)
    rw [← same]
    exact k.bays n b (by rw [same]; exact h.bays n b hb)
  restful n hb := by
    have same := h.places.discAt (.bay n)
    rw [← same]
    exact k.restful n (by rw [same]; exact h.restful n hb)
  rests n hn := k.rests n (h.rests n hn)
  jobs m j hj := by
    obtain ⟨v, hv, kept⟩ := h.jobs m j hj
    obtain ⟨w, hw, kept'⟩ := k.jobs m v hv
    exact ⟨w, hw, kept.trans kept'⟩
  reserved n free := k.reserved n (h.reserved n free)
  ports p := (h.ports p).trans (k.ports p)
  loads q := k.loads (h.loads q)

namespace Clears

theorem refl (s : State) : s.Clears L s := .of_frame rfl fun _ _ => rfl

theorem trans (h : s.Clears L t) (k : t.Clears L u) : s.Clears L u where
  toSpares := h.toSpares.trans k.toSpares
  images i free := (k.images i free).trans (h.images i free)
  station := by
    have twice (x : Psc) : x.unreserved.unreserved = x.unreserved := by
      unfold Psc.unreserved
      by_cases e : x.state = .reserved <;> simp [e]
    rcases h.station with e | e <;> rcases k.station with e' | e' <;> rw [e] at e' <;> simp [e', twice]

theorem ite {p : Prop} [Decidable p] (h : s.Clears L t) : s.Clears L (if p then t else s) := by
  split
  · exact h
  · exact refl s

/-! ### Single changes -/

theorem delivered (e : Event) (s : State) : s.Clears L (s.deliver e) :=
  { refl s with ports := fun p => by rw [port_deliver]; exact .delivered e _ }

theorem modJob {f : Job → Job} (number : ∀ x, (f x).number = x.number)
    (kept : ∀ j, s.job? k = some j → j.Clears (f j)) : s.Clears L (s.modJob k f) :=
  { refl s with
    jobs := fun m j hj => by
      by_cases e : m = k
      · subst e
        exact ⟨f j, job?_modJob_self number hj, kept j hj⟩
      · exact ⟨j, (job?_modJob_ne number e).trans hj, .refl j⟩ }

theorem decided (hr : s.disc d = some r) (hp : r.verdict = .pending) (v : Option RejectCause) :
    s.Clears L (s.modDisc d (Disc.decide' v)) :=
  have places := keepsField_modDisc (d := d) s fun r => show (r.decide' v).location = r.location by cases v <;> rfl
  { refl s with
    places
    final := fun e x hx hv => by
      by_cases same : e = d
      · subst same
        cases hr.symm.trans hx
        exact absurd hp hv
      · rwa [disc_modDisc_ne same]
    rests := fun m rests => by
      rw [restsAt, waitsAt, places.discAt]
      exact rests }

theorem queued {q : List Entry} (h : (∀ e ∈ s.tsq.queue, e.cls = .clear) → ∀ e ∈ q, e.cls = .clear) :
    s.Clears L { s with tsq.queue := q } :=
  { refl s with loads := h }

theorem duePass : s.Clears L s.duePass := of_frame rfl fun _ _ => rfl
theorem dueBoth : s.Clears L s.dueBoth := of_frame rfl fun _ _ => rfl
theorem dueSweep : s.Clears L s.dueSweep := of_frame rfl fun _ _ => rfl

theorem modBay {f : Bay → Bay}
    (from_ : ∀ b : Bay, b.ClearedFrom (s.discAt (.bay n)).isSome (s.bay n) →
      b.ClearedFrom (s.discAt (.bay n)).isSome (f (s.bay n)))
    (restful : (s.bay n).restful (s.discAt (.bay n)).isSome → (f (s.bay n)).restful (s.discAt (.bay n)).isSome)
    (rests : s.restsAt n → (s.modBay n f).restsAt n) : s.Clears L (s.modBay n f) :=
  { refl s with
    bays := fun m b h => by
      by_cases e : m = n
      · subst e
        rw [bay_modBay_self]
        exact from_ b h
      · rwa [bay_modBay_ne e]
    restful := fun m h => by
      by_cases e : m = n
      · subst e
        rw [bay_modBay_self]
        exact restful h
      · rwa [bay_modBay_ne e]
    rests := fun m h => by
      by_cases e : m = n
      · subst e
        exact rests h
      · rw [restsAt, waitsAt, bay_modBay_ne e]
        exact h }

theorem retired (pending : (s.bay n).offline ≠ none) (gone : s.discAt (.bay n) = none)
    (idle : (s.bay n).state = .empty ∨ (s.bay n).state = .fault ∧ (s.bay n).errand = .none) :
    s.Clears L (s.modBay n Bay.goesOffline) := by
  refine modBay (fun b h => h.goesOffline pending (by rw [gone]; rfl) idle) (fun _ => .inr (.inl rfl)) fun _ => ?_
  rw [restsAt, waitsAt, bay_modBay_self]
  exact ⟨.inr (.inl rfl), fun _ k => absurd rfl k⟩

theorem offlineCheck : s.Clears L (s.offlineCheck n) := by
  unfold State.offlineCheck
  split
  next c hc =>
    split
    next ready =>
      obtain ⟨pending, gone, idle⟩ := retires_of_offlineReady ready (by simp [hc])
      exact ((retired pending gone idle).trans (delivered _ _)).trans dueSweep
    next => exact refl s
  · exact refl s

end Clears

/-- A pending offline that has been tested has taken effect, or waits for the JSC (R127). -/
theorem offlineCheck_waits : (s.offlineCheck n).waitsAt n := by
  intro free pending gone idle
  cases hc : (s.bay n).offline with
  | none =>
    rw [offlineCheck_of_none (.inl hc)] at pending
    exact pending hc
  | some c =>
    by_cases ready : s.offlineReady n = true
    · rw [offlineCheck_of_ready hc ready] at pending
      refine pending ((congrArg Bay.offline (bay_modBay_self n Bay.goesOffline s)).trans ?_)
      rfl
    · rw [offlineCheck_of_waits (Bool.eq_false_iff.2 ready)] at free gone idle
      refine ready ?_
      rw [offlineReady]
      rcases idle with e | ⟨e, e'⟩
      · simp [free, gone, e]
      · simp [free, gone, e, e']

namespace Clears

theorem dropBayRes : s.Clears L (s.dropBayRes n) := by
  unfold State.dropBayRes
  split
  next reserved =>
    generalize hu : s.setBayRes n none = u
    have emptied : u.Clears L (if (u.bay n).state = .reserved then u.bayTo n .empty else u) := by
      split
      next at_ =>
        refine modBay (fun b h => h.unreserve at_) (fun k => ?_) fun k => ?_
        · simp [Bay.restful, at_] at k
        · exact absurd k.1 (by simp [Bay.restful, at_])
      next => exact refl u
    have checked := emptied.trans (offlineCheck (n := n))
    have waits := offlineCheck_waits (s := if (u.bay n).state = .reserved then u.bayTo n .empty else u) (n := n)
    dsimp only
    generalize (if (u.bay n).state = .reserved then u.bayTo n .empty else u).offlineCheck n = v at checked waits
    subst hu
    have res (m : BayId) (h : m = n ∨ s.bayRes m = none) : (s.setBayRes n none).bayRes m = none := by
      by_cases e : m = n
      · subst e
        exact Vector.getElem_set_self ..
      · exact (Vector.getElem_set_ne n.isLt m.isLt fun w => e (Fin.ext w.symm)).trans (h.resolve_left e)
    have from_s : s.Clears L v :=
      { checked with
        reserved := fun m h => checked.reserved m (res m (.inr h))
        rests := fun m h => by
          by_cases e : m = n
          · subst e
            exact ⟨by rw [checked.places.discAt]; exact checked.restful m h.1, waits⟩
          · refine checked.rests m ⟨h.1, fun free => h.2 ?_⟩
            exact (Vector.getElem_set_ne n.isLt m.isLt fun w => e (Fin.ext w.symm)).symm.trans free }
    exact from_s.trans dueBoth
  next => exact refl s

theorem dropResOf {x : BayRes} : s.Clears L (s.dropResOf x) := by
  unfold State.dropResOf
  split
  · exact dropBayRes
  · exact refl s

theorem unreserveStation {x : StationRes} : s.Clears L (s.unreserveStation x) := by
  refine ite ?_
  exact { refl s with station := .inr rfl }

theorem dropCopyRes {j a : Nat} : s.Clears L (s.dropCopyRes j a) := dropResOf.trans unreserveStation

/-! ### Verdicts -/

theorem addHold {h : HoldCause} (other : h ≠ .cleared) : s.Clears L (s.addHold h k) := by
  cases hj : s.job? k with
  | none => rw [State.addHold, hj]; exact refl s
  | some j =>
    by_cases live : j.live = true
    · by_cases has : j.holds.has h = true
      · rw [addHold_of_has hj has]
        exact refl s
      · rw [addHold_of_new hj live (Bool.eq_false_iff.2 has)]
        refine trans (modJob (by exact fun _ => rfl) fun v hv => ?_) (delivered _ _)
        cases hj.symm.trans hv
        exact .hold live other
    · rw [addHold_of_not_live hj (Bool.eq_false_iff.2 live)]
      exact refl s

theorem handClu : s.Clears L (s.handClu k c) := trans (delivered _ _) (ite (addHold (by simp)))

theorem stopSpareHold : s.Clears L (s.stopSpareHold r) := by
  unfold State.stopSpareHold
  split
  · exact of_frame rfl fun _ _ => rfl
  · exact refl s

end Clears

theorem handBay_of_quiet (quiet : c.raisesFaults = false) : s.handBay r (some c) = s := by
  unfold handBay
  split
  · rfl
  · exact if_neg (by simp [quiet])

/-- A job with a record has not come to its end (R26). -/
theorem terminalTest_of_record (hr : s.disc d = some r) (hk : r.job = some k) : s.terminalTest k = s := by
  cases hj : s.job? k with
  | none => rw [terminalTest, hj]
  | some j =>
    refine terminalTest_of_none hj (if_pos ?_)
    rw [(job?_mem hj).2]
    exact List.any_eq_true.2 ⟨d, (ascends_allDiscs d).2, by simp [hr, hk]⟩

namespace Clears

/-- What follows a verdict that blames no drive: the record's own job keeps a record, so it does not end. -/
theorem handResult (hr : s.disc d = some r') (same : r'.job = r.job) (quiet : c.raisesFaults = false)
    (free : c.counts = false) : s.Clears L (s.handResult r (some c)) := by
  unfold State.handResult State.handOffs
  cases hk : r.job with
  | none =>
    dsimp only
    rw [handBay_of_quiet quiet]
    exact refl s
  | some k =>
    dsimp only
    rw [handBay_of_quiet quiet]
    have told : s.Clears L ((s.modJob k (Job.account r (some c))).handClu k c) :=
      trans (modJob (Job.account_number r (some c)) fun _ _ => .account free) handClu
    have discs : ((s.modJob k (Job.account r (some c))).handClu k c).discs = s.discs := quiet_discs.handClu
    generalize (s.modJob k (Job.account r (some c))).handClu k c = u at told discs
    have ends (v : State) (h : v.discs = s.discs) : (v.terminalTest k).duePass = v.duePass :=
      congrArg State.duePass (terminalTest_of_record ((disc_congr h).trans hr) (same.trans hk))
    cases r.attempt with
    | none =>
      dsimp only
      rw [ends u discs]
      exact told.trans duePass
    | some a =>
      dsimp only
      rw [ends _ ((quiet_discs.dropCopyRes).trans discs)]
      exact (told.trans dropCopyRes).trans duePass

/-- The writing of a reject that blames no drive and that no budget counts. -/
theorem writeVerdict (quiet : c.raisesFaults = false) (free : c.counts = false) : s.Clears L (s.writeVerdict d (some c)) := by
  cases hr : s.disc d with
  | none => rw [State.writeVerdict, hr]; exact refl s
  | some r =>
    by_cases hp : r.verdict = .pending
    · rw [writeVerdict_of_pending hr hp]
      have before : s.Clears L ((s.modDisc d (Disc.decide' (some c))).stopSpareHold r) := (decided hr hp _).trans stopSpareHold
      have discs : ((s.modDisc d (Disc.decide' (some c))).stopSpareHold r).discs =
          (s.modDisc d (Disc.decide' (some c))).discs :=
        quiet_discs.stopSpareHold
      refine before.trans (handResult (r' := r.decide' (some c)) (d := d) ((disc_congr discs).trans ?_) rfl quiet free)
      rw [disc_modDisc_self, hr]
      rfl
    · rw [writeVerdict_of_final hr hp]
      exact refl s

theorem clearDisc : s.Clears L (s.clearDisc d) := ite (writeVerdict rfl rfl)

theorem each {α : Type} {f : α → State → State} (xs : List α) (s : State) (hf : ∀ x (s : State), s.Clears L (f x s)) :
    s.Clears L (forEach xs f s) :=
  forEach_keeps (P := s.Clears L) (fun x _ t ht => ht.trans (hf x t)) (refl s)

/-! ### Bays that come to rest -/

theorem clearFromBay : s.Clears L (s.clearFromBay n) := by
  have queue {src : Source} {dest : Dest} {d : DiscId} : s.Clears L (s.queueClear src d dest) := by
    unfold State.queueClear
    split
    · exact refl s
    · refine trans (queued (s := s) fun all e he => ?_) (of_frame rfl fun _ _ => rfl)
      rcases List.mem_append.1 he with h | h
      · exact all e h
      · rw [List.mem_singleton.1 h]
  unfold State.clearFromBay
  split
  · split
    · exact queue
    · exact refl s
  · exact refl s

end Clears

theorem working_of_restful {disc : Bool} {b : Bay} : b.restful disc → b.state ≠ .masterRead ∧ b.state ≠ .probing := by
  rintro (h | h | h | h | ⟨h, -⟩) <;> simp [h]

theorem clearBayState_clears : s.Clears L (s.clearBayState n) ∧ (s.clearBayState n).restsAt n := by
  have other (b : Bay) (disc : Bool) (h : b.state ≠ .absent ∧ b.state ≠ .offline ∧ b.state ≠ .holding ∧ b.state ≠ .fault) :
      b.resting disc = if disc then .holding else if b.offline.isSome then .offline else .empty := by
    unfold Bay.resting
    split <;> simp_all
  have checked (u : State) (h : (u.bay n).restful (u.discAt (.bay n)).isSome) : (u.offlineCheck n).restsAt n := by
    refine ⟨?_, offlineCheck_waits⟩
    have kept : u.Clears (fun _ => False) (u.offlineCheck n) := .offlineCheck
    rw [kept.places.discAt]
    exact kept.restful n h
  unfold clearBayState
  split
  next h => exact ⟨.refl s, .inl h, fun _ _ _ k => by simp [h] at k⟩
  next h => exact ⟨.refl s, .inr (.inl h), fun _ _ _ k => by simp [h] at k⟩
  next h => exact ⟨.refl s, .inr (.inr (.inl h)), fun _ _ _ k => by simp [h] at k⟩
  next h => exact ⟨.offlineCheck, checked s (.inr (.inr (.inr (.inl h))))⟩
  next absent offline holding fault =>
    have at_ := other (s.bay n) (s.discAt (.bay n)).isSome ⟨absent, offline, holding, fault⟩
    split
    next disc =>
      have rests : (s.bayTo n .holding).restsAt n := by
        rw [restsAt, waitsAt, bayTo, bay_modBay_self]
        exact ⟨.inr (.inr (.inl rfl)), fun _ _ _ k => by simp at k⟩
      refine ⟨.modBay (fun b h => h.to offline ?_) (fun _ => .inr (.inr (.inl rfl))) fun _ => rests, rests⟩
      rw [at_, disc]
      rfl
    next none_ =>
      have gone : (s.discAt (.bay n)).isSome = false := Bool.eq_false_iff.2 none_
      have emptied : s.Clears L (s.bayTo n .empty) := by
        refine .modBay (fun b h => h.to offline ?_) (fun _ => .inr (.inr (.inr (.inr ⟨rfl, gone⟩)))) fun ⟨rests, waits⟩ => ?_
        · rw [at_, gone]
          rfl
        · have empty : (s.bay n).state = .empty := by
            rcases rests with h | h | h | h | ⟨h, -⟩
            · exact absurd h absent
            · exact absurd h offline
            · exact absurd h holding
            · exact absurd h fault
            · exact h
          rw [restsAt, waitsAt, bay_modBay_self]
          refine ⟨.inr (.inr (.inr (.inr ⟨rfl, gone⟩))), fun free pending none_ _ => waits free pending none_ (.inl empty)⟩
      refine ⟨emptied.trans .offlineCheck, checked _ ?_⟩
      rw [bayTo, bay_modBay_self]
      exact .inr (.inr (.inr (.inr ⟨rfl, gone⟩)))

/-! ### The master reads that end -/

/-- The tower is cleared but for the masters at the bays: no stream is open, each bay is at rest, no LOAD is queued and the
station forwards no artwork. -/
structure Quelled (s : State) : Prop where
  streams (n : BayId) : s.stream n = none
  bays (n : BayId) : (s.bay n).restful (s.discAt (.bay n)).isSome
  queue : ∀ e ∈ s.tsq.queue, e.cls = .clear
  station : s.psc.state = .loaded → s.psc.step ≠ some .transfer

theorem Clears.quelled (h : s.Clears L t) (q : s.Quelled) : t.Quelled where
  streams n := by
    have same : t.fdr.streams = s.fdr.streams := congrArg (fun w => w.2.2.1) h.apart
    rw [stream, same]
    exact q.streams n
  bays n := by
    rw [h.places.discAt]
    exact h.restful n (q.bays n)
  queue := h.loads q.queue
  station := by
    rcases h.station with e | e
    · rw [e]
      exact q.station
    · rw [e]
      refine fun k => q.station ?_
      by_cases at_ : s.psc.state = .reserved
      · simp [Psc.unreserved, at_] at k
      · simpa [Psc.unreserved, at_] using k

theorem image?_marked_ne {why : LossReason} (ne : k ≠ i) : (s.marked i why).image? k = s.image? k := by
  have first : (s.modImage i (fun y => { y with state := .lost, loss := some why })).image? k = s.image? k :=
    image?_modImage_ne (by exact fun _ => rfl) (Ne.symm ne)
  refine Eq.trans ?_ first
  exact image?_modImage_ne (s := { s.modImage i _ with ipt := s.ipt.removeImage i }) (recount_number _) (Ne.symm ne)

theorem image?_freeTest_ne (ne : k ≠ i) : (s.freeTest i).image? k = s.image? k := by
  unfold freeTest
  split
  · split
    · unfold image?
      rw [List.find?_filter]
      refine congrArg (fun p => s.cat.images.find? p) (funext fun x => ?_)
      by_cases e : x.number = k <;> simp [e, ne]
    · rfl
  · rfl

/-- A run of steps of which none changes the state. -/
theorem forEach_of_still {α : Type} {f : α → State → State} (xs : List α) (h : ∀ x, f x s = s) : forEach xs f s = s := by
  induction xs with
  | nil => rfl
  | cons x xs ih => rw [forEach_cons, h, ih]

namespace Clears

theorem masterSettles (rests : (s.bay n).restful (s.discAt (.bay n)).isSome) : s.Clears L (s.masterSettles n) := by
  obtain ⟨reads, probes⟩ := working_of_restful rests
  have quiet : s.stillReading n = false := by simp [stillReading, reads]
  have settled : s.Clears L (s.modBay n Bay.settled) := by
    refine modBay (fun b h => h.settled) id fun h => ?_
    rw [restsAt, waitsAt, bay_modBay_self]
    exact h
  have ends (u : State) (reads : (u.bay n).state ≠ .masterRead) (probes : (u.bay n).state ≠ .probing) :
      u.Clears L (match (u.bay n).state with
        | .masterRead | .probing => u.hold n
        | .fault => u.clearFromBay n
        | .holding => if u.sweeping then u else u.clearFromBay n
        | _ => u) := by
    split
    next h => exact absurd h reads
    next h => exact absurd h probes
    · exact clearFromBay
    · split
      · exact refl u
      · exact clearFromBay
    · exact refl u
  unfold State.masterSettles
  dsimp only
  rw [quiet, if_neg (show ¬(false = true) by decide), if_neg fun k => probes k.1]
  have state : ((s.modBay n Bay.settled).bay n).state = (s.bay n).state := by rw [bay_modBay_self]; rfl
  exact settled.trans (ends _ (by rwa [state]) (by rwa [state]))

theorem masterOutcome (q : s.Quelled) : s.Clears L (s.masterOutcome i false) := by
  unfold State.masterOutcome
  split
  · split
    · split
      · exact refl s
      · have written {d : DiscId} : s.Clears L (s.writeVerdict d (some .imageLost)) := writeVerdict rfl rfl
        dsimp only
        split
        · exact written.trans (masterSettles ((written.quelled q).bays _))
        · exact written
    · exact refl s
  · exact refl s

/-- The loss of an image up to what is done with its kind: the mark, the holds and the master-read request. -/
theorem lossTold {why : LossReason} (q : s.Quelled) (left : L i) :
    let t := (forEach ((s.marked i why).naming i) (State.addHold .imageLost) (s.marked i why)).loseMasterRequest i
    s.Clears L t ∧ t.discs = s.discs := by
  have marked : s.Clears L (s.marked i why) := of_frame rfl fun k h => image?_marked_ne fun e => h (e ▸ left)
  have told := marked.trans (each ((s.marked i why).naming i) (s.marked i why) (f := State.addHold .imageLost)
    fun _ _ => addHold (by simp))
  have discs : (forEach ((s.marked i why).naming i) (State.addHold .imageLost) (s.marked i why)).discs = s.discs :=
    quiet_discs.each (f := State.addHold .imageLost) _ (s.marked i why) fun _ _ => quiet_discs.addHold
  generalize forEach ((s.marked i why).naming i) (State.addHold .imageLost) (s.marked i why) = t at told discs
  have none_ : t.tsq.queue.filter (fun e => e.cls == .load && e.image == some i) = [] := by
    refine List.filter_eq_nil_iff.2 fun e he => ?_
    simp [(told.quelled q).queue e he]
  have request : t.Clears L (t.loseMasterRequest i) ∧ (t.loseMasterRequest i).discs = t.discs := by
    unfold State.loseMasterRequest
    rw [none_]
    split
    · exact ⟨of_frame rfl fun _ _ => rfl, rfl⟩
    · exact ⟨refl t, rfl⟩
  exact ⟨told.trans request.1, request.2.trans discs⟩

end Clears

/-- With no stream open and every bay at rest, the loss of a DISC image reaches its master alone. -/
theorem discImageLost_of_quelled (q : s.Quelled) : s.discImageLost i = s.masterOutcome i false := by
  have streams : forEach allBays (State.abortStream i) s = s := forEach_of_still _ fun n => by
    rw [State.abortStream, q.streams n]
  have bays : forEach allDiscs (State.discTold i) s = s := forEach_of_still _ fun d => by
    unfold State.discTold
    split
    next n _ =>
      unfold State.bayImageLost
      split
      · rcases q.bays n with h | h | h | h | ⟨h, -⟩ <;> rw [h]
      · rfl
    · rfl
  rw [discImageLost, streams, bays]

theorem stationImageLost_of_quelled (q : s.Quelled) : s.stationImageLost i = s := by
  unfold stationImageLost
  split
  · exact if_neg fun ⟨at_, step, _⟩ => q.station at_ step
  · rfl

namespace Clears

theorem labelImageLost (q : s.Quelled) : s.Clears L (s.labelImageLost i) := by
  unfold State.labelImageLost
  dsimp only
  rw [stationImageLost_of_quelled q]
  refine ite ?_
  unfold State.withdrawArtwork
  split
  · exact of_frame rfl fun _ _ => rfl
  · exact refl s

theorem imageLost {why : LossReason} (q : s.Quelled) (left : L i) : s.Clears L (s.imageLost i why) := by
  cases hx : s.image? i with
  | none =>
    rw [State.imageLost, hx]
    exact refl s
  | some x =>
    by_cases lost : x.state = .lost
    · rw [State.imageLost, hx]
      dsimp only
      rw [if_pos lost]
      exact refl s
    rw [imageLost_taken hx lost]
    obtain ⟨told, -⟩ := lossTold (L := L) (why := why) q left
    have quelled := told.quelled q
    generalize (forEach ((s.marked i why).naming i) (State.addHold .imageLost) (s.marked i why)).loseMasterRequest i = u
      at told quelled
    have loss : u.Clears L (u.lossTaken x.kind i) := by
      unfold State.lossTaken
      split
      · rw [discImageLost_of_quelled quelled]
        exact masterOutcome quelled
      · exact labelImageLost quelled
    have freed (v : State) : v.Clears L (v.freeTest i) := by
      obtain ⟨c, e⟩ := freeTest_frame i v
      exact of_frame (by rw [e]; rfl) fun k h => image?_freeTest_ne fun e => h (e ▸ left)
    exact ((told.trans loss).trans (delivered _ _)).trans (freed _)

theorem reportFailed {why : LossReason} (q : s.Quelled) (left : L i) : s.Clears L (s.reportFailed i why) := by
  unfold State.reportFailed
  split
  · exact masterOutcome q
  · exact ite (imageLost q left)

theorem clearMaster (q : s.Quelled) (left : ∀ i, L i) : s.Clears L (s.clearMaster n) := by
  unfold State.clearMaster
  split
  · split
    · exact reportFailed q (left _)
    · exact refl s
  · exact refl s

end Clears

end State
end Sys2Proof.Machine
end

section
/-! PROOFS. CLEAR-TOWER part by part (R171): the feeds, the operations of the bays, the transport, the station, the jobs and the
start of the sweep. -/

namespace Sys2Proof.Machine

open State

namespace State
variable {s t u : State} {n : BayId} {d : DiscId} {r : Disc} {k i : Nat}

/-! ### One member of a run -/

/-- What a run of steps makes of a property that one member of it turns into another, which the members before it and those
after it keep. -/
theorem forEach_at {α : Type} {f : α → State → State} {P Q : State → Prop} {a : α} {xs : List α}
    (once : xs.Nodup) (listed : a ∈ xs) (before : ∀ y s, y ≠ a → P s → P (f y s)) (turn : ∀ s, P s → Q (f a s))
    (after : ∀ y s, y ≠ a → Q s → Q (f y s)) (hs : P s) : Q (forEach xs f s) := by
  induction xs generalizing s with
  | nil => cases listed
  | cons y ys ih =>
    obtain ⟨fresh, once⟩ := List.nodup_cons.1 once
    rw [forEach_cons]
    by_cases e : y = a
    · subst e
      exact forEach_keeps (P := Q) (fun z hz t ht => after z t (fun w => fresh (w ▸ hz)) ht) (turn s hs)
    · exact ih once ((List.mem_cons.1 listed).resolve_left (Ne.symm e)) (before y s e hs)

theorem allBays_nodup : allBays.Nodup := by decide
theorem allDiscs_nodup : allDiscs.Nodup := by decide

/-! ### The feeds (R104, R87) -/

theorem clearFeeds_frame (s : State) : ∃ f m, s.clearFeeds = { s with fdr := f, smc := m, rgu := {} } ∧
    ∀ n, s.clearFeeds.stream n = none := by
  have frame (xs : List BayId) (s : State) : ∃ f m, forEach xs State.closeStream s = { s with fdr := f, smc := m } := by
    induction xs generalizing s with
    | nil => exact ⟨_, _, rfl⟩
    | cons x xs ih =>
      obtain ⟨f, m, e⟩ := closeStream_frame x s
      rw [forEach_cons, e]
      exact ih _
  have closes (n : BayId) : (forEach allBays State.closeStream s).stream n = none := by
    have closed (t : State) : (t.closeStream n).stream n = none := by
      unfold closeStream
      split
      · exact Vector.getElem_set_self ..
      next h => exact h
    have kept (y : BayId) (t : State) (other : y ≠ n) (h : t.stream n = none) : (t.closeStream y).stream n = none := by
      unfold closeStream
      split
      · exact (Vector.getElem_set_ne y.isLt n.isLt fun w => other (Fin.ext w)).trans h
      · exact h
    exact forEach_at (f := State.closeStream) (P := fun _ => True) (Q := fun t => t.stream n = none) allBays_nodup
      (mem_allBays n) (fun _ _ _ _ => trivial) (fun t _ => closed t) kept trivial
  obtain ⟨f, m, e⟩ := frame allBays s
  rw [e] at closes
  rw [clearFeeds, e]
  exact ⟨f, m, rfl, closes⟩
/-! ### The operations of the bays (R130) -/

/-- A bay whose operation and errand CLEAR-TOWER has ended. -/
def worked (b : Bay) : Bay := if b.state = .absent then b else { b.quiet with errand := .none }

theorem worked_cleared (disc : Bool) (b : Bay) : b.ClearedFrom disc (worked b) := by
  unfold worked
  split
  next absent => exact ⟨rfl, fun k => absurd absent k⟩
  next => exact ⟨rfl, fun _ => ⟨rfl, rfl, rfl, rfl, rfl, rfl, rfl, rfl, rfl, rfl, fun _ => ⟨rfl, rfl⟩⟩⟩

theorem withdraw_of_empty (h : s.rgu = {}) : s.withdraw n = s := by
  have none_ : s.grant n = none := by
    rw [grant, h]
    exact Vector.getElem_replicate ..
  unfold withdraw
  rw [none_, if_neg (by simp), if_neg (by simp [waits, h])]

/-- The message that stops a bay's drive. -/
def stops (n : BayId) (b : Bay) : List OutMsg := if b.state.working then [.bay n .abort] else []

theorem clearBayWork_eq (h : s.rgu = {}) : s.clearBayWork n =
    { s with bays := s.bays.set n (worked (s.bay n)), sent := s.sent ++ stops n (s.bay n) } := by
  unfold clearBayWork worked stops
  by_cases absent : (s.bay n).state = .absent
  · rw [if_pos absent, if_pos absent, absent, show BayState.absent.working = false from rfl, if_neg (by simp),
      List.append_nil]
    exact congrArg (fun w => ({ s with bays := w } : State)) (Vector.set_getElem_self _).symm
  · rw [if_neg absent, if_neg absent]
    unfold teardown
    dsimp only
    rw [Bool.true_and]
    split
    · rw [withdraw_of_empty (s := s.toBay n .abort) h, modBay_modBay]
      rfl
    · rw [withdraw_of_empty h, modBay_modBay, List.append_nil]
      rfl

/-- What the end of the operations leaves: each bay without its operation, and one ABORT to each drive that worked. -/
theorem bayWorks (h : s.rgu = {}) (none_ : s.sent = []) :
    ∃ bs ms, forEach allBays clearBayWork s = { s with bays := bs, sent := ms } ∧ .arm .halt ∉ ms ∧
      ∀ n : BayId, bs[n] = worked (s.bay n) ∧ (.bay n .abort ∈ ms ↔ (s.bay n).state.working = true) := by
  have frame (xs : List BayId) (t : State) (ht : t.rgu = {}) (halt : .arm .halt ∉ t.sent) :
      ∃ bs ms, forEach xs clearBayWork t = { t with bays := bs, sent := ms } ∧ .arm .halt ∉ ms := by
    induction xs generalizing t with
    | nil => exact ⟨_, _, rfl, halt⟩
    | cons x xs ih =>
      rw [forEach_cons, clearBayWork_eq ht]
      refine ih _ ht ?_
      unfold stops
      split <;> simpa using halt
  obtain ⟨bs, ms, e, halt⟩ := frame allBays s h (by simp [none_])
  refine ⟨bs, ms, e, halt, fun n => ?_⟩
  have away {m : BayId} (other : m ≠ n) (t : State) (b : Bay) : (t.bays.set m b)[n] = t.bay n :=
    Vector.getElem_set_ne m.isLt n.isLt fun w => other (Fin.ext w)
  have silent {m : BayId} (other : m ≠ n) (b : Bay) : .bay n .abort ∉ stops m b := by
    unfold stops
    split
    · simp [Ne.symm other]
    · simp
  have done : (forEach allBays clearBayWork s).rgu = {} ∧ (forEach allBays clearBayWork s).bay n = worked (s.bay n) ∧
      (.bay n .abort ∈ (forEach allBays clearBayWork s).sent ↔ (s.bay n).state.working = true) := by
    refine forEach_at (f := clearBayWork)
      (P := fun t => t.rgu = {} ∧ t.bay n = s.bay n ∧ .bay n .abort ∉ t.sent)
      (Q := fun t => t.rgu = {} ∧ t.bay n = worked (s.bay n) ∧ (.bay n .abort ∈ t.sent ↔ (s.bay n).state.working = true))
      allBays_nodup (mem_allBays n) ?_ ?_ ?_ ⟨h, rfl, by simp [none_]⟩
    · rintro m t other ⟨empty, same, quiet⟩
      rw [clearBayWork_eq empty]
      exact ⟨empty, (away other t _).trans same, by simp [quiet, silent other]⟩
    · rintro t ⟨empty, same, quiet⟩
      rw [clearBayWork_eq empty]
      refine ⟨empty, (Vector.getElem_set_self ..).trans (congrArg worked same), ?_⟩
      rw [same, stops, List.mem_append]
      by_cases works : (s.bay n).state.working = true <;> simp [works, quiet]
    · rintro m t other ⟨empty, same, sent⟩
      rw [clearBayWork_eq empty]
      exact ⟨empty, (away other t _).trans same, by simp [← sent, silent other]⟩
  rw [e] at done
  exact done.2

end State
end Sys2Proof.Machine
end

section
/-! PROOFS. The masters at the bays when the tower is cleared (R130, R126, R68): each reports its read failed. -/

namespace Sys2Proof.Machine

open State

namespace State
variable {s t u : State} {n : BayId} {d : DiscId} {r : Disc} {k i : Nat} {x : Image} {why : LossReason}

/-- The record of an image's master is rejected, and no other record changes. -/
def masterRejected (s : State) (i : Nat) (t : State) : Prop :=
  ∃ d r, s.masterOf i = some d ∧ s.disc d = some r ∧ t.discs = (s.modDisc d (Disc.decide' (some .imageLost))).discs

theorem masterSettles_discs : (s.masterSettles n).discs = s.discs := by
  have stopped (u : State) (p : Prop) [Decidable p] (m : BayMsg) : (if p then u.toBay n m else u).discs = u.discs := by
    split <;> rfl
  have ends (u : State) : (match (u.bay n).state with
      | .masterRead | .probing => u.hold n
      | .fault => u.clearFromBay n
      | .holding => if u.sweeping then u else u.clearFromBay n
      | _ => u).discs = u.discs := by
    split
    · exact hold_discs
    · exact hold_discs
    · exact quiet_discs.clearFromBay
    · split
      · rfl
      · exact quiet_discs.clearFromBay
    · rfl
  exact (ends _).trans ((stopped _ _ .abort).trans (stopped _ _ .readHalt))

theorem masterOutcome_discs :
    (s.masterOutcome i false).discs = s.discs ∨ s.masterRejected i (s.masterOutcome i false) := by
  unfold masterOutcome
  split
  next d hd =>
    split
    next r hr =>
      split
      · exact .inl rfl
      · have discs := writeVerdict_discs (v := some .imageLost) hr (masterOf_eq_some hd hr).2.2
        refine .inr ⟨d, r, hd, hr, ?_⟩
        dsimp only
        split
        · exact masterSettles_discs.trans discs
        · exact discs
    · exact .inl rfl
  · exact .inl rfl

/-- The master at a bay at rest is rejected at the outcome of its read (R126). -/
theorem masterOutcome_rejects (q : s.Quelled) (hd : s.masterOf i = some d) (hr : s.disc d = some r)
    (at_ : r.location = .bay n) : (s.masterOutcome i false).disc d = some (r.decide' (some .imageLost)) := by
  have begun : s.masterNotBegun r = false := by
    unfold masterNotBegun
    rw [at_]
    rcases q.bays n with h | h | h | h | ⟨h, -⟩ <;> simp [h]
  unfold masterOutcome
  rw [hd]
  dsimp only
  rw [hr]
  dsimp only
  rw [begun, at_, if_neg (by simp)]
  exact (disc_congr masterSettles_discs).trans (disc_writeVerdict hr (masterOf_eq_some hd hr).2.2)

theorem freeTest_discs : (s.freeTest i).discs = s.discs := by
  obtain ⟨c, e⟩ := freeTest_frame i s
  rw [e]

/-- What the loss of an image does to the records is what its kind does. -/
theorem imageLost_discs (q : s.Quelled) (hx : s.image? i = some x) (live : x.state ≠ .lost) :
    ∃ u : State, u.Quelled ∧ u.discs = s.discs ∧ (s.imageLost i why).discs = (u.lossTaken x.kind i).discs := by
  obtain ⟨told, discs⟩ := Clears.lossTold (L := fun _ => True) (why := why) (i := i) q trivial
  refine ⟨_, told.quelled q, discs, ?_⟩
  rw [imageLost_taken hx live]
  exact freeTest_discs

theorem labelImageLost_discs (q : s.Quelled) : (s.labelImageLost i).discs = s.discs := by
  unfold labelImageLost
  dsimp only
  rw [stationImageLost_of_quelled q]
  split
  · exact quiet_discs.withdrawArtwork
  · rfl

theorem masterOf_congr (discs : t.discs = s.discs) : t.masterOf i = s.masterOf i :=
  (keepsMasters.masterOf (keepsField_of_discs discs))

theorem masterRejected.congr {t' : State} (h : u.masterRejected i t') (discs : u.discs = s.discs)
    (same : t.discs = t'.discs) :
    s.masterRejected i t := by
  obtain ⟨d, r, hd, hr, e⟩ := h
  refine ⟨d, r, (masterOf_congr discs).symm.trans hd, (disc_congr discs).symm.trans hr, same.trans (e.trans ?_)⟩
  unfold modDisc
  rw [discs]

theorem reportFailed_discs (q : s.Quelled) :
    (s.reportFailed i why).discs = s.discs ∨ s.masterRejected i (s.reportFailed i why) := by
  unfold reportFailed
  split
  · exact masterOutcome_discs
  unfold readFailed
  split
  next all open_ =>
    cases hx : s.image? i with
    | none => simp [hx] at all
    | some x =>
      have live : x.state ≠ .lost := by simpa [hx] using all
      obtain ⟨u, quelled, discs, e⟩ := imageLost_discs (why := why) q hx live
      cases kind : x.kind with
      | disc =>
        rw [kind] at e
        have same : u.lossTaken .disc i = u.masterOutcome i false := discImageLost_of_quelled quelled
        rw [same] at e
        rcases masterOutcome_discs (s := u) (i := i) with h | h
        · exact .inl (e.trans (h.trans discs))
        · exact .inr (h.congr discs e)
      | label =>
        rw [kind] at e
        exact .inl (e.trans ((labelImageLost_discs quelled).trans discs))
  · exact .inl rfl

/-- A read that fails leaves the master of another image, and the record of each disc that is not of its image. -/
theorem reportFailed_other (q : s.Quelled) (ne : i ≠ k) (hr : s.disc d = some r) (image : r.image = some i) :
    (s.reportFailed k why).disc d = some r ∧ (s.reportFailed k why).masterOf i = s.masterOf i := by
  rcases reportFailed_discs (why := why) (i := k) q with same | ⟨e, y, he, hy, same⟩
  · exact ⟨(disc_congr same).trans hr, masterOf_congr same⟩
  obtain ⟨-, of_k, -⟩ := masterOf_eq_some he hy
  constructor
  · refine (disc_congr same).trans ((disc_modDisc_ne ?_ _ _).trans hr)
    rintro rfl
    rw [hr] at hy
    cases hy
    exact ne (Option.some.inj (image.symm.trans of_k))
  · refine (masterOf_congr same).trans (keepsMasters.masterOf fun c => ?_)
    by_cases h : c = e
    · subst h
      rw [disc_modDisc_self, hy]
      have other : (some k == some i) = false := by simpa using Ne.symm ne
      simp [Disc.decide', of_k, other]
    · rw [disc_modDisc_ne h]

/-- The master at a bay whose image is lost, or not yet read, is rejected (R68, R126; notes/assumptions/31.md). -/
theorem reportFailed_rejects (q : s.Quelled) (hd : s.masterOf i = some d) (hr : s.disc d = some r)
    (at_ : r.location = .bay n) (hx : s.image? i = some x) (kind : x.kind = .disc) (lossy : x.state = .lost ∨ x.readDone = false) :
    (s.reportFailed i why).disc d = some (r.decide' (some .imageLost)) := by
  unfold reportFailed
  rw [hx, Option.all_some]
  by_cases lost : x.state = .lost
  · rw [if_pos (by simp [lost])]
    exact masterOutcome_rejects q hd hr at_
  · rw [if_neg (by simp [lost]), readFailed, hx, Option.any_some, if_pos (by simp [lossy.resolve_left lost])]
    obtain ⟨u, quelled, discs, e⟩ := imageLost_discs (why := why) q hx lost
    rw [kind] at e
    have same : u.lossTaken .disc i = u.masterOutcome i false := discImageLost_of_quelled quelled
    rw [same] at e
    exact (disc_congr e).trans
      (masterOutcome_rejects quelled ((masterOf_congr discs).trans hd) ((disc_congr discs).trans hr) at_)

/-- A read reported complete is not reported failed (R68). -/
theorem reportFailed_of_done (hx : s.image? i = some x) (live : x.state ≠ .lost) (done : x.readDone = true) :
    s.reportFailed i why = s := by
  unfold reportFailed readFailed
  rw [hx, Option.all_some, if_neg (by simp [live]), Option.any_some, if_neg (by simp [done])]

/-- A bay reports the read of its PENDING master failed, and does nothing otherwise. -/
theorem clearMaster_eq (n : BayId) (s : State) : s.clearMaster n = s ∨
    ∃ i, (s.recAt (.bay n)).bind Disc.image = some i ∧ s.clearMaster n = s.reportFailed i .aborted := by
  unfold clearMaster
  split
  next r hr =>
    split
    next i _ _ hi => exact .inr ⟨i, by rw [hr]; exact hi, rfl⟩
    · exact .inl rfl
  · exact .inl rfl

/-- The master of an image as CLEAR-TOWER finds it at its bay. -/
structure AwaitsRead (s : State) (i : Nat) (n : BayId) (d : DiscId) (r : Disc) (x : Image) : Prop where
  record : s.disc d = some r
  master : s.masterOf i = some d
  place : r.location = .bay n
  image : s.image? i = some x
  kind : x.kind = .disc

theorem AwaitsRead.reportFailed (h : s.AwaitsRead i n d r x) (q : s.Quelled) (ne : i ≠ k) :
    (s.reportFailed k why).AwaitsRead i n d r x := by
  obtain ⟨-, of_i, -⟩ := masterOf_eq_some h.master h.record
  obtain ⟨record, master⟩ := reportFailed_other (why := why) q ne h.record of_i
  have image := (Clears.reportFailed (L := fun m => m = k) (why := why) q rfl).images i ne
  exact ⟨record, master.trans h.master, h.place, image.trans h.image, h.kind⟩

theorem clearMasters_clears (q : s.Quelled) (xs : List BayId) : s.Clears (fun _ => True) (forEach xs clearMaster s) :=
  forEach_keeps (P := s.Clears fun _ => True) (fun _ _ _ h => h.trans (.clearMaster (h.quelled q) fun _ => trivial)) (.refl s)

/-- A master whose image is lost, or not yet read, is rejected when its bay reports, or before. -/
theorem clearMasters_rejects (q : s.Quelled) (h : s.AwaitsRead i n d r x) (at_ : s.discAt (.bay n) = some d)
    (lossy : x.state = .lost ∨ x.readDone = false) :
    (forEach allBays clearMaster s).disc d = some (r.decide' (some .imageLost)) := by
  obtain ⟨purpose, of_i, pending⟩ := masterOf_eq_some h.master h.record
  have step (m : BayId) (u : State) (hu : s.Clears (fun _ => True) u) :
      s.Clears (fun _ => True) (u.clearMaster m) := hu.trans (.clearMaster (hu.quelled q) fun _ => trivial)
  have stays (m : BayId) (u : State) (hu : u.Quelled) (e : u.disc d = some (r.decide' (some .imageLost))) :
      (u.clearMaster m).disc d = some (r.decide' (some .imageLost)) :=
    (Clears.clearMaster (L := fun _ => True) hu fun _ => trivial).final d _ e (Disc.decide'_final _ _)
  refine (forEach_at (f := clearMaster) (a := n)
    (P := fun u => s.Clears (fun _ => True) u ∧ (u.AwaitsRead i n d r x ∨ u.disc d = some (r.decide' (some .imageLost))))
    (Q := fun u => s.Clears (fun _ => True) u ∧ u.disc d = some (r.decide' (some .imageLost)))
    allBays_nodup (mem_allBays n) ?_ ?_ ?_ ⟨.refl s, .inl h⟩).2
  · rintro m u - ⟨hu, awaits | done⟩
    · refine ⟨step m u hu, ?_⟩
      rcases clearMaster_eq m u with e | ⟨k, -, e⟩
      · rw [e]
        exact .inl awaits
      · rw [e]
        by_cases same : i = k
        · subst same
          exact .inr (reportFailed_rejects (hu.quelled q) awaits.master awaits.record awaits.place awaits.image
            awaits.kind lossy)
        · exact .inl (awaits.reportFailed (hu.quelled q) same)
    · exact ⟨step m u hu, .inr (stays m u (hu.quelled q) done)⟩
  · rintro u ⟨hu, awaits | done⟩
    · refine ⟨step n u hu, ?_⟩
      have here : u.recAt (.bay n) = some r := by
        rw [recAt, hu.places.discAt, at_]
        exact awaits.record
      have reports : u.clearMaster n = u.reportFailed i .aborted := by
        unfold clearMaster
        rw [here]
        dsimp only
        rw [purpose, pending, of_i]
      rw [reports]
      exact reportFailed_rejects (hu.quelled q) awaits.master awaits.record awaits.place awaits.image awaits.kind lossy
    · exact ⟨step n u hu, stays n u (hu.quelled q) done⟩
  · rintro m u - ⟨hu, done⟩
    exact ⟨step m u hu, stays m u (hu.quelled q) done⟩

/-- A master whose read was reported complete stays. -/
theorem clearMasters_stays (q : s.Quelled) (h : s.AwaitsRead i n d r x) (live : x.state ≠ .lost) (done : x.readDone = true) :
    (forEach allBays clearMaster s).disc d = some r := by
  refine (forEach_keeps (P := fun u => s.Clears (fun _ => True) u ∧ u.AwaitsRead i n d r x) (xs := allBays)
    (fun m _ u hu => ?_) ⟨.refl s, h⟩).2.record
  obtain ⟨hu, awaits⟩ := hu
  refine ⟨hu.trans (.clearMaster (hu.quelled q) fun _ => trivial), ?_⟩
  rcases clearMaster_eq m u with e | ⟨k, -, e⟩
  · rw [e]
    exact awaits
  · rw [e]
    by_cases same : i = k
    · subst same
      rw [reportFailed_of_done awaits.image live done]
      exact awaits
    · exact awaits.reportFailed (hu.quelled q) same

end State
end Sys2Proof.Machine
end

section
/-! PROOFS. The records, the station and the reservations when the tower is cleared (R171, R130, R187, R46). -/

namespace Sys2Proof.Machine

open State

/-- The station that a cleared tower leaves (R187). -/
structure Psc.Vacates (x y : Psc) : Prop where
  free : y.reservedFor = none
  loaded : x.state = .loaded → y.state = .loaded ∧ y.step = some .leaving
  reserved : x.state = .reserved → y.state = .vacant
  kept : x.state ≠ .loaded → x.state ≠ .reserved → y.state = x.state

namespace State
variable {s t u : State} {n : BayId} {d : DiscId} {r : Disc} {k i : Nat} {x : Image} {L : Nat → Prop}

/-! ### The records at the bays, the arm and the printer tray -/

/-- CLEAR-TOWER rejects a PENDING record, but for a master that is not on the arm. -/
def clearsDisc (r : Disc) : Prop := r.verdict = .pending ∧ (r.purpose ≠ .master ∨ r.location = .arm)

theorem clearDisc_of (hr : s.disc d = some r) (h : clearsDisc r) : s.clearDisc d = s.writeVerdict d (some .cleared) := by
  refine if_pos ?_
  rw [hr, Option.any_some]
  simpa [clearsDisc] using h.2

theorem clearDisc_of_not (hr : s.disc d = some r) (h : ¬clearsDisc r) : s.clearDisc d = s := by
  by_cases pending : r.verdict = .pending
  · refine if_neg ?_
    rw [hr, Option.any_some]
    simpa [clearsDisc, pending] using h
  · unfold clearDisc
    rw [writeVerdict_of_final hr pending, ite_self]

theorem disc_clearDisc_ne {c : DiscId} (h : c ≠ d) : (s.clearDisc d).disc c = s.disc c := by
  unfold clearDisc
  split
  · exact disc_writeVerdict_ne h
  · rfl

theorem clearDiscs_rejects (hr : s.disc d = some r) (h : clearsDisc r) :
    (forEach allDiscs clearDisc s).disc d = some (r.decide' (some .cleared)) := by
  refine forEach_at (f := clearDisc) (P := fun u => u.disc d = some r)
    (Q := fun u => u.disc d = some (r.decide' (some .cleared))) allDiscs_nodup (ascends_allDiscs d).2
    (fun c u ne hu => (disc_clearDisc_ne (Ne.symm ne)).trans hu) (fun u hu => ?_)
    (fun c u ne hu => (disc_clearDisc_ne (Ne.symm ne)).trans hu) hr
  rw [clearDisc_of hu h]
  exact disc_writeVerdict hu h.1

theorem clearDiscs_stays (hr : s.disc d = some r) (h : ¬clearsDisc r) : (forEach allDiscs clearDisc s).disc d = some r := by
  refine forEach_keeps (P := fun u => u.disc d = some r) (fun c _ u hu => ?_) hr
  by_cases e : c = d
  · subst e
    rwa [clearDisc_of_not hu h]
  · exact (disc_clearDisc_ne (Ne.symm e)).trans hu

/-- The master of an image stays it while its own record stays and no other becomes PENDING. -/
theorem masterOf_stays (h : s.masterOf i = some d) (same : t.disc d = s.disc d)
    (others : ∀ c y, t.disc c = some y → y.verdict = .pending → s.disc c = some y) : t.masterOf i = some d := by
  unfold masterOf at h ⊢
  obtain ⟨is_, before, after, split, not_⟩ := List.find?_eq_some_iff_append.1 h
  refine List.find?_eq_some_iff_append.2 ⟨by rwa [same], before, after, split, fun c hc => ?_⟩
  have none_ := not_ c hc
  cases hy : t.disc c with
  | none => rfl
  | some y =>
    by_cases pending : y.verdict = .pending
    · rw [others c y hy pending] at none_
      exact none_
    · simp [pending]

/-- The masters at the bays are as they were when the other records have been rejected. -/
theorem AwaitsRead.clearDiscs (h : s.AwaitsRead i n d r x) : (forEach allDiscs clearDisc s).AwaitsRead i n d r x := by
  obtain ⟨purpose, -, -⟩ := masterOf_eq_some h.master h.record
  have record : (forEach allDiscs clearDisc s).disc d = some r :=
    clearDiscs_stays h.record fun k => k.2.elim (· purpose) fun e => by simp [h.place] at e
  have cleared : s.Clears (fun _ => False) (forEach allDiscs clearDisc s) := .each _ _ fun _ _ => .clearDisc
  refine ⟨record, masterOf_stays h.master (record.trans h.record.symm) fun c y hy pending => ?_, h.place,
    (cleared.images i id).trans h.image, h.kind⟩
  cases hz : s.disc c with
  | none =>
    have gone := (cleared.places c).symm
    rw [hz, hy] at gone
    exact absurd gone (by simp)
  | some z =>
    by_cases k : clearsDisc z
    · rw [clearDiscs_rejects hz k] at hy
      cases hy
      exact absurd pending (by simp [Disc.decide'])
    · exact (clearDiscs_stays hz k).symm.trans hy

/-! ### The station (R187) -/

theorem withdrawArtwork_frame (s : State) : ∃ a m, s.withdrawArtwork = { s with fdr.artwork := a, smc := m } := by
  unfold withdrawArtwork
  split
  · exact ⟨_, _, rfl⟩
  · exact ⟨s.fdr.artwork, s.smc, rfl⟩

theorem clearStation_frame (s : State) : ∃ a m p, s.clearStation = { s with fdr.artwork := a, smc := m, psc := p } ∧
    s.psc.Vacates p := by
  have sensed (u : State) : ∃ p, (if u.psc.sense = some .sweep then
        { u with psc.sense := none, psc.timer := if u.psc.state = .printing then u.psc.timer else none } else u) =
      { u with psc := p } ∧ p.state = u.psc.state ∧ p.reservedFor = u.psc.reservedFor := by
    split
    · exact ⟨_, rfl, rfl, rfl⟩
    · exact ⟨_, rfl, rfl, rfl⟩
  obtain ⟨p, e, state, free⟩ := sensed { s with psc.reservedFor := none }
  unfold clearStation
  dsimp only
  rw [e]
  dsimp only
  replace state : p.state = s.psc.state := state
  split
  next loaded =>
    obtain ⟨a, m, w⟩ := withdrawArtwork_frame { s with psc := p }
    rw [w]
    exact ⟨a, m, _, rfl, free, fun _ => ⟨loaded, rfl⟩, fun k => by simp [← state, loaded] at k,
      fun k => absurd (state ▸ loaded) k⟩
  next reserved =>
    exact ⟨s.fdr.artwork, s.smc, _, rfl, free, fun k => by simp [← state, reserved] at k, fun _ => rfl,
      fun _ k => absurd (state ▸ reserved) k⟩
  next loaded reserved =>
    exact ⟨s.fdr.artwork, s.smc, _, rfl, free, fun k => absurd (state.trans k) loaded,
      fun k => absurd (state.trans k) reserved, fun _ _ => state⟩

end State
end Sys2Proof.Machine
end

section
/-! PROOFS. The jobs when the tower is cleared (R46, R27, R26). -/

namespace Sys2Proof.Machine

open State

/-- What giving holds and testing the jobs changes: the job table, the catalogue, the ports and what is due; each job keeps its
accounts, its loads and its drain kind. -/
structure State.JobsTold (s t : State) : Prop where
  frame : t = { s with jsc.jobs := t.jsc.jobs, cat := t.cat, ports := t.ports, due := t.due }
  jobs (k : Nat) (j : Job) : s.job? k = some j → ∃ v, t.job? k = some v ∧ v.good = j.good ∧
    v.budgetRejects = j.budgetRejects ∧ v.drain = j.drain
  loads : (∀ j ∈ s.jsc.jobs, j.loads = 0) → ∀ j ∈ t.jsc.jobs, j.loads = 0

namespace State
variable {s t u : State} {n : BayId} {k i : Nat} {c : HoldCause} {L : Nat → Prop}

/-! ### The reservations (R42, R45) -/

theorem dropBayRes_frame (n : BayId) (s : State) : ∃ bs rs ps u,
    s.dropBayRes n = { s with bays := bs, jsc.bayRes := rs, ports := ps, due := u } := by
  have checked (t : State) : ∃ bs ps u, t.offlineCheck n = { t with bays := bs, ports := ps, due := u } := by
    unfold offlineCheck
    split
    · split
      · exact ⟨_, _, _, rfl⟩
      · exact ⟨t.bays, t.ports, t.due, rfl⟩
    · exact ⟨t.bays, t.ports, t.due, rfl⟩
  unfold dropBayRes
  split
  · dsimp only
    obtain ⟨bs, ps, u, e⟩ := checked (if ((s.setBayRes n none).bay n).state = .reserved
      then (s.setBayRes n none).bayTo n .empty else s.setBayRes n none)
    rw [e]
    split <;> exact ⟨_, _, _, _, rfl⟩
  · exact ⟨s.bays, s.jsc.bayRes, s.ports, s.due, rfl⟩

theorem bayRes_dropBayRes : (s.dropBayRes n).bayRes n = none := by
  unfold dropBayRes
  split
  · have free : (s.setBayRes n none).bayRes n = none := Vector.getElem_set_self ..
    generalize s.setBayRes n none = t at free
    have freed : (if (t.bay n).state = .reserved then t.bayTo n .empty else t).bayRes n = none := by
      split <;> exact free
    exact (Clears.offlineCheck (L := fun _ => True)).reserved n freed
  next h => exact Option.not_isSome_iff_eq_none.1 h

/-- With every reservation dropped, no bay is held, and nothing else of the JSC changes. -/
theorem dropAllRes (s : State) : s.Clears (fun _ => False) (forEach allBays dropBayRes s) ∧
    (∀ n, (forEach allBays dropBayRes s).bayRes n = none) ∧ ∃ bs rs ps u,
      forEach allBays dropBayRes s = { s with bays := bs, jsc.bayRes := rs, ports := ps, due := u } := by
  refine ⟨.each _ _ fun _ _ => .dropBayRes, fun n => ?_, ?_⟩
  · exact forEach_at (f := dropBayRes) (P := fun _ => True) (Q := fun u => u.bayRes n = none) allBays_nodup (mem_allBays n)
      (fun _ _ _ _ => trivial) (fun _ _ => bayRes_dropBayRes)
      (fun _ _ _ h => (Clears.dropBayRes (L := fun _ => True)).reserved n h) trivial
  · refine forEach_keeps (P := fun w => ∃ bs rs ps u, w = { s with bays := bs, jsc.bayRes := rs, ports := ps, due := u })
      (fun m _ w hw => ?_) ⟨_, _, _, _, rfl⟩
    obtain ⟨bs, rs, ps, u, e⟩ := hw
    obtain ⟨bs', rs', ps', u', e'⟩ := dropBayRes_frame m w
    rw [e', e]
    exact ⟨_, _, _, _, rfl⟩

/-- The requests whose images are unassigned have no bay any more, and no request is assigned anew (R45). -/
theorem unassignAll (is : List Nat) (s : State) :
    (∃ ms c u, forEach is unassignMaster s = { s with jsc.masters := ms, cat := c, due := u }) ∧
      ∀ q ∈ (forEach is unassignMaster s).jsc.masters, q.assigned = true → q ∈ s.jsc.masters ∧ q.image ∉ is := by
  induction is generalizing s with
  | nil => exact ⟨⟨_, _, _, rfl⟩, fun q hq _ => ⟨hq, by simp⟩⟩
  | cons i is ih =>
    rw [forEach_cons]
    obtain ⟨⟨ms, c, u, e⟩, kept⟩ := ih (s.unassignMaster i)
    refine ⟨⟨ms, c, u, e⟩, fun q hq assigned => ?_⟩
    obtain ⟨before, other⟩ := kept q hq assigned
    obtain ⟨o, ho, e⟩ := List.mem_map.1 before
    by_cases h : o.image = i
    · rw [if_pos h] at e
      subst e
      exact absurd assigned (by simp)
    · rw [if_neg h] at e
      subst e
      exact ⟨ho, by simp [h, other]⟩

/-! ### Holds and tests -/

theorem JobsTold.refl (s : State) : s.JobsTold s := ⟨rfl, fun _ j h => ⟨j, h, rfl, rfl, rfl⟩, id⟩

theorem JobsTold.trans (h : s.JobsTold t) (k : t.JobsTold u) : s.JobsTold u where
  frame := by
    have one := k.frame
    rw [h.frame] at one
    exact one
  jobs m j hj := by
    obtain ⟨v, hv, good, budget, drain⟩ := h.jobs m j hj
    obtain ⟨w, hw, good', budget', drain'⟩ := k.jobs m v hv
    exact ⟨w, hw, good'.trans good, budget'.trans budget, drain'.trans drain⟩
  loads hs := k.loads (h.loads hs)

theorem JobsTold.modJob {f : Job → Job} (number : ∀ x, (f x).number = x.number) (good : ∀ x, (f x).good = x.good)
    (budget : ∀ x, (f x).budgetRejects = x.budgetRejects) (drain : ∀ x, (f x).drain = x.drain)
    (loads : ∀ x, (f x).loads = x.loads) : s.JobsTold (s.modJob k f) where
  frame := rfl
  jobs m j hj := by
    by_cases e : m = k
    · subst e
      exact ⟨f j, job?_modJob_self number hj, good j, budget j, drain j⟩
    · exact ⟨j, (job?_modJob_ne number e).trans hj, rfl, rfl, rfl⟩
  loads hs j hj := by
    obtain ⟨x, hx, e⟩ := List.mem_map.1 hj
    rw [← e]
    split
    · exact (loads x).trans (hs x hx)
    · exact hs x hx

theorem JobsTold.of_frame (h : t = { s with cat := t.cat, ports := t.ports, due := t.due }) : s.JobsTold t := by
  have jobs : t.jsc = s.jsc := by rw [h]
  refine ⟨h.trans ?_, fun m j hj => ⟨j, by rwa [job?, jobs], rfl, rfl, rfl⟩, by rw [jobs]; exact id⟩
  rw [jobs]

theorem JobsTold.delivered (e : Event) (s : State) : s.JobsTold (s.deliver e) := of_frame rfl

theorem JobsTold.addHold : s.JobsTold (s.addHold c k) := by
  cases hj : s.job? k with
  | none => rw [State.addHold, hj]; exact refl s
  | some j =>
    by_cases live : j.live = true
    · by_cases has : j.holds.has c = true
      · rw [addHold_of_has hj has]
        exact refl s
      · rw [addHold_of_new hj live (Bool.eq_false_iff.2 has)]
        refine trans (modJob ?_ ?_ ?_ ?_ ?_) (delivered _ _) <;> exact fun _ => rfl
    · rw [addHold_of_not_live hj (Bool.eq_false_iff.2 live)]
      exact refl s

theorem JobsTold.each {α : Type} {f : α → State → State} (xs : List α) (s : State)
    (hf : ∀ x (s : State), s.JobsTold (f x s)) : s.JobsTold (forEach xs f s) :=
  forEach_keeps (P := s.JobsTold) (fun x _ t ht => ht.trans (hf x t)) (refl s)

theorem JobsTold.terminalTest : s.JobsTold (s.terminalTest k) := by
  have dropped (is : List Nat) (t : State) : t.JobsTold (forEach is State.dropRef t) := each _ _ fun i t => by
    obtain ⟨c, e⟩ := freeTest_frame i (t.modImage i (fun x => { x with refs := x.refs - 1 }))
    refine of_frame ?_
    rw [State.dropRef, e]
    rfl
  unfold State.terminalTest
  split
  · split
    · refine trans (trans (trans (modJob ?_ ?_ ?_ ?_ ?_) (dropped _ _)) (dropped _ _)) (delivered _ _) <;> exact fun _ => rfl
    · exact refl s
  · exact refl s

/-! ### The Job Scheduler's part -/

/-- No load is pending and no spare hold runs (R46). -/
def loadsCleared (s : State) : State :=
  { s with jsc.jobs := s.jsc.jobs.map (fun (j : Job) => { j with loads := 0 }), jsc.spareHold := Vector.replicate 12 none }

/-- No reservation is held and no master-read request assigned either (R46). -/
def unbooked (s : State) : State :=
  let u := forEach allBays dropBayRes s.loadsCleared
  forEach ((u.jsc.masters.filter (fun q => q.assigned)).map MasterReq.image) unassignMaster u

theorem clearJobs_eq (s : State) : s.clearJobs =
    let u := forEach (s.unbooked.jsc.jobs.map Job.number) (State.addHold .cleared) s.unbooked
    forEach (u.jsc.jobs.map Job.number) State.terminalTest u := by
  simp only [clearJobs, unbooked, loadsCleared]

theorem job?_loadsCleared : s.loadsCleared.job? k = (s.job? k).map (fun j => { j with loads := 0 }) := by
  unfold job? loadsCleared
  dsimp only
  rw [List.find?_map]
  rfl

theorem loadsCleared_clears : s.Clears L s.loadsCleared :=
  { Clears.refl s with
    jobs := fun k j hj => ⟨{ j with loads := 0 }, by rw [job?_loadsCleared, hj]; rfl, rfl, rfl, rfl, rfl, rfl, fun _ => rfl⟩ }

/-- What the Job Scheduler has done before the holds are given. -/
structure Unbooks (s t : State) : Prop where
  clears : s.Clears (fun _ => True) t
  frame : ∃ bs rs ms c ps u, t = { s.loadsCleared with
    bays := bs, jsc.bayRes := rs, jsc.masters := ms, cat := c, ports := ps, due := u }
  free (n : BayId) : t.bayRes n = none
  idle (q : MasterReq) : q ∈ t.jsc.masters → q.assigned = false

theorem unbooked_unbooks : s.Unbooks s.unbooked := by
  obtain ⟨dropped, free, bs, rs, ps, u, e⟩ := dropAllRes s.loadsCleared
  unfold unbooked
  dsimp only
  generalize forEach allBays dropBayRes s.loadsCleared = t at dropped free e
  obtain ⟨⟨ms, c, u', e'⟩, kept⟩ := unassignAll ((t.jsc.masters.filter (fun q => q.assigned)).map MasterReq.image) t
  generalize forEach _ unassignMaster t = w at e' kept
  have cleared : s.Clears (fun _ => True) t :=
    loadsCleared_clears.trans ⟨dropped.toSpares, fun _ h => absurd trivial h, dropped.station⟩
  refine ⟨cleared.trans (.of_frame (by rw [e']; rfl) fun _ h => absurd trivial h), ?_, fun n => ?_, fun q hq => ?_⟩
  · rw [e', e]
    exact ⟨_, _, _, _, _, _, rfl⟩
  · rw [e']
    exact free n
  · by_contra assigned
    obtain ⟨before, other⟩ := kept q hq (by simpa using assigned)
    exact other (List.mem_map_of_mem (List.mem_filter.2 ⟨before, by simpa using assigned⟩))

end State
end Sys2Proof.Machine
end

section
/-! PROOFS. The jobs that hold CLEARED, the start of the sweep, and the end of the step (R46, R27, R171). -/

namespace Sys2Proof.Machine

open State

namespace State
variable {s t u : State} {n : BayId} {k i : Nat} {j : Job} {e : Event}

/-! ### The jobs -/

theorem told_of_bookings (h : t.told u e) (bookings : ∀ q, (t.port q).bookings = (s.port q).bookings) : s.told u e := by
  intro q b hb matches_
  refine h q b ?_ matches_
  rwa [Port.booked, bookings q]

theorem clearJobs_told (s : State) : s.unbooked.JobsTold s.clearJobs := by
  rw [clearJobs_eq]
  exact (JobsTold.each _ _ fun _ _ => .addHold).trans (.each _ _ fun _ _ => .terminalTest)

theorem job?_unbooked (hj : s.job? k = some j) : s.unbooked.job? k = some { j with loads := 0 } := by
  obtain ⟨bs, rs, ms, c, ps, u, e⟩ := (unbooked_unbooks (s := s)).frame
  rw [e]
  refine Eq.trans (b := s.loadsCleared.job? k) rfl ?_
  rw [job?_loadsCleared, hj]
  rfl

/-- Each live job holds CLEARED and is told of it; one that is not live keeps its hold set (R46, R27). -/
theorem clearJobs_job (hj : s.job? k = some j) : ∃ v, s.clearJobs.job? k = some v ∧ v.good = j.good ∧
    v.budgetRejects = j.budgetRejects ∧ v.drain = j.drain ∧
    (j.live = true → j.agrees → v.heldBy .cleared ∧ (j.holds.cleared = false →
      s.told s.clearJobs { kind := .jobHeld, subject := .job k, detail := .hold .cleared })) ∧
    (j.live = false → v.holds = j.holds) := by
  have found := job?_unbooked hj
  obtain ⟨v, hv, good, budget, drain⟩ := (clearJobs_told s).jobs k _ found
  refine ⟨v, hv, good, budget, drain, ?_⟩
  have ports := (unbooked_unbooks (s := s)).clears.ports
  rw [clearJobs_eq] at hv ⊢
  dsimp only at hv ⊢
  generalize s.unbooked = t at found hv ports ⊢
  have listed : k ∈ t.jsc.jobs.map Job.number := List.mem_map.2 ⟨_, job?_mem found⟩
  have before : t.Lasts (forEach (t.jsc.jobs.map Job.number) (State.addHold .cleared) t) :=
    concludes_lasts.each _ t fun _ _ => concludes_lasts.addHold
  have held (live : j.live = true) (agrees : j.agrees) :=
    addHolds_heldBy (c := .cleared) (by rintro (h | h) <;> cases h) found live agrees _ listed
  generalize forEach (t.jsc.jobs.map Job.number) (State.addHold .cleared) t = w at hv before held ⊢
  have after : w.Lasts (forEach (w.jsc.jobs.map Job.number) State.terminalTest w) :=
    concludes_lasts.each _ w fun _ _ => concludes_lasts.terminalTest
  generalize forEach (w.jsc.jobs.map Job.number) State.terminalTest w = z at hv after ⊢
  constructor
  · intro live agrees
    obtain ⟨⟨x, hx, by_⟩, told⟩ := held live agrees
    obtain ⟨y, hy, lasts⟩ := after.jobs k x hx
    cases hv.symm.trans hy
    exact ⟨lasts.held _ (by rintro (h | h) <;> cases h) by_,
      fun new => told_of_bookings (told_lasts (told new) after) fun q => (ports q).bookings⟩
  · intro dead
    obtain ⟨x, hx, lasts⟩ := (before.trans after).jobs k _ found
    cases hv.symm.trans hx
    exact (lasts.still dead).2

/-! ### The start of the sweep -/

theorem startSweep_frame (s : State) : ∃ ms, s.startSweep = { s with
    sent := s.sent ++ ms
    tsq.arm := { s.tsq.arm with
      state := if s.tsq.door = .closed then .homing else .stopped
      motion := if s.tsq.door = .closed then some .home else s.tsq.arm.motion
      lastCmd := if s.tsq.door = .closed then some Motion.home.cmd else s.tsq.arm.lastCmd
      timer := if s.tsq.door = .closed then some Config.armMotionMs else s.tsq.arm.timer } } ∧
    ∀ m ∈ ms, m = .arm .home := by
  unfold startSweep
  by_cases shut : s.tsq.door = .closed
  · simp only [if_pos shut]
    exact ⟨[.arm .home], rfl, by simp⟩
  · simp only [if_neg shut]
    exact ⟨[], by rw [List.append_nil]; rfl, by simp⟩

/-! ### The end of the step -/

/-- The sweep is at the arm, and no move is left. -/
structure AtArm (s : State) : Prop where
  phase : s.tsq.phase = .sweeping .arm
  move : s.tsq.arm.move = none

/-- While the sweep is at the arm, a step ends with nothing more. -/
theorem settle_of_atArm (h : s.AtArm) : s.settle = { s with due := {} } := by
  have sweep (t : State) (ht : t.AtArm) : t.sweepIfDue = t := by
    unfold sweepIfDue sweepPoke
    rw [ht.phase]
    exact ite_self _
  have pass (t : State) (ht : t.AtArm) : ∃ u, t.passIfDue = { t with due := u } := by
    unfold passIfDue
    split
    · refine ⟨_, if_pos ?_⟩
      simp [sweeping, ht.phase]
    · exact ⟨_, rfl⟩
  have select (t : State) (ht : t.AtArm) : ∃ u, t.selectIfDue = { t with due := u } := by
    unfold selectIfDue
    split
    · have nudged : ({ t with due.select := false } : State).nudgeArm = { t with due.select := false } := by
        rw [nudgeArm, ht.move]
      dsimp only
      rw [nudged]
      refine ⟨_, if_neg ?_⟩
      simp [ht.phase]
    · exact ⟨_, rfl⟩
  unfold settle
  dsimp only
  rw [sweep s h]
  obtain ⟨u₁, e₁⟩ := pass s h
  rw [e₁]
  obtain ⟨u₂, e₂⟩ := select { s with due := u₁ } ⟨h.phase, h.move⟩
  rw [e₂]
  obtain ⟨u₃, e₃⟩ := pass { s with due := u₂ } ⟨h.phase, h.move⟩
  rw [e₃]
  obtain ⟨u₄, e₄⟩ := select { s with due := u₃ } ⟨h.phase, h.move⟩
  rw [e₄]

end State
end Sys2Proof.Machine
end

section
/-! PROOFS. The whole of CLEAR-TOWER (O28), from its parts (R171). -/

namespace Sys2Proof.Machine

open State

/-- The transport with its arm halted: no move, no entry, no tenure and no reservation, and a sweep that begins (R171). -/
def Tsq.halted (x : Tsq) : Tsq :=
  { x with
    phase := .sweeping .arm
    arm := { x.arm with motion := none, timer := none, fault := none, move := none, trayReady := false }
    queue := [], tenure := none
    out := { x.out with reserved := 0 }, rej := { x.rej with reserved := 0 } }

theorem Psc.Vacates.unreserved {x y : Psc} (h : x.Vacates y) : y.unreserved = y := by
  have state : y.state ≠ .reserved := by
    intro e
    by_cases loaded : x.state = .loaded
    · rw [(h.loaded loaded).1] at e
      exact absurd e (by decide)
    · by_cases reserved : x.state = .reserved
      · rw [h.reserved reserved] at e
        exact absurd e (by decide)
      · exact reserved ((h.kept loaded reserved).symm.trans e)
  unfold Psc.unreserved
  rw [if_neg state, ← h.free]

theorem Psc.Vacates.leaves {x y : Psc} (h : x.Vacates y) (loaded : y.state = .loaded) : y.step = some .leaving := by
  by_cases was : x.state = .loaded
  · exact (h.loaded was).2
  · by_cases reserved : x.state = .reserved
    · rw [h.reserved reserved] at loaded
      exact absurd loaded (by decide)
    · exact absurd ((h.kept was reserved).symm.trans loaded) was

/-- A bay at rest whose pending offline waits no more is in the state it was to come to. -/
theorem Bay.ClearedFrom.state {b u : Bay} {disc : Bool} (h : b.ClearedFrom disc u) (restful : u.restful disc)
    (idles : u.offline ≠ none → disc = false → ¬(u.state = .empty ∨ u.state = .fault ∧ u.errand = .none)) :
    u.state = b.resting disc := by
  rcases restful with e | e | e | e | ⟨e, gone⟩
  · rw [← h.resting, Bay.resting, e]
  · rw [← h.resting, Bay.resting, e]
  · rw [← h.resting, Bay.resting, e]
  · have at_ : u.resting disc = if disc = false ∧ u.offline.isSome then .offline else .fault := by rw [Bay.resting, e]
    have errand : u.errand = .none := by
      refine (h.stripped fun absent => ?_).2.2.2.2.2.2.2.2.1
      have same := h.resting
      rw [at_, Bay.resting, absent] at same
      split at same <;> cases same
    have stays : ¬(disc = false ∧ u.offline.isSome) := fun k =>
      idles (Option.isSome_iff_ne_none.1 k.2) k.1 (.inr ⟨e, errand⟩)
    rw [← h.resting, at_, if_neg stays, e]
  · have none_ : u.offline.isSome = false := by
      refine Bool.eq_false_iff.2 fun k => ?_
      exact idles (Option.isSome_iff_ne_none.1 k) gone (.inl e)
    rw [← h.resting, Bay.resting, e, gone, none_]
    rfl

namespace State
variable {s t u : State} {n : BayId} {d : DiscId} {r : Disc} {k i : Nat} {x : Image}

/-! ### The parts in turn -/

/-- The feeds, the operations of the bays and the transport have ended. -/
def stilled (s : State) : State := (forEach allBays clearBayWork (s.sweepTo .arm).clearFeeds).clearTransport

/-- The PENDING records but for the masters at the bays are rejected, and the station and the bays come to rest. -/
def atEase (s : State) : State := forEach allBays clearBayState (forEach allDiscs clearDisc s.stilled).clearStation

/-- The masters at the bays have reported, and the queue is empty. -/
def emptied (s : State) : State :=
  { forEach allBays clearMaster s.atEase with tsq.queue := [] }

theorem clearTower_eq (s : State) : s.clearTower = s.emptied.clearJobs.startSweep := by
  simp only [clearTower, emptied, atEase, stilled]

theorem stilled_frame (none_ : s.sent = []) : ∃ f m bs ms, s.stilled =
      { s with fdr := f, smc := m, rgu := {}, bays := bs, sent := ms, tsq := s.tsq.halted } ∧
    (∀ n, s.stilled.stream n = none) ∧
    (∀ n : BayId, bs[n] = worked (s.bay n) ∧ (.bay n .abort ∈ ms ↔ (s.bay n).state.working = true)) ∧
    (.arm .halt ∈ ms ↔ s.tsq.arm.state ≠ .stopped) := by
  obtain ⟨f, m, e, streams⟩ := clearFeeds_frame (s.sweepTo .arm)
  rw [e] at streams
  obtain ⟨bs, ms, e', halt, bays⟩ := bayWorks (s := { s.sweepTo .arm with fdr := f, smc := m, rgu := {} }) rfl none_
  have closed (ms' : List OutMsg) (h : s.stilled =
      { s with fdr := f, smc := m, rgu := {}, bays := bs, sent := ms', tsq := s.tsq.halted }) (n : BayId) :
      s.stilled.stream n = none := by
    rw [h]
    exact streams n
  have run : s.stilled =
      ({ s.sweepTo .arm with fdr := f, smc := m, rgu := {}, bays := bs, sent := ms } : State).clearTransport := by
    unfold stilled
    rw [e, e']
  by_cases stopped : s.tsq.arm.state = .stopped
  · have all : s.stilled = { s with fdr := f, smc := m, rgu := {}, bays := bs, sent := ms, tsq := s.tsq.halted } := by
      rw [run]
      unfold clearTransport
      dsimp only
      rw [if_pos (show (s.sweepTo .arm).tsq.arm.state = .stopped from stopped)]
      rfl
    exact ⟨f, m, bs, ms, all, closed _ all, bays, by simp [halt, stopped]⟩
  · have all : s.stilled =
        { s with fdr := f, smc := m, rgu := {}, bays := bs, sent := ms ++ [.arm .halt], tsq := s.tsq.halted } := by
      rw [run]
      unfold clearTransport
      dsimp only
      rw [if_neg (show ¬(s.sweepTo .arm).tsq.arm.state = .stopped from stopped)]
      rfl
    refine ⟨f, m, bs, _, all, closed _ all, fun n => ⟨(bays n).1, ?_⟩, by simp [stopped]⟩
    rw [List.mem_append]
    exact Iff.trans (by simp) (bays n).2

/-- What a tower whose arm and bays are still has come to when its jobs and requests are yet to be cleared. -/
structure Empties (s t : State) : Prop where
  spares : s.Spares t
  station : s.psc.Vacates t.psc
  rests (n : BayId) : t.restsAt n
  queue : t.tsq.queue = []
  rejects (d : DiscId) (r : Disc) : s.disc d = some r → clearsDisc r → t.disc d = some (r.decide' (some .cleared))
  masters (n : BayId) (i : Nat) (d : DiscId) (r : Disc) (x : Image) : s.AwaitsRead i n d r x → s.discAt (.bay n) = some d →
    t.disc d = some (if x.state = .lost ∨ x.readDone = false then r.decide' (some .imageLost) else r)

theorem clearStation_spares (s : State) : s.Spares s.clearStation ∧ s.psc.Vacates s.clearStation.psc ∧
    s.clearStation.cat = s.cat ∧ s.clearStation.discs = s.discs ∧ s.clearStation.tsq = s.tsq ∧
      s.clearStation.fdr.streams = s.fdr.streams := by
  obtain ⟨a, m, p, e, vacates⟩ := clearStation_frame s
  rw [e]
  have frame : s.Clears (fun _ => False) { s with fdr.artwork := a, smc := m } := .of_frame rfl fun _ _ => rfl
  exact ⟨{ frame.toSpares with }, vacates, rfl, rfl, rfl, rfl⟩

theorem vacates_of_unreserved {x y z : Psc} (h : y = x ∨ y = x.unreserved) (k : y.Vacates z) : x.Vacates z := by
  rcases h with rfl | rfl
  · exact k
  · refine ⟨k.free, fun loaded => k.loaded ?_, fun reserved => ?_, fun loaded reserved => ?_⟩
    · rw [Psc.unreserved, if_neg (by simp [loaded])]
      exact loaded
    · have vacant : x.unreserved.state = .vacant := if_pos reserved
      exact (k.kept (by simp [vacant]) (by simp [vacant])).trans vacant
    · have same : x.unreserved.state = x.state := if_neg reserved
      exact (k.kept (by rwa [same]) (by rwa [same])).trans same

/-- The states of the bays as CLEAR-TOWER sets them. -/
theorem clearBayStates (s : State) : s.Clears (fun _ => False) (forEach allBays clearBayState s) ∧
    ∀ n, (forEach allBays clearBayState s).restsAt n :=
  ⟨.each _ _ fun _ _ => clearBayState_clears.1, fun n =>
    forEach_at (f := clearBayState) (P := fun _ => True) (Q := fun u => u.restsAt n) allBays_nodup (mem_allBays n)
      (fun _ _ _ _ => trivial) (fun _ _ => (clearBayState_clears (L := fun _ => False)).2)
      (fun _ _ _ h => (clearBayState_clears (L := fun _ => False)).1.rests n h) trivial⟩

theorem clearBayStates_discs : (forEach allBays clearBayState s).discs = s.discs :=
  forEach_keeps (P := fun u => u.discs = s.discs) (fun n _ u h => by
    refine Eq.trans ?_ h
    unfold clearBayState
    split
    · rfl
    · rfl
    · rfl
    · exact quiet_discs.offlineCheck
    · split
      · rfl
      · exact quiet_discs.offlineCheck) rfl

theorem AwaitsRead.congr (h : s.AwaitsRead i n d r x) (discs : t.discs = s.discs) (image : t.image? i = s.image? i) :
    t.AwaitsRead i n d r x :=
  ⟨(disc_congr discs).trans h.record, (masterOf_congr discs).trans h.master, h.place, image.trans h.image, h.kind⟩

theorem empties (streams : ∀ n, s.stream n = none) (queue : s.tsq.queue = []) :
    s.Empties { forEach allBays clearMaster (forEach allBays clearBayState (forEach allDiscs clearDisc s).clearStation) with
      tsq.queue := [] } := by
  have cleared : s.Clears (fun _ => False) (forEach allDiscs clearDisc s) := .each _ _ fun _ _ => .clearDisc
  have rejected (d : DiscId) (r : Disc) (hr : s.disc d = some r) (h : clearsDisc r) := clearDiscs_rejects hr h
  have awaits (n : BayId) (i : Nat) (d : DiscId) (r : Disc) (x : Image) (h : s.AwaitsRead i n d r x) := h.clearDiscs
  generalize forEach allDiscs clearDisc s = b at cleared rejected awaits
  obtain ⟨kept, vacates, cat, discs, tsq, feeds⟩ := clearStation_spares b
  generalize b.clearStation = c at kept vacates cat discs tsq feeds
  obtain ⟨settled, rests⟩ := clearBayStates c
  have same : (forEach allBays clearBayState c).discs = c.discs := clearBayStates_discs
  generalize forEach allBays clearBayState c = e at settled rests same
  have before := (cleared.toSpares.trans kept).trans settled.toSpares
  have station : s.psc.Vacates e.psc := by
    refine vacates_of_unreserved cleared.station ?_
    rcases settled.station with h | h <;> rw [h]
    · exact vacates
    · rw [vacates.unreserved]
      exact vacates
  have quelled : e.Quelled :=
    { streams := fun n => by
        have feeds' : e.fdr.streams = s.fdr.streams := congrArg (fun w => w.2.2.1) before.apart
        rw [stream, feeds']
        exact streams n
      bays := fun n => (rests n).1
      queue := before.loads (by rw [queue]; exact fun _ k => nomatch k)
      station := fun loaded => by rw [station.leaves loaded]; decide }
  have told := clearMasters_clears quelled allBays
  have place (n : BayId) (d : DiscId) (h : s.discAt (.bay n) = some d) : e.discAt (.bay n) = some d :=
    (before.places.discAt _).trans h
  have masters (n : BayId) (i : Nat) (d : DiscId) (r : Disc) (x : Image) (h : s.AwaitsRead i n d r x)
      (at_ : s.discAt (.bay n) = some d) : (forEach allBays clearMaster e).disc d =
        some (if x.state = .lost ∨ x.readDone = false then r.decide' (some .imageLost) else r) := by
    have here : e.AwaitsRead i n d r x := (awaits n i d r x h).congr (same.trans discs)
      ((settled.images i id).trans (by rw [image?, image?, cat]))
    split
    next lossy => exact clearMasters_rejects quelled here (place n d at_) lossy
    next not_ =>
      obtain ⟨live, done⟩ := not_or.1 not_
      exact clearMasters_stays quelled here live (by simpa using done)
  generalize forEach allBays clearMaster e = f at told masters
  have last : f.Clears (fun _ => False) { f with tsq.queue := [] } := .queued fun _ _ h => nomatch h
  exact
    { spares := (before.trans told.toSpares).trans last.toSpares
      station := by
        rcases told.station with h | h
        · exact h ▸ station
        · rw [station.unreserved] at h
          exact h ▸ station
      rests := fun n => last.rests n (told.rests n (rests n))
      queue := rfl
      rejects := fun d r hr h =>
        told.final d _ ((disc_congr (same.trans discs)).trans (rejected d r hr h)) (Disc.decide'_final _ _)
      masters }

end State
end Sys2Proof.Machine
end

section
/-! PROOFS. What CLEAR-TOWER leaves, and its obligation (O28). -/

namespace Sys2Proof.Machine

open State

/-- The arm as the sweep starts it (R171, step 5). -/
def Tsq.swept (x : Tsq) (door : Door) : Tsq :=
  { x with
    arm := { x.arm with
      state := if door = .closed then .homing else .stopped
      motion := if door = .closed then some .home else x.arm.motion
      lastCmd := if door = .closed then some Motion.home.cmd else x.arm.lastCmd
      timer := if door = .closed then some Config.armMotionMs else x.arm.timer } }

namespace State
variable {s t u : State} {n : BayId} {d : DiscId} {r : Disc} {k i : Nat} {x : Image} {j : Job}

theorem unbooked_kept : s.unbooked.discs = s.discs ∧ s.unbooked.tsq = s.tsq ∧ s.unbooked.psc = s.psc ∧
    s.unbooked.jsc.spareHold = Vector.replicate 12 none ∧ ∀ j ∈ s.unbooked.jsc.jobs, j.loads = 0 := by
  obtain ⟨bs, rs, ms, c, ps, u, e⟩ := (unbooked_unbooks (s := s)).frame
  rw [e]
  refine ⟨rfl, rfl, rfl, rfl, fun j hj => ?_⟩
  obtain ⟨x, -, rfl⟩ := List.mem_map.1 hj
  rfl

/-- What is left of the tower before its jobs are told of it. -/
def toldLast (s : State) : State := s.emptied.unbooked

theorem stilled_kept (none_ : s.sent = []) : s.stilled.discs = s.discs ∧ s.stilled.cat = s.cat ∧ s.stilled.psc = s.psc ∧
    s.stilled.jsc = s.jsc ∧ s.stilled.ports = s.ports := by
  obtain ⟨_, _, _, _, still, -, -, -⟩ := stilled_frame none_
  rw [still]
  exact ⟨rfl, rfl, rfl, rfl, rfl⟩

theorem stilled_empties (none_ : s.sent = []) : s.stilled.Empties s.emptied := by
  obtain ⟨f, m, bs, ms, still, streams, -, -⟩ := stilled_frame none_
  have queue : s.stilled.tsq.queue = [] := (congrArg (fun w => w.tsq.queue) still).trans rfl
  unfold emptied atEase
  exact empties streams queue

theorem toldLast_spares (none_ : s.sent = []) : s.stilled.Spares s.toldLast :=
  (stilled_empties none_).spares.trans unbooked_unbooks.clears.toSpares

theorem clearTower_frame (s : State) : ∃ js c ps u ms, s.clearTower = { s.toldLast with
      jsc.jobs := js, cat := c, ports := ps, due := u, sent := s.toldLast.sent ++ ms
      tsq := s.toldLast.tsq.swept s.toldLast.tsq.door } ∧
    (∀ m ∈ ms, m = .arm .home) ∧ js = s.emptied.clearJobs.jsc.jobs ∧ ps = s.emptied.clearJobs.ports := by
  have told := (clearJobs_told s.emptied).frame
  obtain ⟨ms, swept, home⟩ := startSweep_frame s.emptied.clearJobs
  rw [clearTower_eq, swept]
  unfold toldLast
  generalize s.emptied.clearJobs = w at told
  generalize s.emptied.unbooked = v at told
  obtain ⟨js, c, ps, u, e, jobs, ports⟩ : ∃ js c ps u, w = { v with jsc.jobs := js, cat := c, ports := ps, due := u } ∧
      js = w.jsc.jobs ∧ ps = w.ports := ⟨_, _, _, _, told, rfl, rfl⟩
  refine ⟨js, c, ps, u, ms, ?_, home, jobs, ports⟩
  rw [e]
  rfl

/-! ### The feeds, the transport and the messages -/

theorem clearTower_transport (none_ : s.sent = []) : s.clearTower.rgu = {} ∧ (∀ n, s.clearTower.stream n = none) ∧
    s.clearTower.tsq = s.tsq.halted.swept s.tsq.door ∧
    (∀ n, .bay n .abort ∈ s.clearTower.sent ↔ (s.bay n).state.working = true) ∧
    (.arm .halt ∈ s.clearTower.sent ↔ s.tsq.arm.state ≠ .stopped) := by
  obtain ⟨f, m, bs, ms, still, streams, bays, halt⟩ := stilled_frame none_
  obtain ⟨js, c, ps, u, ms', e, home, -, -⟩ := clearTower_frame s
  have apart := (toldLast_spares none_).apart
  have queue : s.toldLast.tsq.queue = [] := by
    rw [toldLast, unbooked_kept.2.1]
    exact (stilled_empties none_).queue
  generalize s.toldLast = v at e apart queue
  generalize s.stilled = a at still apart streams
  have sent : v.sent = ms := (congrArg (fun w => w.1) apart).trans (congrArg State.sent still)
  have rgu : v.rgu = {} := (congrArg (fun w => w.2.1) apart).trans (congrArg State.rgu still)
  have feeds : v.fdr.streams = a.fdr.streams := congrArg (fun w => w.2.2.1) apart
  have tsq : v.tsq = s.tsq.halted := by
    have all : ({ v.tsq with queue := [] } : Tsq) = { a.tsq with queue := [] } := congrArg (fun w => w.2.2.2) apart
    have own : v.tsq = { a.tsq with queue := v.tsq.queue } :=
      congrArg (fun w : Tsq => { w with queue := v.tsq.queue }) all
    rw [queue] at own
    exact own.trans (congrArg (fun w => ({ w.tsq with queue := [] } : Tsq)) still)
  have other (m : OutMsg) (h : m ≠ .arm .home) : m ∈ s.clearTower.sent ↔ m ∈ ms := by
    rw [e, ← sent]
    exact List.mem_append.trans (or_iff_left fun k => h (home m k))
  refine ⟨by rw [e]; exact rgu, fun n => ?_, ?_, fun n => ?_, ?_⟩
  · rw [e]
    change v.fdr.streams[n] = none
    rw [feeds]
    exact streams n
  · rw [e]
    change v.tsq.swept v.tsq.door = _
    rw [tsq]
    rfl
  · exact (other _ (by simp)).trans (bays n).2
  · exact (other _ (by simp)).trans halt

/-! ### The bays -/

/-- What CLEAR-TOWER leaves of a bay (R130). -/
theorem clearTower_bay (none_ : s.sent = []) (n : BayId) :
    (s.clearTower.bay n).state = (s.bay n).resting (s.discAt (.bay n)).isSome ∧
      ((s.bay n).state ≠ .absent → (s.bay n).stripped (s.clearTower.bay n)) ∧ s.clearTower.bayRes n = none := by
  obtain ⟨f, m, bs, ms, still, -, bays, -⟩ := stilled_frame none_
  obtain ⟨js, c, ps, u, ms', e, -, -, -⟩ := clearTower_frame s
  have spares := toldLast_spares none_
  have free := (unbooked_unbooks (s := s.emptied)).free n
  have rests := (unbooked_unbooks (s := s.emptied)).clears.rests n ((stilled_empties none_).rests n)
  have at_ : s.stilled.discAt (.bay n) = s.discAt (.bay n) := by rw [still]; rfl
  have began : (s.bay n).ClearedFrom (s.discAt (.bay n)).isSome (s.stilled.bay n) := by
    have bay : s.stilled.bay n = worked (s.bay n) := by
      rw [still]
      exact (bays n).1
    rw [bay]
    exact worked_cleared _ _
  change s.toldLast.bayRes n = none at free
  change s.toldLast.restsAt n at rests
  generalize s.toldLast = v at e spares free rests
  have place : v.discAt (.bay n) = s.discAt (.bay n) := (spares.places.discAt _).trans at_
  have ends := spares.bays n (s.bay n) (by rw [at_]; exact began)
  rw [at_] at ends
  obtain ⟨restful, waits⟩ := rests
  rw [place] at restful
  have state := ends.state restful fun pending gone => waits free pending (place.trans (by simpa using gone))
  rw [e]
  exact ⟨state, ends.stripped, free⟩

/-! ### The records, the requests and the station -/

theorem clearTower_kept (none_ : s.sent = []) : s.clearTower.discs = s.emptied.discs ∧ s.psc.Vacates s.clearTower.psc ∧
    s.clearTower.jsc.spareHold = Vector.replicate 12 none ∧ (∀ q ∈ s.clearTower.jsc.masters, q.assigned = false) ∧
    ∀ j ∈ s.clearTower.jsc.jobs, j.loads = 0 := by
  obtain ⟨js, c, ps, u, ms', e, -, jobs, -⟩ := clearTower_frame s
  obtain ⟨discs, -, psc, spare, loads⟩ := unbooked_kept (s := s.emptied)
  have idle := (unbooked_unbooks (s := s.emptied)).idle
  have zero := (clearJobs_told s.emptied).loads loads
  have vacates : s.psc.Vacates s.emptied.psc := by
    have station := (stilled_empties none_).station
    rwa [(stilled_kept none_).2.2.1] at station
  rw [← psc] at vacates
  rw [← jobs] at zero
  rw [e]
  unfold toldLast
  generalize s.emptied.unbooked = v at discs vacates spare idle
  exact ⟨discs, vacates, spare, idle, zero⟩

/-! ### The jobs -/

theorem emptied_keeps : s.Keeps s.emptied := by
  have worked (u : State) : u.Keeps (forEach allBays clearBayWork u) := .repeat fun _ _ => clearBayWork_keeps
  have cleared (u : State) : u.Keeps (forEach allDiscs clearDisc u) := .repeat fun _ _ => clearDisc_keeps
  have stated (u : State) : u.Keeps (forEach allBays clearBayState u) := .repeat fun _ _ => clearBayState_keeps
  have failed (u : State) : u.Keeps (forEach allBays clearMaster u) := .repeat fun _ _ => clearMaster_keeps
  have still : s.Keeps s.stilled := ((sweepTo_keeps.trans clearFeeds_keeps).trans (worked _)).trans clearTransport_keeps
  have ease : s.stilled.Keeps s.atEase := ((cleared _).trans clearStation_keeps).trans (stated _)
  exact ((still.trans ease).trans (failed _)).trans setEntries_keeps

theorem clearTower_job (none_ : s.sent = []) (hj : s.job? k = some j) : ∃ v, s.clearTower.job? k = some v ∧ v.good = j.good ∧
    v.budgetRejects = j.budgetRejects ∧
    (j.live = true → s.jobsSafe → v.heldBy .cleared ∧ (j.holds.cleared = false →
      s.told s.clearTower { kind := .jobHeld, subject := .job k, detail := .hold .cleared })) ∧
    (j.live = false → v.holds = j.holds ∧ v.drain = j.drain) := by
  obtain ⟨js, c, ps, u, ms, e, -, jobs, ports⟩ := clearTower_frame s
  obtain ⟨-, -, -, jsc, began⟩ := stilled_kept none_
  have spares := (stilled_empties none_).spares
  have safe : s.jobsSafe → s.emptied.jobsSafe := emptied_keeps.jobs
  have found : s.stilled.job? k = s.job? k := by rw [job?, job?, jsc]
  obtain ⟨v, hv, kept⟩ := spares.jobs k j (found.trans hj)
  obtain ⟨w, hw, good, budget, drain, live, dead⟩ := clearJobs_job hv
  have same : s.clearTower.job? k = s.emptied.clearJobs.job? k := by
    rw [e, job?, job?, ← jobs]
  have port (q : PortId) : s.clearTower.port q = s.emptied.clearJobs.port q := by
    rw [e, State.port, State.port, ← ports]
  have bookings (q : PortId) : (s.emptied.port q).bookings = (s.port q).bookings := by
    rw [(spares.ports q).bookings, State.port, began]
    rfl
  refine ⟨w, same.trans hw, good.trans kept.good, budget.trans kept.budget, fun alive ordered => ?_, fun ended => ?_⟩
  · obtain ⟨held, told⟩ := live (kept.live.trans alive) ((jobsSafe_iff.1 (safe ordered)).2 v (job?_mem hv).1)
    refine ⟨held, fun new q b hb matches_ => ?_⟩
    rw [port q]
    exact told_of_bookings (told (kept.cleared.trans new)) bookings q b hb matches_
  · exact ⟨(dead (kept.live.trans ended)).trans (kept.still ended), drain.trans kept.drain⟩

/-! ### The records -/

/-- What CLEAR-TOWER leaves of a record: a final one as it is, a PENDING one by its purpose and place (R18, R171, R130). -/
theorem clearTower_disc (none_ : s.sent = []) (hr : s.disc d = some r) :
    (r.verdict ≠ .pending → s.clearTower.disc d = some r) ∧
    (r.verdict = .pending → r.purpose ≠ .master ∨ r.location = .arm →
      s.clearTower.disc d = some { r with verdict := .reject, cause := some .cleared }) ∧
    (∀ n i x, r.verdict = .pending → r.purpose = .master → r.location = .bay n → s.discAt (.bay n) = some d →
      r.image = some i → s.masterOf i = some d → s.image? i = some x → x.kind = .disc →
      s.clearTower.disc d = some (if x.state = .lost ∨ x.readDone = false
        then { r with verdict := .reject, cause := some .imageLost } else r)) := by
  obtain ⟨discs, cat, -, -, -⟩ := stilled_kept none_
  have same := (clearTower_kept none_).1
  have all := stilled_empties none_
  have found : s.stilled.disc d = some r := (disc_congr discs).trans hr
  rw [disc_congr same]
  refine ⟨all.spares.final d r found, fun pending at_ => all.rejects d r found ⟨pending, at_⟩,
    fun n i x _ _ place here _ master image kind => ?_⟩
  refine all.masters n i d r x ⟨found, (masterOf_congr discs).trans master, place, ?_, kind⟩
    (((keepsField_of_discs discs).discAt _).trans here)
  rw [image?, cat]
  exact image

end State

/-- Settles O28, by the parts of CLEAR-TOWER in turn. -/
theorem clearTowerEmptiesTheTower : Obligations.ClearTowerEmptiesTheTower := by
  intro s p tag held
  have none_ : s.begin.sent = [] := rfl
  obtain ⟨rgu, streams, tsq, abort, halt⟩ := clearTower_transport none_
  have bay := clearTower_bay none_
  obtain ⟨-, station, spare, idle, loads⟩ := clearTower_kept none_
  have disc (d : DiscId) (r : Disc) (hr : s.begin.disc d = some r) := clearTower_disc none_ hr
  have job (k : Nat) (j : Job) (hj : s.begin.job? k = some j) := clearTower_job none_ hj
  have keeps : s.begin.Keeps s.begin.clearTower := clearTower_keeps
  have run (t : State) (ht : s.begin.clearTower = t) (sweeps : (t.answer p 20 tag (.good [])).AtArm) :
      exec (.clearTower p tag) s = .next { t.answer p 20 tag (.good []) with due := {} } :=
    congrArg Host.Outcome.next ((requestNow_settles held (congrArg (fun w => (w, Answer.good [])) ht)).trans
      (settle_of_atArm sweeps))
  generalize s.begin.clearTower = t at rgu streams tsq abort halt bay station spare idle loads disc job keeps run
  have lasts : t.Lasts { t.answer p 20 tag (.good []) with due := {} } :=
    answer_lasts.trans (.of_frame rfl rfl rfl rfl rfl rfl)
  have phase : t.tsq.phase = .sweeping .arm := congrArg (fun w => w.phase) tsq
  have move : t.tsq.arm.move = none := congrArg (fun w => w.arm.move) tsq
  refine ⟨_, run t rfl ⟨phase, move⟩, ?_⟩
  refine ⟨fun n => ?grant, ?waits, streams, phase, ?queue, move, ?tenure, ?out, ?rej, fun n => (bay n).2.2, loads, station.free,
    ?arm, ?motion, ?door, keeps.mem, keeps.sst, ?inA, ?inB, ?fault, halt, fun n => ⟨(bay n).1, abort n, fun h => ?bay⟩,
    disc, fun k j hj => ?job, idle, spare, station.loaded, station.reserved, station.kept⟩
  case grant =>
    change t.rgu.ledger[n] = none
    rw [rgu]
    exact Vector.getElem_replicate ..
  case waits => exact congrArg Rgu.queue rgu
  case queue => exact congrArg Tsq.queue tsq
  case tenure => exact congrArg Tsq.tenure tsq
  case out => exact congrArg (fun w => w.out.reserved) tsq
  case rej => exact congrArg (fun w => w.rej.reserved) tsq
  case arm => exact congrArg (fun w => w.arm.state) tsq
  case motion => exact congrArg (fun w => w.arm.motion) tsq
  case door => exact congrArg (fun w => w.door) tsq
  case inA => exact congrArg (fun w => w.inA) tsq
  case inB => exact congrArg (fun w => w.inB) tsq
  case fault => exact congrArg (fun w => w.arm.fault) tsq
  case bay => exact (bay n).2.1 h
  case job =>
    obtain ⟨v, hv, good, budget, live, dead⟩ := job k j hj
    refine ⟨v, hv, good, budget, fun alive ordered => ?_, dead⟩
    obtain ⟨⟨cleared, state⟩, told⟩ := live alive ordered
    exact ⟨cleared, state, fun new => told_lasts (told new) lasts⟩

end Sys2Proof.Machine
end
